-- ==== Sys2Proof/Word.lean ====
section
/-!
DEFINITION. The word types of the 2610 model: what the data sheet treats as bits (registers, record
fields, counters that wrap) is a bit vector; counts, indices and times are natural numbers.
-/

namespace Sys2Proof

/-- One byte. -/
abbrev Byte := BitVec 8
/-- A 16-bit field of a record (R186). -/
abbrev Half := BitVec 16
/-- A 32-bit register, result word or counter. -/
abbrev Word := BitVec 32
/-- A 64-bit host address (R186). -/
abbrev Addr := BitVec 64
/-- A tile's 48-bit serial number. -/
abbrev Serial := BitVec 48
/-- A frame sequence number, wrapping at 2^32 (R29). -/
abbrev Fsn := BitVec 32
/-- The 32-bit value that the host puts in a command record and gets back in its completion. -/
abbrev HostTag := BitVec 32
/-- A 64-byte command record, byte n in bits 8n+7..8n (R186, section 12.4). -/
abbrev CommandRecord := BitVec 512
/-- A 32-byte bootstrap record, byte n in bits 8n+7..8n (section 12.3). -/
abbrev BootRecord := BitVec 256

end Sys2Proof
end

