-- ==== Sys2Proof/Machine/Bits.lean ====
section
/-!
DEFINITION. Byte orders, the two checks, the comparison of wrapping counts, and rounding division.
-/

namespace Sys2Proof.Machine

/-- The n low bytes of v, least significant first: the order of registers and host records (R186). -/
def leBytes : Nat → Nat → List Byte
  | 0, _ => []
  | n + 1, v => BitVec.ofNat 8 v :: leBytes n (v / 256)

/-- The n low bytes of v, most significant first: the order of sideband frames and blanking packets (R186). -/
def beBytes (n v : Nat) : List Byte := (leBytes n v).reverse

/-- The number that bytes spell, least significant first. -/
def fromLe : List Byte → Nat
  | [] => 0
  | b :: bs => b.toNat + 256 * fromLe bs

/-- The number that bytes spell, most significant first. -/
def fromBe (bs : List Byte) : Nat := fromLe bs.reverse

/-- n bytes of value 0. -/
def zeros (n : Nat) : List Byte := List.replicate n 0

/-- bs followed by zero bytes to the length n. -/
def padTo (n : Nat) (bs : List Byte) : List Byte := bs ++ zeros (n - bs.length)

/-- A Boolean as bit k of a number. -/
def bitAt (k : Nat) (b : Bool) : Nat := if b then 2 ^ k else 0

/-- n steps of the CRC-8 register for x^8 + x^2 + x + 1, most significant bit first (R187). -/
def crc8Bits : Nat → Byte → Byte
  | 0, c => c
  | n + 1, c => crc8Bits n (if c.msb then (c <<< 1) ^^^ 0x07 else c <<< 1)

/-- The CRC-8 that guards sideband frames and slot headers (R187). -/
def crc8 (bs : List Byte) : Byte := bs.foldl (fun c b => crc8Bits 8 (c ^^^ b)) 0

/-- n steps of the reflected CRC-32 register, least significant bit first (R187). -/
def crc32Bits : Nat → Word → Word
  | 0, c => c
  | n + 1, c => crc32Bits n (if c.getLsbD 0 then (c >>> 1) ^^^ 0xEDB88320 else c >>> 1)

/-- The CRC-32 of the roster check value over a non-empty input (R187). -/
def crc32 (bs : List Byte) : Word :=
  ~~~ (bs.foldl (fun c b => crc32Bits 8 (c ^^^ b.zeroExtend 32)) 0xFFFFFFFF)

/-- a has reached b: a − b, modulo the width, is in the lower half (section 6.2). -/
def reached {w : Nat} (a b : BitVec w) : Bool := decide ((a - b).toNat < 2 ^ (w - 1))

/-- a has passed b (section 6.2). -/
def passed {w : Nat} (a b : BitVec w) : Bool := reached a (b + 1)

/-- a / b rounded up. -/
def ceilDiv (a b : Nat) : Nat := (a + b - 1) / b

/-- The slots of a payload of n bytes: 28 bytes to a slot (R116, R129). -/
def slotsFor (n : Nat) : Nat := ceilDiv n 28

/-- Entry i of a list changed by f. -/
def modifyAt {α : Type} (l : List α) (i : Nat) (f : α → α) : List α := l.modify i f

end Sys2Proof.Machine
end

