-- ==== Sys2Proof/Config.lean ====
section
/-!
DEFINITION. The free values: choices that the data sheet leaves open. Each is an opaque constant without a
body, so nothing can be proved of its value and a claim holds whatever it is.
-/

namespace Sys2Proof

/-- FREE VALUE (log entry 3). The n-th choice among things that the data sheet lets happen in either order:
which of several owners' records HIF writes next (R178, R180), which of several timers that expire at one
reference tick is taken first (R28, R153). -/
opaque Config.pick : Nat → Nat

/-- FREE VALUE (log entry 12). Whether the n-th boundary that comes while no line length is known counts as LINE,
where R23 has no line to reckon the quarter from. -/
opaque Config.firstAlignment : Nat → Bool

/-- FREE VALUE (log entry 8). How much of its image a copy has written when it fails or is stopped, the n-th time
that this happens. -/
opaque Config.copied : Nat → Nat

end Sys2Proof
end

