-- ==== Sys2Proof/Syntax.lean ====
section
/-!
DEFINITION. The commands of the 2610: one constructor of Instr for each row of spec/opcode_table.json. A row
that is a host command carries the fields of its 64-byte record as raw bits (section 12.4), so that the
owner's checks are made on what the host wrote. A row that is an event on a pin or the end of a transfer
carries what the part sees at that moment. Log entries 1, 2 and 4 say how the rows are read.
-/

namespace Sys2Proof

/-- The registers that a write changes nothing else by (row REGISTER_WRITE, R168). -/
inductive PlainReg where
  | ident | status | bootLo | bootHi
  deriving DecidableEq, Repr

/-- The level of a sync line. -/
inductive Level where
  | low | high
  deriving DecidableEq, Repr

/-- What FMON sees at an edge or code that may be an input boundary (R23). -/
inductive BoundaryInput where
  /-- An edge of PX_VS into the level edge, elapsed reference ticks after the model's present time. high and
  low are the lengths of the two levels in the complete PX_VS cycle that ends here, in reference ticks;
  offset is how many pixel periods ago the last PX_HS leading edge came. -/
  | sync (elapsed : Nat) (edge : Level) (high low offset : Nat)
  /-- The first decoded timing code with the vertical-blank flag set after one with it clear; field is its
  field flag. -/
  | code (elapsed : Nat) (field : Bool)
  deriving DecidableEq, Repr

/-- The PX_D lines over one pixel period: the word at the rising edge of PX_CLK, and the word at the falling
edge that follows, which only D12S uses (R157). -/
structure Sample where
  rising : BitVec 30
  falling : BitVec 30
  deriving DecidableEq, Repr

/-- The words of a stretch of pixel periods that a row carries; old tells how many of them came before the last
SET-PIXEL-INPUT that fell in the stretch, and early how many before the last frame start (R158, R159). -/
structure PixelWords where
  words : List Sample
  old : Nat
  early : Nat
  deriving DecidableEq, Repr

/-- An edge of PX_HS into a level. run is what PX_DE shows up to it, if PX_DE is asserted: the pixel periods since PX_DE
was asserted, or since the edge of PX_HS before if that came later. -/
structure LineEdge where
  level : Level
  run : PixelWords
  deriving DecidableEq, Repr

/-- Which ring a record write went to (row RECORD_WRITE_FAILURE). -/
inductive RecordKind where
  | completion | event
  deriving DecidableEq, Repr

/-- The commands, one for each row of spec/opcode_table.json, in the table's order. tag is the host tag of
the command record. -/
inductive Instr where
  | powerOnReset
  | peRst
  | functionReset
  | ifReset
  | enableSet
  | enableClear
  | irqEn (value : Bool)
  | registerWrite (reg : PlainReg) (value : Word)
  | producer (ring : BitVec 2) (index : BitVec 10)
  | completionRelease (index : BitVec 10)
  | eventRelease (index : BitVec 10)
  | cause (value : Word)
  /-- The bootstrap read ends: none for a failed read. -/
  | bootstrapReadEnd (record : Option BootRecord)
  | fetchBegin
  /-- The fetch in progress ends: none for a failed read. -/
  | commandTake (record : Option CommandRecord)
  | recordWriteFailure (kind : RecordKind)
  | drainComplete
  | createRing (tag : HostTag) (ringId : Byte) (base : Addr) (size : Half)
  | destroyRing (tag : HostTag) (ringId : Byte)
  | configureEvents (tag : HostTag) (base : Addr) (size : Half) (keepRing : Bool) (mask : Word)
  | readStatus (tag : HostTag) (addr : Addr) (len : Word)
  /-- The n-th status copy still in progress, oldest first, ends; ok is false for a failed write. -/
  | statusCopyEnd (n : Nat) (ok : Bool)
  | setSession (tag : HostTag) (autoEnum autoRefresh autoQuiet : Bool)
  | startLink (tag : HostTag)
  | stopLink (tag : HostTag)
  | quiet (tag : HostTag)
  | resume (tag : HostTag)
  | loadFormatEntry (tag : HostTag) (code : Byte) (clear interlaced : Bool) (ht ha vt va : Half) (rate : Word)
  | enumerate (tag : HostTag) (kind : Byte)
  | readRoster (tag : HostTag) (addr : Addr) (len : Word)
  /-- The n-th roster copy still in progress, oldest first, ends; ok is false for a failed write. -/
  | rosterCopyEnd (n : Nat) (ok : Bool)
  | setDenyList (tag : HostTag) (count : Byte) (apply : Bool) (addr : Addr)
  | denyListReadStart
  /-- The deny-list read ends: none for a failed read. -/
  | denyListReadEnd (data : Option (List Byte))
  | readDescriptor (tag : HostTag) (index : Byte) (serial : Serial) (addr : Addr) (len : Word)
  | descriptorRequestTurn
  /-- The descriptor copy in progress ends; ok is false for a failed write. -/
  | descriptorCopyEnd (ok : Bool)
  | dropDescriptors (tag : HostTag)
  | cancel (tag : HostTag) (target : HostTag)
  | setCadence (tag : HostTag) (mode factor reserve : Byte)
  | setStanding (tag : HostTag) (index enable period phase kindCode : Byte) (addr : Addr) (len : Byte)
  | standingPayloadReadStart
  /-- The standing payload read ends: none for a failed read. -/
  | standingPayloadReadEnd (data : Option (List Byte))
  | setAudio (tag : HostTag) (channels wordLength : Byte) (rate : Word)
  | setPixelInput (tag : HostTag) (mode method : Byte)
  /-- Nine coefficients in the order c00, c01, c02, c10 … c22 and three offsets. -/
  | loadTransform (tag : HostTag) (coeffs offsets : List Half) (range : Byte)
  | setFill (tag : HostTag) (c0 c1 c2 : Half)
  | send (tag : HostTag) (index : Byte) (broadcast ack : Bool) (cls : Byte) (deadline : Half)
      (serial : Serial) (addr : Addr) (len : Byte)
  | sendPayloadReadStart
  /-- The addressed payload read ends: none for a failed read. -/
  | sendPayloadReadEnd (data : Option (List Byte))
  /-- TL_PRES goes low, or, with returned set, comes back high. -/
  | tlPresLow (returned : Bool)
  | presenceDetected
  | presenceStable
  | presenceLost
  /-- term is the level that SES samples on TL_TERM if this is a frame start (R2). -/
  | inputBoundary (input : BoundaryInput) (term : Bool)
  | flywheelStart (term : Bool)
  | activityTimeout (term : Bool)
  | formatLocked
  | termination
  | trainingTimeout
  | lowerFitsExpiry
  | packetExpiry
  | ackDue
  /-- The pixel periods since the flag word of the code before, up to the flag word of a timing code: words are those
  before the last of them, with those of the code's first three that came in them, and last is the one with the flag
  word (R160). -/
  | timingCode (words : PixelWords) (last : Sample)
  | codeErrorLimit
  /-- AU_SD in the period that ends, as it stands at every rising edge of AU_BCK after the AU_WS edge that opens
  the half, oldest first: AU_SD[0] low half, AU_SD[0] high half, AU_SD[1] low half and so on, eight halves
  (R146). -/
  | sampleGroupComplete (halves : List (List Bool))
  | rateCheckWindowEnd
  | sidebandGrant
  | sidebandFrameReceived (frame : List Byte)
  /-- The response timer reaches 2 ms; frameArriving tells that a frame has begun and not ended (R44). -/
  | attemptTimeout (frameArriving : Bool)
  | releaseQuietEnd
  | attentionAsserted
  | attentionReleased
  | holdoffExpiry
  /-- An edge of PX_HS; high and low are the pixel periods of the two levels in the complete PX_HS cycle that ends
  here. -/
  | lineStart (edge : LineEdge) (high low : Nat)
  /-- PX_DE is negated: run is its pixel periods since it was asserted, or since the edge of PX_HS before if that came
  later. An edge of PX_HS at the same moment comes after this row. -/
  | activeRunEnd (run : PixelWords)
  | captureStart
  deriving DecidableEq, Repr

end Sys2Proof
end

