-- ==== Sys2Proof/Machine/State.lean ====
section
/-!
DEFINITION. The whole state of the 2610 as plain data, block by block, with the reset values that the head of
each chapter gives; the pins; the time; the queue of waiting commands; and what the part has sent out.
-/

namespace Sys2Proof.Machine

/-! ### Commands in flight, completions -/

/-- A command taken and not yet completed. id is the model's own and tells two commands with equal tags
apart; ring and index are what its completion record reports (section 11.5). -/
structure Handle where
  id : Nat
  tag : HostTag
  ring : Nat
  index : Nat
  deriving DecidableEq, Repr

/-- The completion statuses, in the order of their codes 0 to 23 (section 11.5). -/
inductive Status where
  | ok | truncated | busy | badParam | unknownCommand | wrongRing | exists_ | notReady | aborted | linkDown
  | targetGone | expired | cancelled | notDelivered | noResponse | superseded | tooLate | notFound
  | hostReadError | hostWriteError | descriptorBad | trainingFailed | noTermination | rootDenied
  deriving DecidableEq, Repr

/-- The blocks, as owners of what they hand to HIF (section 2). -/
inductive Owner where
  | hif | fmon | ses | sbc | rwk | dcr | bss | stt | apq | ain | pxp
  deriving DecidableEq, Repr

/-! ### Link session (SES, section 1) -/

/-- The session states, in the order of their codes 0 to 8. -/
inductive SessionState where
  | detached | settling | waiting | walking | ready | training | carrying | quiet | faulted
  deriving DecidableEq, Repr

/-- The causes of SESSION_CHANGED, in the order of their codes 0 to 14 (R3). -/
inductive SessionCause where
  | presenceDetected | presenceStable | presenceLost | walkBegin | walkEnd | hostStart | hostStop
  | linkLocked | trainingTimeout | termination | rootCheck | rootLost | rootDenied | quietEnter | quietLeave
  deriving DecidableEq, Repr

/-- The quiet reason set, a set over HOST, FORMAT and CADENCE (section 1.6). -/
structure QuietSet where
  host : Bool
  format : Bool
  cadence : Bool
  deriving DecidableEq, Repr

/-- The link check waiting or in flight (R18). training tells a check of TRAINING from one of CARRYING or
QUIET; stale is set once the session no longer wants its result (R9, R19). -/
structure LinkCheck where
  index : Nat
  serial : Serial
  c : Word
  training : Bool
  stale : Bool
  deriving DecidableEq, Repr

/-- A QUIET (isQuiet) or RESUME command that waits for the next frame start (R16). -/
structure PendingQuiet where
  isQuiet : Bool
  handle : Handle
  deriving DecidableEq, Repr

/-- The state of SES (head of section 1). formatDrop is implied by R17: a FORMAT_LOCKED has been posted and
the next frame start removes FORMAT. Timers hold the reference-tick time of their start. -/
structure Ses where
  session : SessionState
  lanes : Bool
  quiet : QuietSet
  autoEnum : Bool
  autoRefresh : Bool
  autoQuiet : Bool
  linkFrames : Word
  trainCount : Nat
  lockSeen : Bool
  termLoss : Nat
  lastTerm : Bool
  presence : Bool
  glitch : Option Nat
  linkCheck : Option LinkCheck
  cursor : Nat
  settle : Option Nat
  startLink : Option Handle
  pendingQuiet : List PendingQuiet
  formatDrop : Bool
  deriving DecidableEq, Repr

def Ses.reset : Ses where
  session := .detached
  lanes := false
  quiet := ⟨false, false, false⟩
  autoEnum := true
  autoRefresh := true
  autoQuiet := true
  linkFrames := 0
  trainCount := 0
  lockSeen := false
  termLoss := 0
  lastTerm := false
  presence := false
  glitch := none
  linkCheck := none
  cursor := 63
  settle := none
  startLink := none
  pendingQuiet := []
  formatDrop := false

/-! ### Format monitor (FMON, section 2) -/

inductive MonitorState where
  | noSignal | acquiring | locked
  deriving DecidableEq, Repr

/-- The alignment of an input boundary (R23). -/
inductive Alignment where
  | line | mid
  deriving DecidableEq, Repr

/-- The causes of FORMAT_LOST, in the order of their codes (R40, section 12.5). -/
inductive LossCause where
  | changed | invalid | noSignal | inputMode
  deriving DecidableEq, Repr

/-- A measurement record (section 2.4). The polarities are the active levels. -/
structure Measurement where
  ht : Nat
  ha : Nat
  vt : Nat
  va : Nat
  interlaced : Bool
  hPol : Level
  vPol : Level
  period : Nat
  deriving DecidableEq, Repr

/-- The measurement of the input frame in progress: the time of its opening boundary, the line lengths seen,
whether two lines differed (R31), whether a second-field boundary fell in it, and its invalid mark. lineHa is the
number of pixel periods of the present line for which PX_DE has been asserted, in the separate-sync modes. -/
structure OpenMeasurement where
  start : Nat
  ht : Option Nat
  ha : Option Nat
  vt : Nat
  va : Nat
  lineHa : Nat
  second : Bool
  differed : Bool
  invalid : Bool
  deriving DecidableEq, Repr

/-- A present entry of the format table (section 2.7). -/
structure FormatEntry where
  ht : Nat
  ha : Nat
  vt : Nat
  va : Nat
  interlaced : Bool
  rate : Nat
  deriving DecidableEq, Repr

/-- The current geometry (R39). period is the frame period kept for code 0, and 0 for the others. -/
structure Geometry where
  code : Nat
  ht : Nat
  ha : Nat
  vt : Nat
  va : Nat
  interlaced : Bool
  rate : Nat
  period : Nat
  deriving DecidableEq, Repr

/-- The built-in format entries, codes 1 to 24 (R36). -/
def builtInFormats : List FormatEntry :=
  [⟨2200, 1920, 1125, 1080, false, 60000⟩, ⟨1650, 1280, 750, 720, false, 60000⟩,
   ⟨858, 720, 525, 480, false, 59940⟩, ⟨4400, 3840, 2250, 2160, false, 30000⟩,
   ⟨2640, 1920, 1125, 1080, false, 50000⟩, ⟨1980, 1280, 750, 720, false, 50000⟩,
   ⟨864, 720, 625, 576, false, 50000⟩, ⟨2200, 1920, 1125, 1080, false, 30000⟩,
   ⟨2640, 1920, 1125, 1080, false, 25000⟩, ⟨2750, 1920, 1125, 1080, false, 24000⟩,
   ⟨2200, 1920, 1125, 1080, true, 30000⟩, ⟨2640, 1920, 1125, 1080, true, 25000⟩,
   ⟨5280, 3840, 2250, 2160, false, 25000⟩, ⟨5500, 3840, 2250, 2160, false, 24000⟩,
   ⟨3300, 1280, 750, 720, false, 30000⟩, ⟨3960, 1280, 750, 720, false, 25000⟩,
   ⟨858, 720, 525, 480, true, 29970⟩, ⟨864, 720, 625, 576, true, 25000⟩,
   ⟨800, 640, 525, 480, false, 59940⟩, ⟨1056, 800, 628, 600, false, 60317⟩,
   ⟨1344, 1024, 806, 768, false, 60004⟩, ⟨1688, 1280, 1066, 1024, false, 60020⟩,
   ⟨2080, 1920, 1235, 1200, false, 59950⟩, ⟨2720, 2560, 1481, 1440, false, 59951⟩]

/-- The geometry of code 1, which stands after power-on and function reset (R39). -/
def Geometry.reset : Geometry := ⟨1, 2200, 1920, 1125, 1080, false, 60000, 0⟩

/-- The state of FMON (head of section 2). The flywheel runs exactly in NO_SIGNAL, and its next start is
flyPeriod after lastFly. loadable holds codes 25 to 32. Implied by R23 and R30: codeV, the vertical-blank
flag of the last decoded code; vEdges and hEdges, the edges of PX_VS and PX_HS seen since observation began, up to
2; boundaryDue, a boundary that the last code makes and that row INPUT_BOUNDARY
acts on, with its field flag; sinceLine and sinceSav, the pixel periods since the last line start (in the separate-sync
modes up to the last edge of PX_HS) and since the last start-of-active code of an active line. -/
structure Fmon where
  monitor : MonitorState
  measuring : Option OpenMeasurement
  reference : Option Measurement
  equalCount : Nat
  prevAlign : Option Alignment
  activity : Option Nat
  flyPeriod : Nat
  flyRunning : Bool
  lastFly : Nat
  hLevel : Option Level
  vLevel : Option Level
  prevLine : Option Nat
  lossReport : Bool
  loadable : List (Option FormatEntry)
  geometry : Geometry
  fsn : Fsn
  codeV : Option Bool
  boundaryDue : Option Bool
  sinceLine : Option Nat
  sinceSav : Option Nat
  vEdges : Nat
  hEdges : Nat
  deriving DecidableEq, Repr

/-- FMON right after a reset that ends at the reference-tick time t. -/
def Fmon.reset (t : Nat) : Fmon where
  monitor := .noSignal
  measuring := none
  reference := none
  equalCount := 0
  prevAlign := none
  activity := none
  flyPeriod := 450000
  flyRunning := true
  lastFly := t
  hLevel := none
  vLevel := none
  prevLine := none
  lossReport := false
  loadable := List.replicate 8 none
  geometry := Geometry.reset
  fsn := 0
  codeV := none
  boundaryDue := none
  sinceLine := none
  sinceSav := none
  vEdges := 0
  hEdges := 0

/-! ### Sideband controller (SBC, section 3) -/

inductive ChannelState where
  | free | attempt | releaseQuiet
  deriving DecidableEq, Repr

/-- The five requesters (head of section 3). -/
inductive Requester where
  | wk | lc | ap | ac | dr
  deriving DecidableEq, Repr

/-- The request kinds, with codes 1 to 11 in this order (section 12.7). -/
inductive RequestKind where
  | releaseAll | probe | assign | open_ | close | verify | readBlock | linkCheck | getNotice | getReceipt
  | blank
  deriving DecidableEq, Repr

/-- A request as its requester places it (R51). -/
structure Request where
  dest : Byte
  kind : RequestKind
  params : List Byte
  deriving DecidableEq, Repr

/-- The kinds of a failed attempt (R44). -/
inductive FailKind where
  | noResponse | badCheck
  deriving DecidableEq, Repr

/-- The transaction in flight. orphan is implied by R80, R99 and R55: the work that placed it has ended, so
its outcome is discarded (for the attention poller: starts no further request). -/
structure Transaction where
  requester : Requester
  request : Request
  seq : BitVec 4
  attempt : Nat
  lastFailure : Option FailKind
  orphan : Bool
  deriving DecidableEq, Repr

/-- What a transaction ends with (R44, R45, R51, R58). -/
inductive TxOutcome where
  | response (data : List Byte)
  | refused
  | noResponse
  | badCheck
  | done
  | linkDown
  deriving DecidableEq, Repr

inductive PollState where
  | idle | round | holdoff
  deriving DecidableEq, Repr

/-- The state of SBC (head of section 3). The request set is one place for each requester. lateFrame is
implied by R44: the response timer has reached 2 ms while a frame was arriving. deferred is implied by R51: the
next request of the requester whose transaction is still in flight, which it places at the end of that one. Timers
hold the time of their start. -/
structure Sbc where
  channel : ChannelState
  inFlight : Option Transaction
  nextSeq : BitVec 4
  wkReq : Option Request
  lcReq : Option Request
  apReq : Option Request
  acReq : Option Request
  drReq : Option Request
  aging : Nat
  respTimer : Option Nat
  lateFrame : Bool
  quietTimer : Option Nat
  poll : PollState
  pollCursor : Option Nat
  noticeFound : Bool
  holdoff : Option Nat
  deferred : Option Request
  deriving DecidableEq, Repr

def Sbc.reset : Sbc where
  channel := .free
  inFlight := none
  nextSeq := 0
  wkReq := none
  lcReq := none
  apReq := none
  acReq := none
  drReq := none
  aging := 0
  respTimer := none
  lateFrame := false
  quietTimer := none
  poll := .idle
  pollCursor := none
  noticeFound := false
  holdoff := none
  deferred := none

/-! ### Roster and walker (RWK, section 4) -/

/-- The states of a roster entry, with codes 0 to 3 (R60, section 12.6). -/
inductive EntryState where
  | vacant | active | denied | lost
  deriving DecidableEq, Repr

/-- A roster entry (head of section 4). -/
structure Entry where
  state : EntryState
  serial : Serial
  parent : Option Nat
  port : Nat
  depth : Nat
  ports : Nat
  present : Byte
  stamp : Half
  miss : Nat
  suspect : Bool
  nextTag : Byte
  lostGen : Half
  verified : Bool
  deriving DecidableEq, Repr

/-- The values of a VACANT entry. -/
def Entry.vacant : Entry where
  state := .vacant
  serial := 0
  parent := none
  port := 0
  depth := 0
  ports := 0
  present := 0
  stamp := 0
  miss := 0
  suspect := false
  nextTag := 0
  lostGen := 0
  verified := false

inductive WalkKind where
  | full | refresh
  deriving DecidableEq, Repr

inductive WalkStarter where
  | enumerate | autoEnum | autoRefresh | apply
  deriving DecidableEq, Repr

/-- The walk outcomes, in the order of their codes 0 to 5 (section 12.5). -/
inductive WalkOutcome where
  | ok | depthLimit | countLimit | noRoot | aborted | linkDown
  deriving DecidableEq, Repr

/-- The record of the most recent walk to end (R78). -/
structure LastWalk where
  kind : WalkKind
  starter : WalkStarter
  outcome : WalkOutcome
  warnings : Nat
  generation : Half
  deriving DecidableEq, Repr

/-- What a tile reports in its PROBE response, the port count and mask already limited by R75. -/
structure Probe where
  serial : Serial
  ports : Nat
  present : Byte
  stamp : Half
  deriving DecidableEq, Repr

/-- Which transaction the walker waits for, implied by sections 4.4 to 4.7. -/
inductive WalkWait where
  /-- RELEASE-ALL of a full walk (R66). -/
  | release
  /-- PROBE on the 2610's own port (R67, R71). -/
  | rootProbe
  /-- ASSIGN of the root (R67, R76). -/
  | rootAssign (p : Probe)
  /-- VERIFY of entry 0 (R71). -/
  | rootVerify
  /-- OPEN of the top pair's port, with the known child to verify behind it (R68, R73). -/
  | openPort (child : Option Nat)
  /-- VERIFY of the known child (R73). -/
  | childVerify (index : Nat)
  /-- PROBE behind the top pair's port. -/
  | portProbe
  /-- ASSIGN of the tile found there; reuse tells the reuse of an entry from a new index (R75). -/
  | portAssign (index : Nat) (reuse : Bool) (p : Probe)
  /-- BLANK of the entry, at the root position or behind the top pair's port (R62). -/
  | blank (index : Nat) (root : Bool)
  /-- CLOSE, after which the port loop goes on. -/
  | close
  /-- The closing CLOSEs of the count limit, with the ports still to close as (index, port) (R70). -/
  | limitClose (rest : List (Nat × Nat))
  deriving DecidableEq, Repr

/-- A SET-DENY-LIST not yet stored (R63). -/
structure DenyWork where
  handle : Handle
  count : Nat
  apply : Bool
  addr : Addr
  deriving DecidableEq, Repr

/-- A copy by DMA in progress: where it goes, its image, and the result words of its OK (R83, R183). -/
structure Copy where
  handle : Handle
  addr : Addr
  image : List Byte
  word1 : Word
  word2 : Word
  deriving DecidableEq, Repr

/-- The state of RWK (head of section 4). The walk stack has its top first. Implied: wait, the walker's
transaction; denyReading, the read of the deny-list work's head; copies, the READ-ROSTERs in flight. -/
structure Rwk where
  roster : List Entry
  generation : Half
  check : Word
  denyList : List Serial
  walking : Bool
  kind : WalkKind
  starter : WalkStarter
  stack : List (Nat × Nat)
  depthMark : Bool
  countMark : Bool
  warnings : Nat
  enumerate : Option Handle
  lastWalk : Option LastWalk
  denyWork : List DenyWork
  wait : Option WalkWait
  denyReading : Bool
  copies : List Copy
  deriving DecidableEq, Repr

def Rwk.reset : Rwk where
  roster := List.replicate 64 Entry.vacant
  generation := 0
  check := 0
  denyList := []
  walking := false
  kind := .full
  starter := .enumerate
  stack := []
  depthMark := false
  countMark := false
  warnings := 0
  enumerate := none
  lastWalk := none
  denyWork := []
  wait := none
  denyReading := false
  copies := []

/-! ### Descriptor cache and reader (DCR, section 5) -/

/-- A cache entry. It is VALID once blocks holds count blocks and FILLING before (R88). -/
structure CacheEntry where
  serial : Serial
  stamp : Half
  count : Nat
  blocks : List (List Byte)
  valid : Bool
  deriving DecidableEq, Repr

/-- A READ-DESCRIPTOR in the queue. group is set while the request is served with a running group of copies
(R96), hit when its completion is to carry the hit mark. -/
structure DescRequest where
  handle : Handle
  serial : Serial
  addr : Addr
  len : Nat
  group : Bool
  hit : Bool
  deriving DecidableEq, Repr

/-- The sideband read of the request at the head of the queue (head of section 5). -/
structure ReadContext where
  address : Nat
  stamp : Half
  restarted : Bool
  count : Option Nat
  block : Nat
  reread : Nat
  deriving DecidableEq, Repr

/-- The state of DCR (head of section 5). The cache list is in LRU order, least recent first. removal names
the entry with the removal mark by its serial. copying is implied: the serial whose entry a group of copies
runs from. -/
structure Dcr where
  cache : List CacheEntry
  queue : List DescRequest
  context : Option ReadContext
  held : Option TxOutcome
  removal : Option Serial
  copying : Option Serial
  deriving DecidableEq, Repr

def Dcr.reset : Dcr where
  cache := []
  queue := []
  context := none
  held := none
  removal := none
  copying := none

/-! ### Blanking slot scheduler (BSS, section 6) -/

inductive CadenceMode where
  | auto | floor | fixed
  deriving DecidableEq, Repr

/-- The pending cadence record (R109). -/
structure PendingCadence where
  mode : CadenceMode
  factor : Nat
  reserve : Nat
  handle : Handle
  deriving DecidableEq, Repr

/-- An addressed packet as a frame plan holds it. -/
structure PlacedPacket where
  dest : Byte
  slots : Nat
  deriving DecidableEq, Repr

/-- A frame plan (section 6.8). -/
structure Plan where
  fsn : Fsn
  factor : Nat
  slots : Nat
  standing : List (Nat × Nat)
  skipped : List Nat
  audioPackets : Nat
  audioGroups : Nat
  addressed : List PlacedPacket
  quiet : Bool
  deriving DecidableEq, Repr

/-- The state of BSS (head of section 6). -/
structure Bss where
  mode : CadenceMode
  hostFactor : Nat
  reserve : Nat
  factor : Nat
  announced : Option Nat
  lowerFits : Nat
  shortfall : Bool
  pending : Option PendingCadence
  plan : Option Plan
  deriving DecidableEq, Repr

def Bss.reset : Bss where
  mode := .auto
  hostFactor := 1
  reserve := 8
  factor := 1
  announced := none
  lowerFits := 0
  shortfall := false
  pending := none
  plan := none

/-! ### Standing table (STT, section 7) -/

/-- The pending record of a standing entry (R121). -/
structure PendingStanding where
  enabled : Bool
  period : Nat
  phase : Nat
  kind : Byte
  payload : List Byte
  handle : Handle
  deriving DecidableEq, Repr

/-- A standing entry (head of section 7). Its slots are computed from the payload length. -/
structure StandingEntry where
  enabled : Bool
  period : Nat
  phase : Nat
  kind : Byte
  payload : List Byte
  version : Byte
  pending : Option PendingStanding
  deriving DecidableEq, Repr

/-- A disabled, empty entry. -/
def StandingEntry.empty : StandingEntry := ⟨false, 1, 0, 0, [], 0, none⟩

/-- A SET-STANDING taken and not yet stored or refused (R119). -/
structure StandingWork where
  handle : Handle
  index : Nat
  enabled : Bool
  period : Nat
  phase : Nat
  kind : Byte
  addr : Addr
  len : Nat
  deriving DecidableEq, Repr

/-- The state of STT (head of section 7). reading tells that the payload read of the work list's head is in
progress. -/
structure Stt where
  entries : List StandingEntry
  work : List StandingWork
  reading : Bool
  deriving DecidableEq, Repr

/-- FORMAT as R124 gives it after a reset: code 1, HA 1920, VA 1080, factor 1. -/
def formatPayloadReset : List Byte :=
  [1, 0, 0x07, 0x80, 0x04, 0x38, 1, 0, 0, 0, 0, 0, 0, 0, 0, 0]

def Stt.reset : Stt where
  entries := ⟨true, 1, 0, 0, formatPayloadReset, 0, none⟩
    :: ⟨true, 1, 0, 0, [0, 0, 0, 0, 0, 0], 0, none⟩
    :: List.replicate 14 StandingEntry.empty
  work := []
  reading := false

/-! ### Addressed packet queues (APQ, section 8) -/

inductive PacketClass where
  | urgent | normal | bulk
  deriving DecidableEq, Repr

inductive Target where
  | tile (index : Nat) (serial : Serial)
  | broadcast
  deriving DecidableEq, Repr

/-- A packet in the pool (head of section 8). addr and len are where its payload is read from. -/
structure Packet where
  handle : Handle
  target : Target
  cls : PacketClass
  ack : Bool
  deadline : Option Fsn
  addr : Addr
  len : Nat
  payload : List Byte
  tag : Option Byte
  attempts : Nat
  placed : Option Fsn
  due : Bool
  cancel : Option Status
  deriving DecidableEq, Repr

/-- The state of APQ (head of section 8). The pool is the packets of the five lists; its other buffers are
free. reading tells that the payload read of the fetch list's head is in progress. acPacket names the packet
of the ack collector's request by its handle's id. -/
structure Apq where
  fetching : List Packet
  reading : Bool
  urgent : List Packet
  normal : List Packet
  bulk : List Packet
  awaiting : List Packet
  starve : Nat
  acPacket : Option Nat
  held : Option TxOutcome
  deriving DecidableEq, Repr

def Apq.reset : Apq where
  fetching := []
  reading := false
  urgent := []
  normal := []
  bulk := []
  awaiting := []
  starve := 0
  acPacket := none
  held := none

/-! ### Audio intake (AIN, section 9) -/

/-- An audio format other than off. -/
structure AudioFormat where
  channels : Nat
  rate : Nat
  wordLength : Nat
  deriving DecidableEq, Repr

inductive AudioState where
  | off | filling | flowing | halted
  deriving DecidableEq, Repr

/-- The pending audio record: none for off (R147). -/
structure PendingAudio where
  format : Option AudioFormat
  handle : Handle
  deriving DecidableEq, Repr

/-- A running rate-check window: its start time and its count of word-select periods (R153). -/
structure RateWindow where
  start : Nat
  edges : Nat
  deriving DecidableEq, Repr

/-- The state of AIN (head of section 9). A group is one 24-bit left-justified sample for each channel.
capturing is the capture phase CAPTURING. -/
structure Ain where
  format : Option AudioFormat
  pending : Option PendingAudio
  audio : AudioState
  fifo : List (List (BitVec 24))
  armed : Bool
  capturing : Bool
  window : Option RateWindow
  deriving DecidableEq, Repr

def Ain.reset : Ain where
  format := none
  pending := none
  audio := .off
  fifo := []
  armed := true
  capturing := false
  window := none

/-! ### Pixel path (PXP, section 10) -/

/-- The input modes, with codes 0 to 5 (R157, section 12.4). -/
inductive InputMode where
  | p24s | p30s | c16s | c16e | c20e | d12s
  deriving DecidableEq, Repr

inductive ChromaMethod where
  | repeated | average
  deriving DecidableEq, Repr

inductive OutputRange where
  | full | narrow
  deriving DecidableEq, Repr

inductive FrameSource where
  | input | fill
  deriving DecidableEq, Repr

/-- Three channel values. -/
structure Pixel where
  c0 : Nat
  c1 : Nat
  c2 : Nat
  deriving DecidableEq, Repr

/-- Nine coefficients in the order c00, c01, c02, c10 … c22 and three offsets (R163). -/
structure Transform where
  coeffs : List Int
  offsets : List Int
  deriving DecidableEq, Repr

def Transform.identity : Transform := ⟨[4096, 0, 0, 0, 4096, 0, 0, 0, 4096], [0, 0, 0]⟩

structure PendingTransform where
  transform : Transform
  range : OutputRange
  handle : Handle
  deriving DecidableEq, Repr

structure PendingFill where
  fill : Pixel
  handle : Handle
  deriving DecidableEq, Repr

/-- The state of PXP (head of section 10). active is the line phase ACTIVE. Implied by R158 and R159: run holds the
words of the active run of the present line, and picture the lines that the frame in progress has taken from the
input, in order of arrival; lineOpen tells that PX_DE has been negated after a run of the present line, which a further
assertion in the same line continues; cut and newFrame tell that a SET-PIXEL-INPUT and a frame start have come since the
last row that carried words. Implied by R160: lastFlag is the flag word of the last code where it was all ones, since
another code may begin with it; no pixel period of it has been counted yet. -/
structure Pxp where
  mode : InputMode
  method : ChromaMethod
  transform : Transform
  range : OutputRange
  pendingTransform : Option PendingTransform
  fill : Pixel
  pendingFill : Option PendingFill
  active : Bool
  pictureMark : Bool
  lineCount : Nat
  pixelCount : Nat
  codeErrors : Nat
  errorReported : Bool
  source : FrameSource
  run : List Sample
  picture : List (List Pixel)
  lineOpen : Bool
  cut : Bool
  newFrame : Bool
  lastFlag : Option Sample
  deriving DecidableEq, Repr

def Pxp.reset : Pxp where
  mode := .p24s
  method := .repeated
  transform := Transform.identity
  range := .full
  pendingTransform := none
  fill := ⟨0, 0, 0⟩
  pendingFill := none
  active := false
  pictureMark := false
  lineCount := 0
  pixelCount := 0
  codeErrors := 0
  errorReported := false
  source := .fill
  run := []
  picture := []
  lineOpen := false
  cut := false
  newFrame := false
  lastFlag := none

/-! ### Host interface (HIF, section 11) -/

inductive HifState where
  | disabled | running | draining | fatal
  deriving DecidableEq, Repr

/-- The fatal causes, in the order of their codes 0 to 6 (R182, section 12.2). -/
inductive FatalCause where
  | none | bootRead | ctrlFetch | streamFetch | dispatchFetch | completionWrite | eventWrite
  deriving DecidableEq, Repr

/-- A command ring: base, size in records, producer and consumer index. -/
structure Ring where
  base : Addr
  size : Nat
  prod : Nat
  cons : Nat
  deriving DecidableEq, Repr

/-- The completion ring or the event ring: base, size in records, write index, write phase and the host
consumer index. -/
structure RecordRing where
  base : Addr
  size : Nat
  write : Nat
  phase : Bool
  host : Nat
  deriving DecidableEq, Repr

/-- The state of HIF (head of section 11). rings holds ring ids 0 to 2. The taken count is the length of
inFlight plus the fetch in progress. producerReg and consumerReg are the values that the two registers read
back (R172, R178). Implied: copies, the READ-STATUSes in flight. nextId is the model's own and numbers the
commands taken. -/
structure Hif where
  state : HifState
  enable : Bool
  irqEn : Bool
  bootLo : Word
  bootHi : Word
  bootReading : Bool
  configError : Bool
  fatalCause : FatalCause
  rings : List (Option Ring)
  lastRing : Nat
  fetch : Option Nat
  comp : Option RecordRing
  inFlight : List Handle
  event : Option RecordRing
  mask : Word
  overrun : Nat
  causeCompletion : Bool
  causeEvent : Bool
  causeFatal : Bool
  producerReg : Word
  consumerReg : Word
  copies : List Copy
  nextId : Nat
  deriving DecidableEq, Repr

/-- HIF after any of its resets (R184). The number of the next command goes on, so that a command taken
before the reset is never taken for one after it. -/
def Hif.reset (nextId : Nat) : Hif where
  state := .disabled
  enable := false
  irqEn := false
  bootLo := 0
  bootHi := 0
  bootReading := false
  configError := false
  fatalCause := .none
  rings := [none, none, none]
  lastRing := 2
  fetch := none
  comp := none
  inFlight := []
  event := none
  mask := 0
  overrun := 0
  causeCompletion := false
  causeEvent := false
  causeFatal := false
  producerReg := 0
  consumerReg := 0
  copies := []
  nextId := nextId

/-! ### Events, hand-overs, outputs -/

/-- The fields that an ENUMERATE completion and WALK_DONE carry (R79). -/
structure WalkReport where
  outcome : WalkOutcome
  count : Nat
  warnings : Nat
  generation : Half
  check : Word
  deriving DecidableEq, Repr

/-- The events with their fields, kinds 1 to 16 in this order (section 12.5). -/
inductive Event where
  | presenceUp
  | presenceDown
  | sessionChanged (new old : SessionState) (cause : SessionCause) (quiet : QuietSet)
  | formatLocked (g : Geometry)
  | formatLost (code : Nat) (cause : LossCause)
  | walkStarted (kind : WalkKind) (starter : WalkStarter) (generation : Half)
  | walkDone (kind : WalkKind) (starter : WalkStarter) (report : WalkReport)
  | tileNotice (index : Nat) (kind arg : Byte) (serial : Serial)
  | tileSuspect (index : Nat) (miss : Nat) (serial : Serial)
  | tileRecovered (index : Nat) (miss : Nat) (serial : Serial)
  | capacityShort (skipped : Bool) (planFactor needed : Nat) (demand slots : Nat)
  | cadenceChanged (old new : Nat) (mode : CadenceMode) (demand : Nat)
  | audioOverflow (audio : AudioState) (channels rate : Nat)
  | audioRateMismatch (left : AudioState) (declared measured : Nat)
  | audioRateRestored (declared measured : Nat)
  | eventOverrun (count : Nat)
  deriving DecidableEq, Repr

/-- What an owner hands to HIF within one step: the completion of a command, or an event. -/
inductive HandedItem where
  | completion (handle : Handle) (status : Status) (word1 word2 : Word)
  | event (e : Event)
  deriving DecidableEq, Repr

structure Handed where
  owner : Owner
  item : HandedItem
  deriving DecidableEq, Repr

/-- What a link frame carries in its active region (R7, R166). -/
inductive LinkContent where
  | training | input | fill
  deriving DecidableEq, Repr

/-- What the part sends at its interfaces. -/
inductive Output where
  /-- A DMA read of host memory starts. -/
  | hostRead (addr : Addr) (len : Nat)
  /-- A DMA write of host memory. -/
  | hostWrite (addr : Addr) (bytes : List Byte)
  /-- A message-signalled interrupt (R181). -/
  | msi
  /-- A frame on SB_DATA (R42). -/
  | sideband (frame : List Byte)
  /-- The link frame opened by a frame start: its FSN, what its active region shows, its factor, the geometry it is
  sent in, and the packets of its plan in order, each as its slots of 40 bytes (R7). -/
  | linkFrame (fsn : Fsn) (content : LinkContent) (factor : Nat) (geometry : Geometry) (packets : List (List Byte))
  /-- The lanes go on or off; going off ends the current link frame at once (R7). -/
  | lanes (on : Bool)
  deriving DecidableEq, Repr

/-- The input pins as the part sees them now: TL_PRES, TL_TERM as last sampled, SB_ATTN#, and the MSI enable
of the PCIe configuration space. -/
structure Pins where
  pres : Bool
  term : Bool
  attn : Bool
  msiEnable : Bool
  deriving DecidableEq, Repr

/-- The state of the 2610. now is the reference-tick time since the model began; handed holds what owners
have handed to HIF within the step in progress and is empty between steps; out is everything sent so far,
oldest first; choices counts the free choices made; pending is the queue of waiting commands. -/
structure State where
  ses : Ses
  fmon : Fmon
  sbc : Sbc
  rwk : Rwk
  dcr : Dcr
  bss : Bss
  stt : Stt
  apq : Apq
  ain : Ain
  pxp : Pxp
  hif : Hif
  pins : Pins
  now : Nat
  handed : List Handed
  out : List Output
  choices : Nat
  pending : List Instr
  deriving DecidableEq, Repr

/-- The machine right after power-on reset, every block at its reset value. -/
def State.reset : State where
  ses := Ses.reset
  fmon := Fmon.reset 0
  sbc := Sbc.reset
  rwk := Rwk.reset
  dcr := Dcr.reset
  bss := Bss.reset
  stt := Stt.reset
  apq := Apq.reset
  ain := Ain.reset
  pxp := Pxp.reset
  hif := Hif.reset 0
  pins := ⟨false, false, false, false⟩
  now := 0
  handed := []
  out := []
  choices := 0
  pending := []

/-- The reasons to stop with a fault. The data sheet gives none: every error it describes is a state the part
enters (FATAL, FAULTED), a completion status or an event, and the part goes on. -/
inductive Fault where
  deriving DecidableEq, Repr

/-- The reasons to refuse a command. -/
inductive Refusal where
  /-- Raised by exec for a row of the opcode table without a meaning. Safe: nothing is claimed of the row. -/
  | notModelled (mnemonic : String)
  deriving DecidableEq, Repr

end Sys2Proof.Machine
end

