-- ==== Sys2Proof/Machine/Records.lean ====
section
/-!
DEFINITION. The codes of enumerated values and the layouts of the records that the part writes: completions,
events, roster and status records, sideband request frames and blanking packets (section 12).
-/

namespace Sys2Proof.Machine

/-! ### Codes (R186) -/

def Status.code : Status → Nat
  | .ok => 0 | .truncated => 1 | .busy => 2 | .badParam => 3 | .unknownCommand => 4 | .wrongRing => 5
  | .exists_ => 6 | .notReady => 7 | .aborted => 8 | .linkDown => 9 | .targetGone => 10 | .expired => 11
  | .cancelled => 12 | .notDelivered => 13 | .noResponse => 14 | .superseded => 15 | .tooLate => 16
  | .notFound => 17 | .hostReadError => 18 | .hostWriteError => 19 | .descriptorBad => 20
  | .trainingFailed => 21 | .noTermination => 22 | .rootDenied => 23

def SessionState.code : SessionState → Nat
  | .detached => 0 | .settling => 1 | .waiting => 2 | .walking => 3 | .ready => 4 | .training => 5
  | .carrying => 6 | .quiet => 7 | .faulted => 8

def SessionCause.code : SessionCause → Nat
  | .presenceDetected => 0 | .presenceStable => 1 | .presenceLost => 2 | .walkBegin => 3 | .walkEnd => 4
  | .hostStart => 5 | .hostStop => 6 | .linkLocked => 7 | .trainingTimeout => 8 | .termination => 9
  | .rootCheck => 10 | .rootLost => 11 | .rootDenied => 12 | .quietEnter => 13 | .quietLeave => 14

/-- The byte of a quiet reason set: HOST bit 0, FORMAT bit 1, CADENCE bit 2 (R186). -/
def QuietSet.code (q : QuietSet) : Nat := bitAt 0 q.host + bitAt 1 q.format + bitAt 2 q.cadence

def QuietSet.isEmpty (q : QuietSet) : Bool := !(q.host || q.format || q.cadence)

def MonitorState.code : MonitorState → Nat
  | .noSignal => 0 | .acquiring => 1 | .locked => 2

def LossCause.code : LossCause → Nat
  | .changed => 0 | .invalid => 1 | .noSignal => 2 | .inputMode => 3

def RequestKind.code : RequestKind → Nat
  | .releaseAll => 1 | .probe => 2 | .assign => 3 | .open_ => 4 | .close => 5 | .verify => 6
  | .readBlock => 7 | .linkCheck => 8 | .getNotice => 9 | .getReceipt => 10 | .blank => 11

def EntryState.code : EntryState → Nat
  | .vacant => 0 | .active => 1 | .denied => 2 | .lost => 3

def WalkKind.code : WalkKind → Nat
  | .full => 0 | .refresh => 1

def WalkStarter.code : WalkStarter → Nat
  | .enumerate => 0 | .autoEnum => 1 | .autoRefresh => 2 | .apply => 3

def WalkOutcome.code : WalkOutcome → Nat
  | .ok => 0 | .depthLimit => 1 | .countLimit => 2 | .noRoot => 3 | .aborted => 4 | .linkDown => 5

def CadenceMode.code : CadenceMode → Nat
  | .auto => 0 | .floor => 1 | .fixed => 2

def PacketClass.code : PacketClass → Nat
  | .urgent => 0 | .normal => 1 | .bulk => 2

def AudioState.code : AudioState → Nat
  | .off => 0 | .filling => 1 | .flowing => 2 | .halted => 3

def InputMode.code : InputMode → Nat
  | .p24s => 0 | .p30s => 1 | .c16s => 2 | .c16e => 3 | .c20e => 4 | .d12s => 5

def ChromaMethod.code : ChromaMethod → Nat
  | .repeated => 0 | .average => 1

def OutputRange.code : OutputRange → Nat
  | .full => 0 | .narrow => 1

def HifState.code : HifState → Nat
  | .disabled => 0 | .running => 1 | .draining => 2 | .fatal => 3

def FatalCause.code : FatalCause → Nat
  | .none => 0 | .bootRead => 1 | .ctrlFetch => 2 | .streamFetch => 3 | .dispatchFetch => 4
  | .completionWrite => 5 | .eventWrite => 6

/-- A field value as a result word. -/
def word (n : Nat) : Word := BitVec.ofNat 32 n

/-! ### Completion records (section 12.5) -/

def completionBytes (h : Handle) (phase : Bool) (st : Status) (w1 w2 : Word) : List Byte :=
  leBytes 4 h.tag.toNat ++ leBytes 1 (h.ring % 4 + bitAt 7 phase) ++ leBytes 1 st.code
    ++ leBytes 2 h.index ++ leBytes 4 w1.toNat ++ leBytes 4 w2.toNat

/-- The first word of an ENUMERATE completion, which WALK_DONE carries too (R79). -/
def WalkReport.word1 (r : WalkReport) : Word :=
  word (r.outcome.code + 2 ^ 3 * r.warnings + 2 ^ 9 * r.count + 2 ^ 16 * r.generation.toNat)

/-! ### Event records (section 12.5) -/

/-- The event kinds, 1 to 16. -/
def Event.kind : Event → Nat
  | .presenceUp => 1
  | .presenceDown => 2
  | .sessionChanged .. => 3
  | .formatLocked .. => 4
  | .formatLost .. => 5
  | .walkStarted .. => 6
  | .walkDone .. => 7
  | .tileNotice .. => 8
  | .tileSuspect .. => 9
  | .tileRecovered .. => 10
  | .capacityShort .. => 11
  | .cadenceChanged .. => 12
  | .audioOverflow .. => 13
  | .audioRateMismatch .. => 14
  | .audioRateRestored .. => 15
  | .eventOverrun .. => 16

/-- The three bytes of the short field. -/
def Event.short : Event → List Byte
  | .sessionChanged n o c _ => leBytes 1 n.code ++ leBytes 1 o.code ++ leBytes 1 c.code
  | .formatLocked g => leBytes 3 g.rate
  | .formatLost code c => leBytes 1 code ++ leBytes 1 c.code ++ [0]
  | .walkStarted k st _ => leBytes 1 k.code ++ leBytes 1 st.code ++ [0]
  | .walkDone k st _ => leBytes 1 k.code ++ leBytes 1 st.code ++ [0]
  | .tileNotice i k a _ => leBytes 1 i ++ [k, a]
  | .tileSuspect i m _ => leBytes 1 i ++ leBytes 1 m ++ [0]
  | .tileRecovered i m _ => leBytes 1 i ++ leBytes 1 m ++ [0]
  | .capacityShort k f n _ _ => leBytes 1 (bitAt 0 k) ++ leBytes 1 f ++ leBytes 1 n
  | .cadenceChanged o n m _ => leBytes 1 o ++ leBytes 1 n ++ leBytes 1 m.code
  | .audioOverflow a c _ => leBytes 1 a.code ++ leBytes 1 c ++ [0]
  | .audioRateMismatch a _ _ => leBytes 1 a.code ++ [0, 0]
  | _ => [0, 0, 0]

/-- The eight bytes of the long field. -/
def Event.long : Event → List Byte
  | .sessionChanged _ _ _ q => padTo 8 (leBytes 1 q.code)
  | .formatLocked g =>
      leBytes 8 (g.ht + 2 ^ 13 * g.ha + 2 ^ 26 * g.vt + 2 ^ 38 * g.va + bitAt 50 g.interlaced
        + 2 ^ 56 * g.code)
  | .walkStarted _ _ gen => padTo 8 (leBytes 2 gen.toNat)
  | .walkDone _ _ r => leBytes 4 r.word1.toNat ++ leBytes 4 r.check.toNat
  | .tileNotice _ _ _ sn => padTo 8 (leBytes 6 sn.toNat)
  | .tileSuspect _ _ sn => padTo 8 (leBytes 6 sn.toNat)
  | .tileRecovered _ _ sn => padTo 8 (leBytes 6 sn.toNat)
  | .capacityShort _ _ _ d sl => leBytes 4 d ++ leBytes 4 sl
  | .cadenceChanged _ _ _ d => padTo 8 (leBytes 4 d)
  | .audioOverflow _ _ r => padTo 8 (leBytes 4 r)
  | .audioRateMismatch _ d m => leBytes 4 d ++ leBytes 4 m
  | .audioRateRestored d m => leBytes 4 d ++ leBytes 4 m
  | .eventOverrun n => padTo 8 (leBytes 4 n)
  | _ => zeros 8

def eventBytes (fsn : Fsn) (phase : Bool) (e : Event) : List Byte :=
  leBytes 1 (e.kind + bitAt 7 phase) ++ e.short ++ leBytes 4 fsn.toNat ++ e.long

/-! ### The roster image (R83, section 12.6) -/

/-- A 32-byte roster entry record. An absent parent index is written as 0. -/
def entryBytes (e : Entry) : List Byte :=
  padTo 32 (leBytes 1 e.state.code ++ leBytes 1 (bitAt 0 e.parent.isSome + bitAt 1 e.suspect)
    ++ leBytes 1 (e.parent.getD 0) ++ leBytes 1 e.port ++ leBytes 1 e.depth
    ++ leBytes 1 e.ports ++ [e.present] ++ leBytes 1 e.miss
    ++ leBytes 8 e.serial.toNat ++ leBytes 2 e.stamp.toNat ++ [e.nextTag, 0] ++ leBytes 2 e.lostGen.toNat)

/-- The 64-byte roster header. With no last-walk record bytes 8 to 15 are 0 (R83; of bytes 9 to 15, log entry 41). -/
def rosterHeader (generation : Half) (count denyCount : Nat) (check : Word) (last : Option LastWalk) :
    List Byte :=
  padTo 64 (leBytes 2 generation.toNat ++ leBytes 1 count ++ leBytes 1 denyCount ++ leBytes 4 check.toNat
    ++ (match last with
      | none => zeros 8
      | some w => [1] ++ leBytes 1 w.kind.code ++ leBytes 1 w.starter.code ++ leBytes 1 w.outcome.code
          ++ leBytes 1 w.warnings ++ [0] ++ leBytes 2 w.generation.toNat))

/-! ### Sideband request frames (section 12.7) -/

def requestFrame (r : Request) (seq : BitVec 4) : List Byte :=
  let body := [r.dest] ++ leBytes 1 (16 * seq.toNat + r.kind.code) ++ leBytes 1 r.params.length ++ r.params
  body ++ [crc8 body]

/-! ### Blanking packets (section 12.8) -/

/-- The kind of a blanking packet. -/
inductive PacketType where
  | standing | addressed | audio
  deriving DecidableEq, Repr

def PacketType.code : PacketType → Nat
  | .standing => 0 | .addressed => 1 | .audio => 2

/-- A slot header; a, b and c are bytes 6, 7 and 8. -/
def slotHeader (ty : PacketType) (slot count len : Nat) (fsn : Fsn) (a b c : Byte) : List Byte :=
  let body := leBytes 1 (ty.code + 4 * slot + 16 * (count - 1)) ++ leBytes 1 len ++ beBytes 4 fsn.toNat
    ++ [a, b, c, 0, 0]
  body ++ [crc8 body]

/-- The slots of a packet from number k on: each a header and 28 payload bytes, zero after the payload's end
(R116, R129). -/
def packetSlots (ty : PacketType) (count len : Nat) (fsn : Fsn) (a b c : Byte) :
    Nat → Nat → List Byte → List Byte
  | 0, _, _ => []
  | n + 1, k, payload =>
      slotHeader ty k count len fsn a b c ++ padTo 28 (payload.take 28)
        ++ packetSlots ty count len fsn a b c n (k + 1) (payload.drop 28)

/-- A whole blanking packet. -/
def packetBytes (ty : PacketType) (fsn : Fsn) (a b c : Byte) (payload : List Byte) : List Byte :=
  packetSlots ty (slotsFor payload.length) payload.length fsn a b c (slotsFor payload.length) 0 payload

end Sys2Proof.Machine
end

