-- ==== Sys2Proof/Machine/Operands.lean ====
section
/-!
DEFINITION. How the part reads what arrives at its pins: sideband frames, embedded timing codes, sync levels,
audio bits and pixel words; and the colour path that a pixel takes.
-/

namespace Sys2Proof.Machine

/-! ### Sideband response frames (R43, R188, section 12.7) -/

/-- A frame whose byte count and check are good. -/
structure ResponseFrame where
  source : Byte
  seq : BitVec 4
  ack : Bool
  data : List Byte
  deriving DecidableEq, Repr

/-- A received frame, or none where its byte count differs from the data length plus 4, the data length
exceeds 130, or its CRC-8 fails (R188). Bits 3:1 of byte 1 are ignored (log entry 41). -/
def parseResponse (f : List Byte) : Option ResponseFrame :=
  match f with
  | src :: hdr :: len :: rest =>
    if len.toNat ≤ 130 ∧ f.length = len.toNat + 4 ∧ crc8 f.dropLast = f.getLastD 0 then
      some ⟨src, hdr.extractLsb' 4 4, hdr.getLsbD 0, rest.take len.toNat⟩
    else none
  | _ => none

/-- The data length of a kind's ACK response (section 3.1). -/
def ackLength : RequestKind → Nat
  | .probe => 10
  | .verify => 9
  | .readBlock => 129
  | .linkCheck => 5
  | .getNotice => 2
  | .getReceipt => 2
  | _ => 0

/-- The source address of a request's response (section 3.1): 0x7F for PROBE, the assigned address for
ASSIGN, the destination for the others. -/
def responseSource (r : Request) : Byte :=
  match r.kind with
  | .probe => 0x7F
  | .assign => r.params.headD 0
  | _ => r.dest

/-- The PROBE response's data, the port count taken as at most 4 and the mask bits at or above it as clear
(R75). -/
def probeOf (data : List Byte) : Probe :=
  let ports := min 4 (data.getD 6 0).toNat
  { serial := BitVec.ofNat 48 (fromBe (data.take 6))
    ports := ports
    present := BitVec.ofNat 8 ((data.getD 7 0).toNat % 2 ^ ports)
    stamp := BitVec.ofNat 16 (fromBe ((data.drop 8).take 2)) }

/-- The serial of a VERIFY response. -/
def verifySerial (data : List Byte) : Serial := BitVec.ofNat 48 (fromBe (data.take 6))
/-- The present mask of a VERIFY response. -/
def verifyMask (data : List Byte) : Byte := data.getD 6 0
/-- The descriptor stamp of a VERIFY response. -/
def verifyStamp (data : List Byte) : Half := BitVec.ofNat 16 (fromBe ((data.drop 7).take 2))

/-- The tally of a LINK-CHECK response. -/
def checkTally (data : List Byte) : Word := BitVec.ofNat 32 (fromBe (data.take 4))
/-- The lock flag of a LINK-CHECK response. Section 12.7 gives it as 0 or 1; the model takes every other byte as 1 (log
entry 41). -/
def checkLock (data : List Byte) : Bool := data.getD 4 0 != 0

/-! ### Sync levels and alignment (R23) -/

/-- The active level of a sync line: the level that occupied less than half of its previous complete cycle,
low when the two were equal. -/
def activeLevel (high low : Nat) : Level := if high < low then .high else .low

def InputMode.embedded : InputMode → Bool
  | .c16e => true
  | .c20e => true
  | _ => false

/-- The alignment of a PX_VS leading edge after a previous line of this length: LINE within a quarter of it after
a PX_HS leading edge, MID otherwise. -/
def syncAlignment (line offset : Nat) : Alignment := if offset * 4 ≤ line then .line else .mid

/-! ### Embedded timing codes (R160, section 12.8) -/

/-- The flags of a timing code. -/
structure CodeFlags where
  f : Bool
  v : Bool
  h : Bool
  deriving DecidableEq, Repr

/-- The eight bits of the flag word for given flags: marker, F, V, H, V xor H, F xor H, F xor V,
F xor V xor H. -/
def CodeFlags.pattern (c : CodeFlags) : Byte :=
  BitVec.ofNat 8 (128 + bitAt 6 c.f + bitAt 5 c.v + bitAt 4 c.h + bitAt 3 (c.v ^^ c.h)
    + bitAt 2 (c.f ^^ c.h) + bitAt 1 (c.f ^^ c.v) + bitAt 0 (c.f ^^ c.v ^^ c.h))

/-- The eight combinations of flags. -/
def allFlags : List CodeFlags :=
  [⟨false, false, false⟩, ⟨false, false, true⟩, ⟨false, true, false⟩, ⟨false, true, true⟩,
   ⟨true, false, false⟩, ⟨true, false, true⟩, ⟨true, true, false⟩, ⟨true, true, true⟩]

/-- How many of the low n bits of b are set. -/
def popCount : Nat → Byte → Nat
  | 0, _ => 0
  | n + 1, b => bitAt 0 (b.getLsbD n) + popCount n b

/-- The bits of the flag word as the mode places them: bits 9:2 of a 10-bit word, else bits 7:0. -/
def flagByte (mode : InputMode) (flag : BitVec 10) : Byte :=
  match mode with
  | .c20e => flag.extractLsb' 2 8
  | _ => flag.extractLsb' 0 8

/-- The flags that a flag word decodes or corrects to: those of the pattern that it differs from in at most
one bit, or none where it differs from every pattern in two bits or more. -/
def decodeFlags (b : Byte) : Option CodeFlags :=
  allFlags.find? (fun c => popCount 8 (b ^^^ c.pattern) ≤ 1)

/-- The luma word of a pixel period as the lines carry it, in the embedded-code modes (R157). -/
def rawLuma (mode : InputMode) (s : Sample) : Nat :=
  match mode with
  | .c20e => s.rising.toNat / 2 ^ 10 % 2 ^ 10
  | _ => s.rising.toNat / 2 ^ 8 % 2 ^ 8

/-- The luma word of all ones. -/
def lumaOnes (mode : InputMode) : Nat :=
  match mode with
  | .c20e => 1023
  | _ => 255

/-- The flag word, if a timing code begins at the head: a luma word of all ones, two of zeros, and the flag word
(R160). -/
def codeAt (mode : InputMode) (ws : List Sample) : Option (BitVec 10) :=
  match ws with
  | a :: b :: c :: d :: _ =>
    if rawLuma mode a = lumaOnes mode ∧ rawLuma mode b = 0 ∧ rawLuma mode c = 0 then
      some (BitVec.ofNat 10 (rawLuma mode d))
    else none
  | _ => none

/-- The words before the first timing code, with its flag word; all the words where there is no code. -/
def firstCode (mode : InputMode) : List Sample → List Sample × Option (BitVec 10)
  | [] => ([], none)
  | w :: ws =>
    match codeAt mode (w :: ws) with
    | some flag => ([], some flag)
    | none => (w :: (firstCode mode ws).1, (firstCode mode ws).2)

/-! ### Audio words (R146, R152) -/

/-- The first n bits of a half-period, most significant first, missing bits taken as 0. -/
def bitsValue : Nat → List Bool → Nat
  | 0, _ => 0
  | n + 1, [] => bitsValue n []
  | n + 1, b :: bs => bitAt n b + bitsValue n bs

/-- One sample, left-justified in 24 bits: the declared number of bits, then zeros. -/
def sampleOf (wordLength : Nat) (bits : List Bool) : BitVec 24 :=
  BitVec.ofNat 24 (bitsValue 24 (bits.take wordLength))

/-- A sample group: one sample for each channel of the format, from the halves in order. The first bit of a half is
sampled at the second rising edge of AU_BCK, so that the level at the first edge is no bit (R146). -/
def groupOf (f : AudioFormat) (halves : List (List Bool)) : List (BitVec 24) :=
  (List.range f.channels).map (fun i => sampleOf f.wordLength ((halves.getD i []).drop 1))

/-! ### Pixel words (R157) -/

/-- The n bits of a word from bit lo. -/
def field (w : BitVec 30) (lo n : Nat) : Nat := w.toNat / 2 ^ lo % 2 ^ n

/-- The three components of a 4:4:4 pixel period on the 10-bit scale. -/
def unpack444 (mode : InputMode) (s : Sample) : Pixel :=
  match mode with
  | .p30s => ⟨field s.rising 20 10, field s.rising 10 10, field s.rising 0 10⟩
  | .d12s => ⟨4 * field s.rising 4 8, 4 * (16 * field s.rising 0 4 + field s.falling 8 4),
      4 * field s.falling 0 8⟩
  | _ => ⟨4 * field s.rising 16 8, 4 * field s.rising 8 8, 4 * field s.rising 0 8⟩

/-- The luma and chroma words of a 4:2:2 pixel period on the 10-bit scale. -/
def unpack422 (mode : InputMode) (s : Sample) : Nat × Nat :=
  match mode with
  | .c20e => (field s.rising 10 10, field s.rising 0 10)
  | _ => (4 * field s.rising 8 8, 4 * field s.rising 0 8)

def InputMode.is422 : InputMode → Bool
  | .c16s => true
  | .c16e => true
  | .c20e => true
  | _ => false

/-! ### Chroma upsampling (R162) -/

/-- The chroma pairs (Cb, Cr) of a run, from its first word kept on (log entry 43). A last Cb without a Cr takes the Cr of
the pair before, or 512 if there is none. -/
def chromaPairs (prev : Option Nat) : List Nat → List (Nat × Nat)
  | [] => []
  | [cb] => [(cb, prev.getD 512)]
  | cb :: cr :: rest => (cb, cr) :: chromaPairs (some cr) rest

/-- The chroma of an odd pixel of pair p with the pairs after it, of which a lone last Cb is one (log entry 43). -/
def oddChroma (m : ChromaMethod) (p : Nat × Nat) (after : List (Nat × Nat)) : Nat × Nat :=
  match m, after with
  | .average, q :: _ => ((p.1 + q.1 + 1) / 2, (p.2 + q.2 + 1) / 2)
  | _, _ => p

/-- Every luma word with its Cb and Cr by the chroma method. -/
def upsample (m : ChromaMethod) : List Nat → List (Nat × Nat) → List Pixel
  | y0 :: y1 :: ys, p :: ps =>
      ⟨y0, p.1, p.2⟩ :: ⟨y1, (oddChroma m p ps).1, (oddChroma m p ps).2⟩ :: upsample m ys ps
  | [y0], p :: _ => [⟨y0, p.1, p.2⟩]
  | _, _ => []

/-- The pixels of an active run before the transform. -/
def runPixels (mode : InputMode) (m : ChromaMethod) (ws : List Sample) : List Pixel :=
  if mode.is422 then
    upsample m (ws.map (fun s => (unpack422 mode s).1)) (chromaPairs none (ws.map (fun s => (unpack422 mode s).2)))
  else ws.map (unpack444 mode)

/-! ### Colour transform and output range (R163) -/

def OutputRange.lo : OutputRange → Nat
  | .full => 0 | .narrow => 64

def OutputRange.hi : OutputRange → Nat
  | .full => 1023 | .narrow => 940

/-- A value clamped to the output range. -/
def clampTo (r : OutputRange) (x : Int) : Nat :=
  if x < (r.lo : Int) then r.lo else if (r.hi : Int) < x then r.hi else x.toNat

/-- Output channel j: the exact sum, divided by 4096 rounding halves up (the division of Int by a positive
number rounds towards minus infinity), plus the offset, clamped. -/
def channelOut (t : Transform) (r : OutputRange) (p : Pixel) (j : Nat) : Nat :=
  clampTo r ((t.coeffs.getD (3 * j) 0 * p.c0 + t.coeffs.getD (3 * j + 1) 0 * p.c1
    + t.coeffs.getD (3 * j + 2) 0 * p.c2 + 2048) / 4096 + t.offsets.getD j 0)

/-- A pixel through the transform. -/
def transformPixel (t : Transform) (r : OutputRange) (p : Pixel) : Pixel :=
  ⟨channelOut t r p 0, channelOut t r p 1, channelOut t r p 2⟩

/-- The fill colour clamped to the output range; it does not pass through the transform (R163, R166). -/
def clampFill (r : OutputRange) (p : Pixel) : Pixel :=
  ⟨clampTo r p.c0, clampTo r p.c1, clampTo r p.c2⟩

end Sys2Proof.Machine
end

