-- ==== Sys2Proof/Machine/Limits.lean ====
section
/-!
DEFINITION. The times and sizes that the rules fix. Times are in reference ticks of 27 MHz.
-/

namespace Sys2Proof.Machine

/-- A drop is a low level on TL_PRES of 2 ms (R1). -/
def dropTicks : Nat := 54000
/-- The settling time of 200 ms (R4). -/
def settleTicks : Nat := 5400000
/-- The activity timer's 100 ms (R25). -/
def activityTicks : Nat := 2700000
/-- The response timer's 2 ms (R44). -/
def responseTicks : Nat := 54000
/-- The quiet time of 5 ms after RELEASE-ALL (R45). -/
def releaseTicks : Nat := 135000
/-- The holdoff of 100 ms (R56). -/
def holdoffTicks : Nat := 2700000
/-- A rate-check window of 10 ms (R153). -/
def windowTicks : Nat := 270000
/-- The training frames after which training fails (R9). -/
def trainingFrames : Nat := 60
/-- The pool's packet buffers (R127). -/
def poolSize : Nat := 64
/-- The awaiting-ack list's places (R128). -/
def awaitingMax : Nat := 16
/-- The audio FIFO's groups (R149). -/
def fifoMax : Nat := 8192
/-- The read request queue's places (R90). -/
def descQueueMax : Nat := 8
/-- The descriptor cache's entries and blocks (R88). -/
def cacheEntries : Nat := 16
def cacheBlocks : Nat := 32
/-- The largest frame sequence, overrun and similar 32-bit counts. -/
def wordMax : Nat := 4294967295

end Sys2Proof.Machine
end

