-- ==== Sys2Proof/Machine/Ops.lean ====
section
/-!
DEFINITION. The operations every block uses: sending, time, handing completions and events to HIF and HIF's
writing of them (R176 to R182), and the take of a command (R175, R177).
-/

namespace Sys2Proof.Machine

/-! ### Sending and time -/

/-- Send one thing. -/
def emit (o : Output) (s : State) : State := { s with out := s.out ++ [o] }

/-- The time is at least t (log entry 2). -/
def advanceTo (t : Nat) (s : State) : State := { s with now := max s.now t }

/-- A copy that has failed or been stopped has written some part of its image, from its start on; how much is a free
value (log entry 8). -/
def emitPart (addr : Addr) (image : List Byte) (s : State) : State :=
  emit (.hostWrite addr (image.take (Config.copied s.choices % (image.length + 1))))
    { s with choices := s.choices + 1 }

/-! ### Handing to HIF -/

/-- An owner hands an item to HIF; HIF handles it at the end of the step. -/
def hand (o : Owner) (i : HandedItem) (s : State) : State := { s with handed := s.handed ++ [⟨o, i⟩] }

/-- An owner hands an item to HIF in a free place among those of the moment (log entries 3 and 10). -/
def handAnywhere (o : Owner) (i : HandedItem) (s : State) : State :=
  { s with
    handed := s.handed.insertIdx (Config.pick s.choices % (s.handed.length + 1)) ⟨o, i⟩, choices := s.choices + 1 }

/-- An owner completes a command with a status and two result words (section 6.3). -/
def complete (o : Owner) (h : Handle) (st : Status) (w1 w2 : Word) (s : State) : State :=
  hand o (.completion h st w1 w2) s

/-- An owner posts an event (section 6.3). -/
def post (o : Owner) (e : Event) (s : State) : State := hand o (.event e) s

/-- An owner posts two events of one moment whose order no rule fixes (log entry 3). -/
def postEither (o : Owner) (e1 e2 : Event) (s : State) : State :=
  let s1 := { s with choices := s.choices + 1 }
  if Config.pick s.choices % 2 = 0 then post o e2 (post o e1 s1) else post o e1 (post o e2 s1)

/-- Complete the command of an optional handle. -/
def completeOpt (o : Owner) (h : Option Handle) (st : Status) (w1 w2 : Word) (s : State) : State :=
  match h with
  | some h => complete o h st w1 w2 s
  | none => s

/-! ### CAUSE and the MSI (R181) -/

inductive CauseBit where
  | completion | event | fatal
  deriving DecidableEq, Repr

def Hif.causeEmpty (h : Hif) : Bool := !(h.causeCompletion || h.causeEvent || h.causeFatal)

/-- Set a bit of CAUSE; one MSI goes out when CAUSE was empty, IRQ_EN is 1 and MSIs are enabled. -/
def raiseCause (b : CauseBit) (s : State) : State :=
  let s1 := if s.hif.causeEmpty && s.hif.irqEn && s.pins.msiEnable then emit .msi s else s
  match b with
  | .completion => { s1 with hif := { s1.hif with causeCompletion := true } }
  | .event => { s1 with hif := { s1.hif with causeEvent := true } }
  | .fatal => { s1 with hif := { s1.hif with causeFatal := true } }

/-- Entry to FATAL: the first cause stays, CAUSE gets FATAL, and the fetch in progress is given up (R182). -/
def enterFatal (c : FatalCause) (s : State) : State :=
  match s.hif.state with
  | .fatal => s
  | _ => raiseCause .fatal
      { s with hif := { s.hif with state := .fatal, fatalCause := c, fetch := none } }

/-! ### The record rings -/

/-- Records written and not released (R178, R180). -/
def RecordRing.unreleased (r : RecordRing) : Nat := (r.write + r.size - r.host) % r.size

/-- Where the next record goes. -/
def RecordRing.slot (r : RecordRing) : Addr := r.base + BitVec.ofNat 64 (16 * r.write)

/-- The write index advances; past the last slot it returns to 0 and the phase flips (R178). -/
def RecordRing.advance (r : RecordRing) : RecordRing :=
  if r.write + 1 < r.size then { r with write := r.write + 1 }
  else { r with write := 0, phase := !r.phase }

/-- The host releases records up to index i, if i lies from the host consumer index forward to the write
index (R178); none for an index that is ignored. -/
def RecordRing.release (r : RecordRing) (i : Nat) : Option RecordRing :=
  if i < r.size ∧ (i + r.size - r.host) % r.size ≤ r.unreleased then some { r with host := i } else none

/-- An empty record ring (R169, R179). -/
def RecordRing.fresh (base : Addr) (size : Nat) : RecordRing := ⟨base, size, 0, true, 0⟩

/-- The number of commands taken and not yet completed, a fetch in progress included (R175). -/
def takenCount (h : Hif) : Nat := h.inFlight.length + (if h.fetch.isSome then 1 else 0)

/-- The free credits (R176). -/
def freeCredits (h : Hif) : Nat :=
  match h.comp with
  | some r => r.size - 1 - takenCount h - r.unreleased
  | none => 0

/-- Records are written in RUNNING and DRAINING (section 11.1). -/
def writesRecords (h : Hif) : Bool :=
  match h.state with
  | .running => true
  | .draining => true
  | _ => false

/-! ### Writing completions and events -/

/-- HIF writes a completion record into the place its credit held (R176, R178). A completion of a command
that is not in flight here, because a reset came between, is discarded (R184). -/
def writeCompletion (h : Handle) (st : Status) (w1 w2 : Word) (s : State) : State :=
  match s.hif.comp with
  | some r =>
    if writesRecords s.hif ∧ h ∈ s.hif.inFlight then
      raiseCause .completion
        (emit (.hostWrite r.slot (completionBytes h r.phase st w1 w2))
          { s with hif := { s.hif with comp := some r.advance, inFlight := s.hif.inFlight.erase h } })
    else s
  | none => s

/-- HIF writes one event record at the event ring's write index (R180). -/
def putEvent (e : Event) (s : State) : State :=
  match s.hif.event with
  | some r =>
    raiseCause .event
      (emit (.hostWrite r.slot (eventBytes s.fmon.fsn r.phase e))
        { s with hif := { s.hif with event := some r.advance } })
  | none => s

/-- EVENT_OVERRUN is written first where events were lost and the ring has room (R179, R180). -/
def putOverrun (s : State) : State :=
  match s.hif.event with
  | some r =>
    if 0 < s.hif.overrun ∧ r.unreleased < r.size - 1 then
      putEvent (.eventOverrun s.hif.overrun) { s with hif := { s.hif with overrun := 0 } }
    else s
  | none => s

/-- An event is written, or counted where the ring holds size − 1 unreleased records (R180). -/
def writeOrCount (e : Event) (s : State) : State :=
  match s.hif.event with
  | some r =>
    if r.unreleased < r.size - 1 then putEvent e s
    else { s with hif := { s.hif with overrun := min wordMax (s.hif.overrun + 1) } }
  | none => s

/-- Whether an event is dropped uncounted: HIF writes nothing, no event ring, or the kind masked off. -/
def eventDropped (h : Hif) (e : Event) : Bool :=
  !(writesRecords h && h.event.isSome && h.mask.getLsbD e.kind)

/-- HIF handles a posted event (R180). -/
def writeEvent (e : Event) (s : State) : State :=
  if eventDropped s.hif e then s else writeOrCount e (putOverrun s)

/-- HIF handles one handed item. -/
def deliver (s : State) (x : Handed) : State :=
  match x.item with
  | .completion h st w1 w2 => writeCompletion h st w1 w2 s
  | .event e => writeEvent e s

/-! ### The order of items handed at one moment -/

/-- Whether an item has an effect at HIF; the others are discarded. -/
def effective (h : Hif) (x : Handed) : Bool :=
  match x.item with
  | .completion c .. => writesRecords h && h.comp.isSome && decide (c ∈ h.inFlight)
  | .event e => !eventDropped h e

def Handed.isCompletion (x : Handed) : Bool :=
  match x.item with
  | .completion .. => true
  | .event _ => false

/-- Items of several owners in an order that keeps each owner's own order; which owner comes next is a free
choice (R178, R180; log entry 3). The result holds the count of choices made. -/
def interleave : Nat → Nat → List Handed → List Handed × Nat
  | 0, c, _ => ([], c)
  | n + 1, c, items =>
    match (items.map (·.owner)).eraseDups with
    | [] => ([], c)
    | [_] => (items, c)
    | o :: os =>
      let who := (o :: os).getD (Config.pick c % (os.length + 1)) o
      let later := interleave n (c + 1) (items.eraseP (fun x => decide (x.owner = who)))
      (((items.find? (fun x => decide (x.owner = who))).toList ++ later.1), later.2)

/-- The end of a step whose rules order the hand-overs: HIF handles them as handed. -/
def finishInOrder (s : State) : State :=
  (s.handed.filter (effective s.hif)).foldl deliver { s with handed := [] }

/-- The end of a step in which several owners hand over at the same moment: the completions in one free
order, and the events in one (R178, R180). -/
def finishAnyOrder (s : State) : State :=
  let items := s.handed.filter (effective s.hif)
  let comps := items.filter Handed.isCompletion
  let events := items.filter (fun x => !x.isCompletion)
  let c := interleave comps.length s.choices comps
  let e := interleave events.length c.2 events
  (c.1 ++ e.1).foldl deliver { s with handed := [], choices := e.2 }

/-! ### Command rings and the take -/

/-- Ring r of the ring table. -/
def ringAt (h : Hif) (r : Nat) : Option Ring := (h.rings.getD r none)

/-- The ring table with ring r replaced. -/
def setRing (r : Nat) (x : Option Ring) (h : Hif) : Hif := { h with rings := h.rings.set r x }

/-- Where ring g's next record lies. -/
def Ring.slot (g : Ring) : Addr := g.base + BitVec.ofNat 64 (64 * g.cons)

/-- The records not yet taken (R172). -/
def Ring.waiting (g : Ring) : Nat := (g.prod + g.size - g.cons) % g.size

/-- The take of the record whose fetch ends: the consumer index advances by 1 modulo the size, and the
command is in flight (R175). none where no fetch is in progress or HIF takes nothing. -/
def beginTake (tag : HostTag) (s : State) : Option (Handle × State) :=
  match s.hif.fetch with
  | none => none
  | some r =>
    match ringAt s.hif r with
    | none => none
    | some g =>
      if writesRecords s.hif then
        let i := (g.cons + 1) % g.size
        let h : Handle := ⟨s.hif.nextId, tag, r, i⟩
        some (h, { s with hif := { setRing r (some { g with cons := i }) s.hif with
          fetch := none, inFlight := s.hif.inFlight ++ [h], nextId := s.hif.nextId + 1 } })
      else none

/-- The ring ids of CONTROL, STREAM and DISPATCH. -/
def controlRing : Nat := 0
def streamRing : Nat := 1
def dispatchRing : Nat := 2

/-- The take of a known command: on the ring of the command table it goes to its owner, on another it
completes with WRONG_RING (R177). -/
def takeFrom (ring : Nat) (tag : HostTag) (owner : Handle → State → State) (s : State) : State :=
  match beginTake tag s with
  | none => s
  | some (h, s1) => if h.ring = ring then owner h s1 else complete .hif h .wrongRing 0 0 s1

/-- A transfer's data: none for a failed read, and none too for data of another length than was asked, which
no whole read gives. -/
def readData (len : Nat) (data : Option (List Byte)) : Option (List Byte) :=
  match data with
  | some d => if d.length = len then some d else none
  | none => none

/-! ### The roster as the other blocks read it -/

/-- Roster entry i. -/
def entryAt (s : State) (i : Nat) : Entry := s.rwk.roster.getD i Entry.vacant

def Entry.isVacant (e : Entry) : Bool := decide (e.state = .vacant)
def Entry.isActive (e : Entry) : Bool := decide (e.state = .active)
/-- ACTIVE or DENIED. -/
def Entry.isHeld (e : Entry) : Bool := decide (e.state = .active) || decide (e.state = .denied)

/-- The lowest index whose entry satisfies p. -/
def findEntry (p : Entry → Bool) (s : State) : Option Nat := s.rwk.roster.findIdx? p

/-- The roster with entry i changed by f. -/
def updEntry (i : Nat) (f : Entry → Entry) (s : State) : State :=
  { s with rwk := { s.rwk with roster := s.rwk.roster.modify i f } }

/-- The ACTIVE indices in index order. -/
def activeIndices (s : State) : List Nat :=
  (List.range s.rwk.roster.length).filter (fun i => (entryAt s i).isActive)

/-- The roster count: entries ACTIVE or DENIED (R61). -/
def rosterCount (s : State) : Nat := s.rwk.roster.countP Entry.isHeld

/-- The check value over the serials of the ACTIVE entries (R61, R187). -/
def checkValue (roster : List Entry) : Word :=
  match (roster.filter Entry.isActive).flatMap (fun e => beBytes 6 e.serial.toNat) with
  | [] => 0
  | bs => crc32 bs

end Sys2Proof.Machine
end

