-- ==== Sys2Proof/Machine/Sideband.lean ====
section
/-!
DEFINITION. The sideband channel: the request set, the arbiter, sending, and the attention poller's rounds
(R42, R46, R51 to R56). What each requester does with an outcome stands in the files of the requesters.
-/

namespace Sys2Proof.Machine

/-- The request that a requester has waiting. -/
def requestOf (b : Sbc) : Requester → Option Request
  | .wk => b.wkReq
  | .lc => b.lcReq
  | .ap => b.apReq
  | .ac => b.acReq
  | .dr => b.drReq

/-- The request set with a requester's place set. -/
def setRequest (r : Requester) (q : Option Request) (b : Sbc) : Sbc :=
  match r with
  | .wk => { b with wkReq := q }
  | .lc => { b with lcReq := q }
  | .ap => { b with apReq := q }
  | .ac => { b with acReq := q }
  | .dr => { b with drReq := q }

/-- Whether the transaction in flight is a requester's. -/
def flightIs (r : Requester) (s : State) : Bool :=
  match s.sbc.inFlight with
  | some t => decide (t.requester = r)
  | none => false

/-- A requester places a request: it joins the request set, once the requester's previous transaction has ended (R51).
Its requester looks at the filtered presence first. -/
def joinSet (r : Requester) (q : Request) (s : State) : State :=
  if flightIs r s then { s with sbc := { s.sbc with deferred := some q } }
  else { s with sbc := setRequest r (some q) s.sbc }

/-- A requester withdraws its waiting request, if it has one, or what it was to place next (R51). -/
def withdraw (r : Requester) (s : State) : State :=
  let b := setRequest r none s.sbc
  { s with sbc := if flightIs r s then { b with deferred := none } else b }

/-- Whether a requester has a request waiting, or to be placed at the end of its transaction in flight. -/
def hasWaiting (r : Requester) (s : State) : Bool :=
  (requestOf s.sbc r).isSome || (flightIs r s && s.sbc.deferred.isSome)

/-- A requester whose transaction has ended places the request that waited for this (R51). -/
def placeDeferred (r : Requester) (s : State) : State :=
  match s.sbc.deferred with
  | some q => joinSet r q { s with sbc := { s.sbc with deferred := none } }
  | none => s

/-- The work behind a requester's transaction in flight has ended (R55, R80, R99). -/
def orphanFlight (r : Requester) (s : State) : State :=
  match s.sbc.inFlight with
  | some t =>
    if t.requester = r then
      let t1 : Transaction := { t with orphan := true }
      { s with sbc := { s.sbc with inFlight := some t1 } }
    else s
  | none => s

/-- The address of a roster index (R51). -/
def addressOf (i : Nat) : Byte := BitVec.ofNat 8 (i + 1)

/-! ### Sending (R42, R45) -/

/-- Send a transaction's frame: the response timer starts, or for RELEASE-ALL the quiet timer. -/
def sendAttempt (t : Transaction) (s : State) : State :=
  let s1 := emit (.sideband (requestFrame t.request t.seq)) s
  match t.request.kind with
  | .releaseAll => { s1 with sbc := { s1.sbc with
      inFlight := some t, channel := .releaseQuiet, quietTimer := some s.now, respTimer := none, lateFrame := false } }
  | _ => { s1 with sbc := { s1.sbc with
      inFlight := some t, channel := .attempt, respTimer := some s.now, quietTimer := none, lateFrame := false } }

/-! ### The arbiter (R52, R53, R54) -/

/-- Whom a grant decision serves: the walker alone during a walk; else DR at aging count 8; else the first of
LC, AP, AC, DR that waits. -/
def grantChoice (s : State) : Option Requester :=
  if s.rwk.walking then (if s.sbc.wkReq.isSome then some .wk else none)
  else if s.sbc.drReq.isSome && decide (8 ≤ s.sbc.aging) then some .dr
  else if s.sbc.lcReq.isSome then some .lc
  else if s.sbc.apReq.isSome then some .ap
  else if s.sbc.acReq.isSome then some .ac
  else if s.sbc.drReq.isSome then some .dr
  else none

/-- The aging count after a grant to r. -/
def agingAfter (r : Requester) (s : State) : Nat :=
  match r with
  | .wk => s.sbc.aging
  | .dr => 0
  | _ => if s.sbc.drReq.isSome then min 8 (s.sbc.aging + 1) else s.sbc.aging

/-- A grant: the request leaves the set, takes the next sequence number, and its first attempt is sent. -/
def grantTo (r : Requester) (q : Request) (s : State) : State :=
  let t : Transaction := ⟨r, q, s.sbc.nextSeq, 1, none, false⟩
  sendAttempt t { s with sbc := { setRequest r none s.sbc with
    nextSeq := s.sbc.nextSeq + 1, aging := agingAfter r s } }

/-- A grant decision, made while the channel is FREE. -/
def grantDecision (s : State) : State :=
  match s.sbc.channel with
  | .free =>
    match grantChoice s with
    | some r =>
      match requestOf s.sbc r with
      | some q => grantTo r q s
      | none => s
    | none => s
  | _ => s

/-! ### The attention poll (R55, R56) -/

/-- AP places a GET-NOTICE for an index; while the presence is negated it gets LINK_DOWN at once, which ends
the round (R51, R56). -/
def apPlace (i : Nat) (s : State) : State :=
  if s.ses.presence then
    joinSet .ap ⟨addressOf i, .getNotice, []⟩ { s with sbc := { s.sbc with poll := .round } }
  else { s with sbc := { s.sbc with poll := .idle } }

/-- The holdoff begins (R56). -/
def beginHoldoff (s : State) : State :=
  { s with sbc := { s.sbc with poll := .holdoff, holdoff := some s.now } }

/-- R55's check: in IDLE, with the line asserted, the presence asserted and no walk, a round begins from the
lowest ACTIVE index; with no ACTIVE entry it is complete at once and the holdoff begins. -/
def pollCheck (s : State) : State :=
  if decide (s.sbc.poll = .idle) && s.pins.attn && s.ses.presence && !s.rwk.walking then
    let s1 := { s with sbc := { s.sbc with noticeFound := false, pollCursor := none } }
    match activeIndices s with
    | i :: _ => apPlace i s1
    | [] => beginHoldoff s1
  else s

/-- A walk's start ends a round: AP withdraws its waiting request, and a GET-NOTICE in flight starts no
further one (R55). -/
def pollWalkStart (s : State) : State :=
  match s.sbc.poll with
  | .round => orphanFlight .ap (withdraw .ap { s with sbc := { s.sbc with poll := .idle } })
  | _ => s

/-- The end of a GET-NOTICE of a round, after its outcome is handled: the line is tested (R56). -/
def pollNext (i : Nat) (s : State) : State :=
  let s1 := { s with sbc := { s.sbc with pollCursor := some i } }
  if !s.pins.attn then { s1 with sbc := { s1.sbc with poll := .idle } }
  else match (activeIndices s).filter (fun k => decide (i < k)) with
    | k :: _ => apPlace k s1
    | [] =>
      if s.sbc.noticeFound then pollCheck { s1 with sbc := { s1.sbc with poll := .idle } }
      else beginHoldoff s1

end Sys2Proof.Machine
end

