-- ==== Sys2Proof/Machine/Descriptors.lean ====
section
/-!
DEFINITION. The descriptor cache and reader: requests at their turn, reads over the sideband, the cache, copies,
DROP-DESCRIPTORS, drops and resets (R87 to R99).
-/

namespace Sys2Proof.Machine

/-! ### The cache (R88, R89, R94) -/

/-- The index of the ACTIVE or DENIED entry with a serial (R91). -/
def heldIndex (sn : Serial) (s : State) : Option Nat :=
  findEntry (fun e => e.isHeld && decide (e.serial = sn)) s

/-- The cache entry of a serial. -/
def cached (sn : Serial) (d : Dcr) : Option CacheEntry := d.cache.find? (fun e => decide (e.serial = sn))

/-- A VALID entry with a tile's serial and stamp (R89). -/
def currentEntry (sn : Serial) (stamp : Half) (d : Dcr) : Option CacheEntry :=
  d.cache.find? (fun e => decide (e.serial = sn) && e.valid && decide (e.stamp = stamp))

/-- The blocks that entries take. -/
def blocksUsed (c : List CacheEntry) : Nat := (c.map (·.count)).sum

/-- Evictions from the least recent end until an entry of n blocks has room; a FILLING entry stays (R94). -/
def makeRoom (n : Nat) : List CacheEntry → List CacheEntry
  | [] => []
  | e :: es =>
    if es.length + 1 < cacheEntries ∧ blocksUsed (e :: es) + n ≤ cacheBlocks then e :: es
    else if e.valid then makeRoom n es else e :: makeRoom n es

/-- The cache without a serial's entry. -/
def removeEntry (sn : Serial) (c : List CacheEntry) : List CacheEntry :=
  c.filter (fun e => !decide (e.serial = sn))

/-- The cache without its FILLING entry. -/
def removeFilling (c : List CacheEntry) : List CacheEntry := c.filter (·.valid)

/-- A serial's entry moved to the most recent end (R88, R96). -/
def touchEntry (sn : Serial) (c : List CacheEntry) : List CacheEntry :=
  removeEntry sn c ++ c.filter (fun e => decide (e.serial = sn))

/-- Block b joins the FILLING entry; the last one makes it VALID (R92, R93, R96). -/
def storeBlock (b : List Byte) (c : List CacheEntry) : List CacheEntry :=
  c.map (fun e => if e.valid then e
    else { e with blocks := e.blocks ++ [b], valid := decide (e.count ≤ e.blocks.length + 1) })

/-- A new FILLING entry with block 0 after room is made for it (R94). -/
def createEntry (sn : Serial) (stamp : Half) (n : Nat) (b : List Byte) (c : List CacheEntry) : List CacheEntry :=
  makeRoom n (removeEntry sn c) ++ [⟨sn, stamp, n, [b], decide (n ≤ 1)⟩]

/-! ### Copies (R96) -/

/-- The request whose copy is running: the first of the group. -/
def copyingRequest (d : Dcr) : Option DescRequest := d.queue.find? (·.group)

/-- Copies start for every request of a serial. hit marks the head's too; the others always count as hits. -/
def startGroup (sn : Serial) (hit : Bool) (d : Dcr) : Dcr :=
  match d.queue with
  | [] => d
  | q :: qs =>
    { d with
      queue := { q with group := true, hit := hit }
        :: qs.map (fun r => if r.serial = sn then { r with group := true, hit := true } else r)
      copying := some sn
      cache := touchEntry sn d.cache }

/-- The blocks that a copy writes. -/
def copyBlocks (e : CacheEntry) (q : DescRequest) : Nat := min e.count (q.len / 128)

/-- What a copy writes: the first blocks of the entry. -/
def copyImage (e : CacheEntry) (q : DescRequest) : List Byte := (e.blocks.take (copyBlocks e q)).flatten

/-- The first word of a READ-DESCRIPTOR completion (section 12.5). -/
def descWord (e : CacheEntry) (hit : Bool) : Word :=
  word (e.count + 2 ^ 8 * e.stamp.toNat + bitAt 24 hit)

/-- The completion at the end of a copy. -/
def finishCopy (ok : Bool) (e : CacheEntry) (q : DescRequest) (s : State) : State :=
  let n := copyBlocks e q
  if ok then
    complete .dcr q.handle (if n < e.count then .truncated else .ok) (descWord e q.hit) (word (128 * n))
      (emit (.hostWrite q.addr (copyImage e q)) s)
  else complete .dcr q.handle .hostWriteError (descWord e q.hit) 0 (emitPart q.addr (copyImage e q) s)

/-- The group goes on with its next copy, or ends, where the removal mark takes effect (R96, R97). -/
def nextCopy (sn : Serial) (d : Dcr) : Dcr :=
  match copyingRequest d with
  | some _ => { d with cache := touchEntry sn d.cache }
  | none =>
    { d with
      copying := none
      removal := none
      cache := if d.removal = some sn then removeEntry sn d.cache else d.cache }

/-- The copy in progress ends. -/
def endCopy (ok : Bool) (s : State) : State :=
  match s.dcr.copying, copyingRequest s.dcr with
  | some sn, some q =>
    match cached sn s.dcr with
    | some e =>
      finishCopy ok e q
        { s with dcr := nextCopy sn { s.dcr with queue := s.dcr.queue.eraseP (fun r => decide (r.handle.id = q.handle.id)) } }
    | none => s
  | _, _ => s

/-! ### Reads (R91 to R95) -/

/-- A request leaves the queue with a status, its read given up (R93). -/
def endRead (st : Status) (w1 : Word) (s : State) : State :=
  match s.dcr.queue with
  | q :: qs =>
    complete .dcr q.handle st w1 0
      { s with dcr := { s.dcr with queue := qs, context := none, cache := removeFilling s.dcr.cache } }
  | [] => s

/-- The block count of a read as NO_RESPONSE and DESCRIPTOR_BAD report it (R92). -/
def countWord (c : ReadContext) : Word := word (c.count.getD 0)

/-- DR places a READ-BLOCK for the context's block; while the presence is negated it gets LINK_DOWN at once
(R51, R98). -/
def requestBlock (c : ReadContext) (s : State) : State :=
  if s.ses.presence then
    joinSet .dr ⟨BitVec.ofNat 8 c.address, .readBlock, [BitVec.ofNat 8 c.block]⟩
      { s with dcr := { s.dcr with context := some c } }
  else endRead .linkDown 0 s

/-- The head of the queue reaches its turn outside walks (R91). -/
def descriptorTurn (s : State) : State :=
  match s.dcr.queue with
  | q :: _ =>
    if s.rwk.walking || s.dcr.context.isSome || s.dcr.copying.isSome then s
    else
      match heldIndex q.serial s with
      | none => endRead .targetGone 0 s
      | some i =>
        match currentEntry q.serial (entryAt s i).stamp s.dcr with
        | some _ => { s with dcr := startGroup q.serial true s.dcr }
        | none => requestBlock ⟨i + 1, (entryAt s i).stamp, false, none, 0, 0⟩ s
  | [] => s

/-- A response carries the block asked for, whole (R87). -/
def blockWhole (n : Nat) (data : List Byte) : Bool :=
  decide ((data.getD 0 0).toNat = n ∧ (data.drop 1).length = 128
    ∧ ((data.drop 1).map BitVec.toNat).sum % 256 = 0)

/-- The last block is stored: the entry is VALID and the copies start (R96). -/
def fillDone (sn : Serial) (s : State) : State :=
  { s with dcr := startGroup sn false { s.dcr with context := none } }

/-- A read starts again from block 0 with the roster's stamp (R92, R95). -/
def restartRead (c : ReadContext) (stamp : Half) (s : State) : State :=
  requestBlock { c with stamp := stamp, restarted := true, count := none, block := 0, reread := 0 }
    { s with dcr := { s.dcr with cache := removeFilling s.dcr.cache } }

/-- A block that is not whole is asked for again, twice at most (R92, R93). -/
def rereadBlock (c : ReadContext) (s : State) : State :=
  if c.reread < 2 then requestBlock { c with reread := c.reread + 1 } s
  else endRead .descriptorBad (countWord c) s

/-- A whole block 0 (R92). -/
def openDescriptor (sn : Serial) (c : ReadContext) (stamp : Half) (b : List Byte) (s : State) : State :=
  let n := (b.getD 0 0).toNat
  if decide (1 ≤ n ∧ n ≤ 8) && decide (fromBe ((b.drop 1).take 2) = c.stamp.toNat) then
    let s1 := { s with dcr := { s.dcr with cache := createEntry sn c.stamp n b s.dcr.cache } }
    if n = 1 then fillDone sn s1
    else requestBlock { c with count := some n, block := 1, reread := 0 } s1
  else if c.restarted then endRead .descriptorBad (countWord c) s
  else restartRead c stamp s

/-- A whole block 1 or above (R93). -/
def nextBlock (sn : Serial) (c : ReadContext) (b : List Byte) (s : State) : State :=
  let s1 := { s with dcr := { s.dcr with cache := storeBlock b s.dcr.cache } }
  if c.count.getD 0 ≤ c.block + 1 then fillDone sn s1
  else requestBlock { c with block := c.block + 1, reread := 0 } s1

/-- An outcome judged by R92 or R93 for a tile with this roster stamp. -/
def judgeBlock (sn : Serial) (c : ReadContext) (stamp : Half) (o : TxOutcome) (s : State) : State :=
  match o with
  | .response d =>
    if !blockWhole c.block d then rereadBlock c s
    else if c.block = 0 then openDescriptor sn c stamp (d.drop 1) s
    else nextBlock sn c (d.drop 1) s
  | .linkDown => endRead .linkDown 0 s
  | _ => endRead .noResponse (countWord c) s

/-- An outcome judged against the roster first (R95). -/
def judgeRead (sn : Serial) (c : ReadContext) (o : TxOutcome) (s : State) : State :=
  match heldIndex sn s with
  | none => endRead .targetGone 0 s
  | some i =>
    let stamp := (entryAt s i).stamp
    if i + 1 ≠ c.address then requestBlock { c with address := i + 1 } s
    else if stamp ≠ c.stamp then
      (if c.restarted then endRead .descriptorBad (countWord c) s else restartRead c stamp s)
    else judgeBlock sn c stamp o s

/-- The outcome of a READ-BLOCK (R95): held while a walk is in progress. -/
def drResult (o : TxOutcome) (s : State) : State :=
  match s.dcr.context, s.dcr.queue with
  | some c, q :: _ =>
    if s.rwk.walking then { s with dcr := { s.dcr with held := some o } }
    else judgeRead q.serial c o s
  | _, _ => s

/-- The held outcome is judged when the walk has ended (R95). -/
def judgeHeldBlock (s : State) : State :=
  match s.dcr.held with
  | some o => drResult o { s with dcr := { s.dcr with held := none } }
  | none => s

/-! ### Commands, drop and interface reset (R90, R97 to R99) -/

/-- READ-DESCRIPTOR at its take (R90). -/
def takeReadDescriptor (h : Handle) (index : Byte) (serial : Serial) (addr : Addr) (len : Word) (s : State) :
    State :=
  if decide (63 < index.toNat) || decide (len.toNat < 128) then complete .dcr h .badParam 0 0 s
  else if !((entryAt s index.toNat).isHeld && decide ((entryAt s index.toNat).serial = serial)) then
    complete .dcr h .targetGone 0 0 s
  else if descQueueMax ≤ s.dcr.queue.length then complete .dcr h .busy 0 0 s
  else { s with dcr := { s.dcr with
    queue := s.dcr.queue ++ [⟨h, serial, addr, len.toNat, false, false⟩] } }

/-- DROP-DESCRIPTORS at its take (R97). An entry that has the removal mark already is counted again (log entry 28). -/
def takeDrop (h : Handle) (s : State) : State :=
  let valid := s.dcr.cache.filter (·.valid)
  complete .dcr h .ok (word valid.length) (word (blocksUsed valid))
    { s with dcr := { s.dcr with
      cache := s.dcr.cache.filter (fun e => !e.valid || decide (s.dcr.copying = some e.serial))
      removal := if s.dcr.copying.isSome then s.dcr.copying else s.dcr.removal } }

/-- The requests that a drop ends: every one that is not served by running copies (R98). They complete in queue order (log
entry 44). -/
def dropRequests (s : State) : State :=
  (s.dcr.queue.filter (fun q => !q.group)).foldl (fun s q => complete .dcr q.handle .linkDown 0 0 s)
    { s with dcr := { s.dcr with
      queue := s.dcr.queue.filter (·.group), context := none, held := none
      cache := removeFilling s.dcr.cache } }

/-- DCR at an interface reset (R99). -/
def dcrIfReset (s : State) : State :=
  let keep := removeFilling s.dcr.cache
  let s1 := orphanFlight .dr (withdraw .dr s)
  { s1 with dcr := { Dcr.reset with cache := match s.dcr.removal with
      | some sn => removeEntry sn keep
      | none => keep } }

end Sys2Proof.Machine
end

