-- ==== Sys2Proof/Machine/Formats.lean ====
section
/-!
DEFINITION. The format monitor: input boundaries, measurements, lock and loss, the format table and the current
geometry (R23 to R41). What the other blocks do at a frame start stands in Frame.lean.
-/

namespace Sys2Proof.Machine

/-! ### Measurements (R30, R31) -/

/-- The measured rate in mHz: 27,000,000,000 over the frame period, halves rounded up (R31). -/
def measuredRate (period : Nat) : Nat := (54000000000 + period) / (2 * period)

/-- A new open measurement. -/
def openAt (now : Nat) : OpenMeasurement where
  start := now
  ht := none
  ha := none
  vt := 0
  va := 0
  lineHa := 0
  second := false
  differed := false
  invalid := false

/-- Two lines of one measurement must agree in a length (R31). -/
def noteLength (seen : Option Nat) (n : Nat) : Bool :=
  match seen with
  | some k => decide (k ≠ n)
  | none => false

/-- A measurement with the active pixels of one line more (R30). -/
def OpenMeasurement.activeLine (o : OpenMeasurement) (n : Nat) : OpenMeasurement :=
  { o with
    ha := if o.ha.isSome then o.ha else some n
    differed := o.differed || noteLength o.ha n }

/-- The present line is over: the pixel periods for which PX_DE was asserted in it, if it was, are its HA (R30). -/
def OpenMeasurement.endLine (o : OpenMeasurement) : OpenMeasurement :=
  if o.lineHa = 0 then o else { o.activeLine o.lineHa with lineHa := 0 }

/-- The record of a closed measurement (R30): VT is the line starts since the opening boundary, and the polarities of
the embedded modes are high. Those of the separate-sync modes are the active levels in force at the closing boundary (log
entry 21). -/
def OpenMeasurement.record (o : OpenMeasurement) (f : Fmon) (mode : InputMode) (now : Nat) : Measurement where
  ht := o.ht.getD 0
  ha := o.ha.getD 0
  vt := o.vt
  va := o.va
  interlaced := o.second
  hPol := if mode.embedded then .high else f.hLevel.getD .low
  vPol := if mode.embedded then .high else f.vLevel.getD .low
  period := now - o.start

/-- The conditions of R31 that a record shows. -/
def Measurement.inRange (m : Measurement) : Bool :=
  decide (0 < m.ha ∧ 0 < m.va ∧ m.ha < m.ht ∧ m.va < m.vt ∧ m.ht ≤ 8191 ∧ m.vt ≤ 4095
    ∧ m.ht * m.vt * 27000000 ≤ 300000000 * m.period ∧ measuredRate m.period ≤ 240000)

/-- The validity of a completed measurement (R31). -/
def measurementValid (o : OpenMeasurement) (m : Measurement) : Bool :=
  !o.invalid && !o.differed && m.inRange

/-- Two valid measurements are equal, m against the reference r (R32). -/
def Measurement.equals (m r : Measurement) : Bool :=
  decide (m.ht = r.ht ∧ m.ha = r.ha ∧ m.vt = r.vt ∧ m.va = r.va ∧ m.interlaced = r.interlaced
    ∧ m.hPol = r.hPol ∧ m.vPol = r.vPol
    ∧ (m.period - r.period + (r.period - m.period)) * 200 ≤ r.period)

/-! ### The format table (R36, R37, R39) -/

/-- The entries of codes 1 to 32, in order. -/
def formatTable (f : Fmon) : List (Option FormatEntry) := builtInFormats.map some ++ f.loadable

/-- Whether an entry matches a measurement (R37). -/
def FormatEntry.fits (e : FormatEntry) (m : Measurement) : Bool :=
  let r := measuredRate m.period
  decide (e.ht = m.ht ∧ e.ha = m.ha ∧ e.vt = m.vt ∧ e.va = m.va ∧ e.interlaced = m.interlaced
    ∧ (r - e.rate + (e.rate - r)) * 200 ≤ e.rate)

/-- The geometry of a table entry. -/
def FormatEntry.geometry (code : Nat) (e : FormatEntry) : Geometry :=
  ⟨code, e.ht, e.ha, e.vt, e.va, e.interlaced, e.rate, 0⟩

/-- The geometry of the unlisted format, code 0 (R39). -/
def Measurement.geometry (m : Measurement) : Geometry :=
  ⟨0, m.ht, m.ha, m.vt, m.va, m.interlaced, measuredRate m.period, m.period⟩

/-- Classification scans the table from a code on for the first entry that fits (R37). -/
def classifyFrom (m : Measurement) : Nat → List (Option FormatEntry) → Geometry
  | _, [] => m.geometry
  | code, none :: es => classifyFrom m (code + 1) es
  | code, some e :: es => if e.fits m then e.geometry code else classifyFrom m (code + 1) es

/-- The geometry that a measurement classifies to. -/
def classify (f : Fmon) (m : Measurement) : Geometry := classifyFrom m 1 (formatTable f)

/-- The pixel clock estimate in Hz, as an exact fraction (R39). -/
def pixelClock (g : Geometry) : Nat × Nat :=
  if g.code = 0 then (g.ht * g.vt * 27000000, g.period) else (g.ht * g.vt * g.rate, 1000)

/-! ### FORMAT_LOCKED and FORMAT_LOST (R17, R40) -/

/-- FORMAT_LOCKED goes to HIF, and SES removes FORMAT at the following frame start (R17). -/
def postLocked (s : State) : State :=
  post .fmon (.formatLocked s.fmon.geometry) { s with ses := { s.ses with formatDrop := true } }

/-- FORMAT_LOST goes to HIF, and SES adds FORMAT if AUTO_QUIET is set (R17). -/
def postLost (c : LossCause) (s : State) : State :=
  post .fmon (.formatLost s.fmon.geometry.code c)
    (if s.ses.autoQuiet then
      let q : QuietSet := { s.ses.quiet with format := true }
      { s with ses := { s.ses with quiet := q } }
    else s)

/-- The loss report of an input mode change is posted at the next frame start (R35). -/
def reportInputMode (s : State) : State :=
  if s.fmon.lossReport then
    postLost .inputMode { s with fmon := { s.fmon with lossReport := false } }
  else s

/-! ### Judging a closed measurement (R32, R33, R34) -/

/-- The entry to LOCKED with a reference (R33). -/
def lockOn (r : Measurement) (s : State) : State :=
  postLocked { s with fmon := { s.fmon with
    monitor := .locked, equalCount := 3, geometry := classify s.fmon r, flyPeriod := r.period } }

/-- The first measurement of a run. -/
def newRun (m : Measurement) (s : State) : State :=
  { s with fmon := { s.fmon with monitor := .acquiring, reference := some m, equalCount := 1 } }

/-- The run ends with no reference. -/
def noRun (s : State) : State :=
  { s with fmon := { s.fmon with monitor := .acquiring, reference := none, equalCount := 0 } }

/-- A measurement equal to the reference r in ACQUIRING (R32). -/
def countEqual (r : Measurement) (s : State) : State :=
  if s.fmon.equalCount < 2 then
    { s with fmon := { s.fmon with equalCount := s.fmon.equalCount + 1 } }
  else lockOn r s

/-- A measurement judged in ACQUIRING (R32). -/
def judgeAcquiring (m : Measurement) (valid : Bool) (s : State) : State :=
  if valid then
    match s.fmon.reference with
    | some r => if m.equals r then countEqual r s else newRun m s
    | none => newRun m s
  else noRun s

/-- A measurement judged in LOCKED (R34). -/
def judgeLocked (m : Measurement) (valid : Bool) (s : State) : State :=
  if valid then
    match s.fmon.reference with
    | some r => if m.equals r then s else postLost .changed (newRun m s)
    | none => postLost .changed (newRun m s)
  else postLost .invalid (noRun s)

/-- A measurement judged in the monitor state. -/
def judgeMeasurement (m : Measurement) (valid : Bool) (s : State) : State :=
  match s.fmon.monitor with
  | .acquiring => judgeAcquiring m valid s
  | .locked => judgeLocked m valid s
  | .noSignal => s

/-- The open measurement is closed and judged; with none open nothing is (R26). -/
def closeMeasurement (s : State) : State :=
  match s.fmon.measuring with
  | some open_ =>
    let o := open_.endLine
    let m := o.record s.fmon s.pxp.mode s.now
    judgeMeasurement m (measurementValid o m) { s with fmon := { s.fmon with measuring := none } }
  | none => s

/-- A measurement opens at this boundary, and PXP's count of code errors begins anew (R161). -/
def openMeasurement (s : State) : State :=
  { s with
    fmon := { s.fmon with measuring := some (openAt s.now) }
    pxp := { s.pxp with codeErrors := 0, errorReported := false } }

/-! ### The four sources of a frame start, FMON's own part -/

/-- FMON counts the frame start and posts a loss report that waits for one (R29, R35). -/
def countFrame (s : State) : State :=
  reportInputMode { s with fmon := { s.fmon with fsn := s.fmon.fsn + 1 } }

/-- FMON's part of a frame start at a first-field boundary in ACQUIRING or LOCKED (R26). -/
def fmonBoundary (s : State) : State := openMeasurement (closeMeasurement (countFrame s))

/-- FMON's part of the first boundary after NO_SIGNAL: ACQUIRING, the flywheel stopped, the first measurement
open (R28). -/
def leaveNoSignal (s : State) : State :=
  openMeasurement { s with fmon := { s.fmon with
    monitor := .acquiring, flyRunning := false, activity := some s.now } }

/-- Whether that boundary is a frame start: a quarter of the flywheel period has passed (R28). -/
def quarterPassed (s : State) : Bool := decide (s.fmon.flyPeriod ≤ 4 * (s.now - s.fmon.lastFly))

/-- FMON's part of a flywheel start (R27). -/
def fmonFlywheel (s : State) : State :=
  countFrame { s with fmon := { s.fmon with lastFly := s.now } }

/-- The entry to NO_SIGNAL, with the flywheel running and its first start at once (R25, R27). -/
def fmonNoSignal (s : State) : State :=
  let wasLocked := decide (s.fmon.monitor = .locked)
  let s1 := fmonFlywheel { s with fmon := { s.fmon with
    monitor := .noSignal, measuring := none, reference := none, equalCount := 0, prevAlign := none
    activity := none, flyRunning := true } }
  if wasLocked then postLost .noSignal s1 else s1

/-! ### Boundaries (R23, R24) -/

/-- A second-field boundary: MID, and other than the alignment before (R24). -/
def isSecondField (prev : Option Alignment) (a : Alignment) : Bool :=
  decide (a = .mid) && decide (prev = some .line)

/-- Every boundary restarts the activity timer and leaves its alignment (R24). -/
def noteBoundary (a : Alignment) (s : State) : State :=
  { s with fmon := { s.fmon with prevAlign := some a, activity := some s.now } }

/-- A second-field boundary makes the open measurement interlaced (R30). -/
def noteSecondField (s : State) : State :=
  let m := s.fmon.measuring.map (fun o => ({ o with second := true } : OpenMeasurement))
  { s with fmon := { s.fmon with measuring := m } }

/-- The alignment of a boundary in the separate-sync modes. While no line length is known it is a free value (R23;
log entry 12). -/
def alignVertical (offset : Nat) (s : State) : Alignment × State :=
  match s.fmon.prevLine with
  | some line => (syncAlignment line offset, s)
  | none => (if Config.firstAlignment s.choices then .line else .mid, { s with choices := s.choices + 1 })

/-- FMON learns the active level of PX_VS from a complete cycle; some alignment if the edge that ends the cycle is a
boundary. The first two edges complete no cycle, and the edges of the first cycle are no boundaries (R23). -/
def learnVertical (edge : Level) (high low offset : Nat) (s : State) : Option Alignment × State :=
  if s.fmon.vEdges < 2 then (none, { s with fmon := { s.fmon with vEdges := s.fmon.vEdges + 1 } })
  else
    let l := activeLevel high low
    let s1 := { s with fmon := { s.fmon with vLevel := some l } }
    if s.fmon.vLevel.isSome && decide (edge = l) then
      (some (alignVertical offset s1).1, (alignVertical offset s1).2)
    else (none, s1)

/-- What an INPUT_BOUNDARY row is to FMON in the mode in force: the alignment of a boundary, if it is one. -/
def boundaryOf (i : BoundaryInput) (s : State) : Option Alignment × State :=
  match i with
  | .sync elapsed edge high low offset =>
    if s.pxp.mode.embedded then (none, s)
    else learnVertical edge high low offset (advanceTo (s.now + elapsed) s)
  | .code elapsed f =>
    if s.pxp.mode.embedded && decide (s.fmon.boundaryDue = some f) then
      (some (if f then .mid else .line),
        advanceTo (s.now + elapsed) { s with fmon := { s.fmon with boundaryDue := none } })
    else (none, s)

/-! ### Lines (R30) -/

/-- A line start, the line before it n pixel periods long if it is known (R30). The length of the line in which the opening
boundary fell counts in the new measurement (log entry 21). -/
def measureLine (n : Option Nat) (s : State) : State :=
  let m := s.fmon.measuring.map (fun open_ =>
    let o := open_.endLine
    ({ o with
        vt := o.vt + 1
        ht := if o.ht.isSome then o.ht else n
        differed := o.differed || (match n with
          | some k => noteLength o.ht k
          | none => false) } : OpenMeasurement))
  { s with fmon := { s.fmon with measuring := m, prevLine := if n.isSome then n else s.fmon.prevLine } }

/-- The active pixels of a line of the embedded-code modes (R30). -/
def measureActive (n : Nat) (s : State) : State :=
  { s with fmon := { s.fmon with measuring := s.fmon.measuring.map (·.activeLine n) } }

/-- PX_DE has been asserted for n pixel periods of the line in progress, which is one more active line with the first of
them (R30). -/
def OpenMeasurement.addRun (n : Nat) (o : OpenMeasurement) : OpenMeasurement :=
  { o with va := if 0 < n ∧ o.lineHa = 0 then o.va + 1 else o.va, lineHa := o.lineHa + n }

/-- FMON's part of n pixel periods of PX_DE (R30). Where the opening boundary fell within them, all of them count in the
new measurement (log entry 21). -/
def measureRun (n : Nat) (s : State) : State :=
  { s with fmon := { s.fmon with measuring := s.fmon.measuring.map (·.addRun n) } }

/-- The active pixels of the line in progress are complete (R30). -/
def endMeasuredLine (s : State) : State :=
  { s with fmon := { s.fmon with measuring := s.fmon.measuring.map OpenMeasurement.endLine } }

/-- One more active line of the embedded-code modes (R30). -/
def countActive (s : State) : State :=
  let m := s.fmon.measuring.map (fun o => ({ o with va := o.va + 1 } : OpenMeasurement))
  { s with fmon := { s.fmon with measuring := m } }

/-- PXP's report that the count of uncorrectable codes reached 4 (R31, R161). -/
def markInvalid (s : State) : State :=
  let m := s.fmon.measuring.map (fun o => ({ o with invalid := true } : OpenMeasurement))
  { s with fmon := { s.fmon with measuring := m } }

/-! ### Input mode change and reclassification (R35, R38) -/

/-- Learning begins anew (R23, R35). The memory of the last codes goes with it (log entry 21). -/
def restartLearning (s : State) : State :=
  { s with fmon := { s.fmon with
    prevAlign := none, hLevel := none, vLevel := none, codeV := none, boundaryDue := none
    sinceLine := none, sinceSav := none, vEdges := 0, hEdges := 0 } }

/-- FMON's part of an input mode change (R35). -/
def fmonModeChange (s : State) : State :=
  match s.fmon.monitor with
  | .noSignal => restartLearning s
  | m =>
    restartLearning { s with fmon := { s.fmon with
      monitor := .acquiring, measuring := none, reference := none, equalCount := 0, activity := some s.now
      lossReport := s.fmon.lossReport || decide (m = .locked) } }

/-- The checks of LOAD-FORMAT-ENTRY (R38). -/
def formatEntryOk (code : Nat) (clear : Bool) (e : FormatEntry) : Bool :=
  decide (25 ≤ code ∧ code ≤ 32) && (clear || decide (2 ≤ e.ht ∧ e.ht ≤ 8191 ∧ 2 ≤ e.vt ∧ e.vt ≤ 4095
    ∧ 1 ≤ e.ha ∧ e.ha < e.ht ∧ 1 ≤ e.va ∧ e.va < e.vt ∧ 12000 ≤ e.rate ∧ e.rate ≤ 240000
    ∧ e.ht * e.vt * e.rate ≤ 300000000000))

/-- In LOCKED the reference is classified again; another code takes effect and posts FORMAT_LOCKED (R38). -/
def reclassify (s : State) : State :=
  match s.fmon.monitor, s.fmon.reference with
  | .locked, some r =>
    let g := classify s.fmon r
    if g.code = s.fmon.geometry.code then s
    else postLocked { s with fmon := { s.fmon with geometry := g } }
  | _, _ => s

/-- LOAD-FORMAT-ENTRY at its take (R38). The words of BAD_PARAM are log entry 40's. -/
def loadFormat (h : Handle) (code : Nat) (clear : Bool) (e : FormatEntry) (s : State) : State :=
  if formatEntryOk code clear e then
    let s1 := { s with fmon := { s.fmon with
      loadable := s.fmon.loadable.set (code - 25) (if clear then none else some e) } }
    let s2 := reclassify s1
    complete .fmon h .ok (word code) (word s2.fmon.geometry.code) s2
  else complete .fmon h .badParam 0 0 s

end Sys2Proof.Machine
end

