-- ==== Sys2Proof/Machine/Cadence.lean ====
section
/-!
DEFINITION. The blanking slot scheduler: the layout of slots, capacity, demand, the choice of the cadence factor
and its changes (R100 to R109). The plan itself is built in Frame.lean.
-/

namespace Sys2Proof.Machine

/-! ### Slots and layout (R100, R101) -/

/-- Slots of a blanking interval of n link character periods: 24 of guard, 32 to a slot, at most 8. -/
def lineSlots (n : Nat) : Nat := min 8 ((n - 24) / 32)

/-- Slots of an active line at factor f. -/
def activeSlots (g : Geometry) (f : Nat) : Nat := lineSlots ((g.ht - g.ha) * f)

/-- Slots of a line of vertical blanking at factor f. -/
def blankSlots (g : Geometry) (f : Nat) : Nat := lineSlots (g.ht * f)

/-- The capacity S(F) (R101). -/
def capacity (g : Geometry) (f : Nat) : Nat :=
  g.va * activeSlots g f + (g.vt - g.va) * blankSlots g f

/-- Where n slots go at or after position c in a stretch of lines of width w that begins at position start: on
the line of c if it has room, else at the head of the next line. -/
def placeIn (start w lines c n : Nat) : Option Nat :=
  if w = 0 ∨ w < n then none
  else
    let off := (c - start) % w
    let p := if off + n ≤ w then c else c - off + w
    if p + n ≤ start + lines * w then some p else none

/-- Where a packet of n slots goes when c slots of the frame lie before the end of the last packet placed; none
if it does not fit. The lines of vertical blanking come first (log entry 14). -/
def placeAt (g : Geometry) (f c n : Nat) : Option Nat :=
  let b := blankSlots g f
  let lines := g.vt - g.va
  match placeIn 0 b lines c n with
  | some p => some p
  | none => placeIn (lines * b) (activeSlots g f) g.va (max c (lines * b)) n

/-! ### Demand (R102) -/

/-- Slots of a standing entry (R116). -/
def StandingEntry.slots (e : StandingEntry) : Nat := slotsFor e.payload.length

/-- The standing part of the demand. -/
def standingPart (t : Stt) : Nat := ((t.entries.filter (·.enabled)).map StandingEntry.slots).sum

/-- Groups of one audio packet (R102). -/
def groupsPerPacket (channels : Nat) : Nat := if channels = 2 then 4 else 1

/-- The audio part of the demand for a format and a frame rate in mHz. -/
def audioPart (f : Option AudioFormat) (rate : Nat) : Nat :=
  match f with
  | none => 0
  | some a => ceilDiv (ceilDiv (a.rate * 1000) rate) (groupsPerPacket a.channels) + 1

/-- The demand D. -/
def demand (s : State) : Nat :=
  standingPart s.stt + audioPart s.ain.format s.fmon.geometry.rate + s.bss.reserve

/-! ### The needed factor (R103, R104) -/

/-- A factor is a candidate. -/
def isCandidate (g : Geometry) (f : Nat) : Bool :=
  decide ((pixelClock g).1 * f ≤ 600000000 * (pixelClock g).2)

def candidates (g : Geometry) : List Nat := [1, 2, 4].filter (isCandidate g)

def largestCandidate (g : Geometry) : Nat := (candidates g).getLastD 1

/-- The AUTO result: the smallest candidate with room for d, or the largest. -/
def autoFactor (g : Geometry) (d : Nat) : Nat :=
  ((candidates g).find? (fun f => decide (d ≤ capacity g f))).getD (largestCandidate g)

/-- The needed factor. -/
def neededFactor (b : Bss) (g : Geometry) (d : Nat) : Nat :=
  match b.mode with
  | .auto => autoFactor g d
  | .floor => max (autoFactor g d) (min b.hostFactor (largestCandidate g))
  | .fixed => if isCandidate g b.hostFactor then b.hostFactor else largestCandidate g

/-! ### The decision (R105) -/

/-- The lower-fits count after a decision, and whether it decides a change to the needed factor. -/
def decideChange (b : Bss) (needed : Nat) : Nat × Bool :=
  match b.mode with
  | .fixed => (0, decide (needed ≠ b.factor))
  | _ =>
    if b.factor < needed then (0, true)
    else if needed = b.factor then (0, false)
    else if b.lowerFits + 1 < 16 then (b.lowerFits + 1, false)
    else (0, true)

/-! ### Cadence work at a frame start (R106 to R109) -/

/-- What the cadence work of a frame start leaves for the rest of it: whether SES restarts training, the demand
and the needed factor, and whether the decision found that the demand fits. -/
structure CadenceWork where
  restart : Bool
  demand : Nat
  needed : Nat
  fits : Bool
  deriving DecidableEq, Repr

/-- The states with the lanes on, in the sense of R107. -/
def SessionState.linkUp : SessionState → Bool
  | .training => true
  | .carrying => true
  | .quiet => true
  | _ => false

/-- The CADENCE reason as this frame start leaves it: the one of the frame before is removed (R15). -/
def setCadenceReason (b : Bool) (s : State) : State :=
  let q : QuietSet := { s.ses.quiet with cadence := b }
  { s with ses := { s.ses with quiet := q } }

/-- The event of a change of the factor in force. -/
def cadenceEvent (s : State) (d old new : Nat) : Event := .cadenceChanged old new s.bss.mode d

/-- The pending cadence record comes into force (R109); its completion follows the decision. The lower-fits count is set to
0 here, where R109 has it; that "the entry of a new pending cadence record" of R105 does so too, and not the take already, is
the model's choice (DESIGN CHOICE, log entry 41). -/
def applyCadence (s : State) : State :=
  match s.bss.pending with
  | some p => { s with bss := { s.bss with
      mode := p.mode, hostFactor := p.factor, reserve := p.reserve, lowerFits := 0, pending := none } }
  | none => s

/-- The second word of a SET-CADENCE completion. -/
def cadenceWord (b : Bss) : Word :=
  word (b.mode.code + 2 ^ 8 * b.factor + 2 ^ 16 * b.announced.getD 0)

/-- The factor in force moves to f at this frame start, with the lanes on or off (R107, R108). -/
def moveFactor (d f : Nat) (s : State) : State :=
  post .bss (cadenceEvent s d s.bss.factor f)
    (setCadenceReason s.ses.session.linkUp
      { s with bss := { s.bss with factor := f, announced := none, lowerFits := 0 } })

/-- CAPACITY_SHORT as this frame start would carry it. -/
def shortEvent (skipped : Bool) (d needed : Nat) (s : State) : Event :=
  .capacityShort skipped s.bss.factor needed d (capacity s.fmon.geometry needed)

/-- The decision of a frame start without an announced factor (R105 to R108). -/
def cadenceDecision (d needed : Nat) (s : State) : State × CadenceWork :=
  let r := decideChange s.bss needed
  let fits := decide (d ≤ capacity s.fmon.geometry needed)
  let short := !fits && !s.bss.shortfall
  let up := s.ses.session.linkUp
  let moves := r.2 && !up
  let s1 := { s with bss := { s.bss with
    lowerFits := r.1
    announced := if r.2 && up then some needed else none
    factor := if moves then needed else s.bss.factor
    shortfall := s.bss.shortfall || !fits } }
  let change := cadenceEvent s d s.bss.factor needed
  let s2 := match moves, short with
    | true, true => postEither .bss change (shortEvent false d needed s1) s1
    | true, false => post .bss change s1
    | false, true => post .bss (shortEvent false d needed s1) s1
    | false, false => s1
  (s2, ⟨r.2 && decide (s.ses.session = .training), d, needed, fits⟩)

/-- BSS's cadence work after the pending record. At a frame start without a decision the needed factor, which a
CAPACITY_SHORT of the plan carries, is computed as at one with a decision (log entry 41). -/
def cadenceStep (s : State) : State × CadenceWork :=
  let g := s.fmon.geometry
  let d := demand s
  let needed := neededFactor s.bss g d
  let training := decide (s.ses.session = .training)
  match s.bss.announced with
  | some f =>
    if isCandidate g s.bss.factor && isCandidate g f then (moveFactor d f s, ⟨false, d, needed, false⟩)
    else (moveFactor d needed s, ⟨training, d, needed, false⟩)
  | none =>
    if isCandidate g s.bss.factor then cadenceDecision d needed s
    else (moveFactor d needed s, ⟨training, d, needed, false⟩)

/-- BSS's cadence work at a frame start, before SES makes its own changes (R107). -/
def bssFrameStart (s : State) : State × CadenceWork :=
  let r := cadenceStep (applyCadence (setCadenceReason false s))
  match s.bss.pending with
  | some p => (complete .bss p.handle .ok r.1.fmon.fsn (cadenceWord r.1.bss) r.1, r.2)
  | none => r

/-- The shortfall flag after the plan (R106): a demand that fits clears it unless the plan skips a due standing
entry, and a skip with the flag clear sets it and posts CAPACITY_SHORT. -/
def judgeSkips (w : CadenceWork) (skips : Bool) (s : State) : State :=
  if skips then
    if s.bss.shortfall then s
    else post .bss (shortEvent true w.demand w.needed s) { s with bss := { s.bss with shortfall := true } }
  else if w.fits then { s with bss := { s.bss with shortfall := false } }
  else s

/-! ### SET-CADENCE (R109) -/

def cadenceModeOf (b : Byte) : Option CadenceMode :=
  match b.toNat with
  | 0 => some .auto
  | 1 => some .floor
  | 2 => some .fixed
  | _ => none

/-- The record that SET-CADENCE's parameters spell, if they pass the checks. -/
def cadenceRecord (h : Handle) (mode factor reserve : Byte) : Option PendingCadence :=
  match cadenceModeOf mode with
  | some m =>
    if (factor = 1 ∨ factor = 2 ∨ factor = 4) ∧ reserve.toNat ≤ 64 then
      some ⟨m, factor.toNat, reserve.toNat, h⟩
    else none
  | none => none

/-- A new pending cadence record supersedes the one before. The lower-fits count stays until `applyCadence` (DESIGN CHOICE,
log entry 41). -/
def setPendingCadence (p : PendingCadence) (s : State) : State :=
  let s1 := match s.bss.pending with
    | some q => complete .bss q.handle .superseded 0 0 s
    | none => s
  { s1 with bss := { s1.bss with pending := some p } }

end Sys2Proof.Machine
end

