-- ==== Sys2Proof/Machine/Packets.lean ====
section
/-!
DEFINITION. The addressed packet queues: SEND, the fetch list, deadlines, selection and placement,
acknowledgements, CANCEL, and what walks and drops do to the packets held (R126 to R145).
-/

namespace Sys2Proof.Machine

/-! ### Packets -/

def Packet.slots (p : Packet) : Nat := slotsFor p.len

/-- The second word of a SEND completion (R134, section 12.5). -/
def sendWord (p : Packet) : Word :=
  word ((p.tag.map BitVec.toNat).getD 0 + 2 ^ 8 * p.attempts + 2 ^ 16 * p.cls.code)

/-- The first word of a SEND completion: the FSN of its last placement, or 0 (R134). -/
def placedWord (p : Packet) : Word := p.placed.getD 0

/-- A held SEND completes. -/
def finishPacket (p : Packet) (st : Status) (s : State) : State :=
  complete .apq p.handle st (placedWord p) (sendWord p) s

/-- SENDs complete one after another. -/
def finishPackets (st : Status) (ps : List Packet) (s : State) : State :=
  ps.foldl (fun s p => finishPacket p st s) s

/-- The roster entry of a target is ACTIVE with the packet's serial; BROADCAST always passes (R132). -/
def targetHeld (s : State) (t : Target) : Bool :=
  match t with
  | .tile i sn => (entryAt s i).isActive && decide ((entryAt s i).serial = sn)
  | .broadcast => true

/-- The destination address of a target (R129). -/
def Target.address (t : Target) : Byte :=
  match t with
  | .tile i _ => addressOf i
  | .broadcast => 0

/-- The queue of a class. -/
def queueOf (q : Apq) : PacketClass → List Packet
  | .urgent => q.urgent
  | .normal => q.normal
  | .bulk => q.bulk

/-- The queues with one class's replaced. -/
def setQueue (c : PacketClass) (ps : List Packet) (q : Apq) : Apq :=
  match c with
  | .urgent => { q with urgent := ps }
  | .normal => { q with normal := ps }
  | .bulk => { q with bulk := ps }

/-- A packet joins the tail of its class queue (R128). -/
def joinTail (p : Packet) (s : State) : State :=
  { s with apq := setQueue p.cls (queueOf s.apq p.cls ++ [p]) s.apq }

/-- A retransmitted packet joins the head of its class queue (R137). -/
def joinHead (p : Packet) (s : State) : State :=
  { s with apq := setQueue p.cls (p :: queueOf s.apq p.cls) s.apq }

/-- The packets of the three class queues, in the order in which rules work them. -/
def classPackets (q : Apq) : List Packet := q.urgent ++ q.normal ++ q.bulk

/-- The packet of the awaiting-ack list with a handle id. -/
def awaitingWith (q : Apq) (id : Nat) : Option Packet :=
  q.awaiting.find? (fun p => decide (p.handle.id = id))

/-- The awaiting-ack list without a packet. -/
def dropAwaiting (id : Nat) (q : Apq) : Apq :=
  { q with awaiting := q.awaiting.filter (fun p => !decide (p.handle.id = id)) }

/-! ### SEND at its take and its payload (R126, R128) -/

def classOf (b : Byte) : Option PacketClass :=
  match b.toNat with
  | 0 => some .urgent
  | 1 => some .normal
  | 2 => some .bulk
  | _ => none

/-- The session states in which a SEND is accepted (R126). -/
def SessionState.takesPackets : SessionState → Bool
  | .ready => true
  | .carrying => true
  | .quiet => true
  | _ => false

/-- The packet of a SEND, made at its take. -/
def newPacket (h : Handle) (t : Target) (c : PacketClass) (ack : Bool) (deadline : Half) (addr : Addr)
    (len : Nat) (s : State) : Packet where
  handle := h
  target := t
  cls := c
  ack := ack
  deadline := if deadline = 0 then none else some (s.fmon.fsn + deadline.zeroExtend 32)
  addr := addr
  len := len
  payload := []
  tag := none
  attempts := 0
  placed := none
  due := false
  cancel := none

/-- SEND at its take (R126): the checks in their order, then the tail of the fetch list. -/
def takeSend (h : Handle) (index : Byte) (broadcast ack : Bool) (cls : Byte) (deadline : Half)
    (serial : Serial) (addr : Addr) (len : Byte) (s : State) : State :=
  let t : Target := if broadcast then .broadcast else .tile index.toNat serial
  match classOf cls with
  | none => complete .apq h .badParam 0 0 s
  | some c =>
    if (ack && broadcast) || !decide (1 ≤ len.toNat ∧ len.toNat ≤ 112)
        || (!broadcast && decide (63 < index.toNat)) then complete .apq h .badParam 0 0 s
    else if !s.ses.session.takesPackets then complete .apq h .notReady 0 0 s
    else if !targetHeld s t then complete .apq h .targetGone 0 0 s
    else { s with apq := { s.apq with
      fetching := s.apq.fetching ++ [newPacket h t c ack deadline addr len.toNat s] } }

/-- The payload read of the fetch list's head starts (R128). -/
def startSendRead (s : State) : State :=
  match s.apq.fetching with
  | p :: _ =>
    if s.apq.reading then s
    else emit (.hostRead p.addr p.len) { s with apq := { s.apq with reading := true } }
  | [] => s

/-- The payload read ends (R128, R139). -/
def endSendRead (data : Option (List Byte)) (s : State) : State :=
  match s.apq.fetching with
  | p :: ps =>
    if s.apq.reading then
      let s1 := { s with apq := { s.apq with fetching := ps, reading := false } }
      match p.cancel with
      | some st => finishPacket p st s1
      | none =>
        match readData p.len data with
        | some d => joinTail { p with payload := d } s1
        | none => finishPacket p .hostReadError s1
    else s
  | [] => s

/-! ### Deadlines (R130) -/

/-- The deadline of a packet has passed at an FSN. -/
def Packet.late (p : Packet) (fsn : Fsn) : Bool :=
  match p.deadline with
  | some d => passed fsn d
  | none => false

/-- The expiries of a frame start: URGENT, NORMAL, BULK, each from head to tail. -/
def expirePackets (s : State) : State :=
  let fsn := s.fmon.fsn
  let keep := fun (ps : List Packet) => ps.filter (fun p => !p.late fsn)
  finishPackets .expired ((classPackets s.apq).filter (fun p => p.late fsn))
    { s with apq := { s.apq with
      urgent := keep s.apq.urgent, normal := keep s.apq.normal, bulk := keep s.apq.bulk } }

/-! ### Selection and placement (R131 to R134) -/

/-- A plan in the making: the state so far, the slots of the frame that lie before the end of the last packet
placed, the addressed packets placed, and the bytes of every packet placed, in order. -/
structure Selection where
  state : State
  cursor : Nat
  placed : List PlacedPacket
  sent : List (List Byte)

/-- The slots still free (R100). -/
def Selection.free (x : Selection) : Nat :=
  capacity x.state.fmon.geometry x.state.bss.factor - x.cursor

/-- What R132 finds for a class head. -/
inductive HeadCase where
  | gone
  | blocked
  | place (pos : Nat)
  deriving DecidableEq, Repr

/-- The cases of R132 in their order. -/
def headCase (x : Selection) (p : Packet) : HeadCase :=
  if !targetHeld x.state p.target then .gone
  else match placeAt x.state.fmon.geometry x.state.bss.factor x.cursor p.slots with
    | none => .blocked
    | some pos => if p.ack && decide (awaitingMax ≤ x.state.apq.awaiting.length) then .blocked else .place pos

/-- RWK gives the next tag of an ACTIVE entry with the packet's serial, and steps it (R82). -/
def takeTag (i : Nat) (sn : Serial) (s : State) : Option (Byte × State) :=
  let e := entryAt s i
  if e.isActive && decide (e.serial = sn) then
    some (e.nextTag, updEntry i (fun e => { e with nextTag := e.nextTag + 1 }) s)
  else none

/-- The tag of an acknowledged packet at a placement: its own, or a new one at the first (R134). -/
def tagFor (p : Packet) (s : State) : Option Byte × State :=
  match p.ack, p.tag, p.target with
  | true, none, .tile i sn =>
    match takeTag i sn s with
    | some (t, s1) => (some t, s1)
    | none => (none, s)
  | _, t, _ => (t, s)

/-- The bytes of an addressed packet (R129, section 12.8). -/
def addressedBytes (p : Packet) (fsn : Fsn) : List Byte :=
  packetBytes .addressed fsn p.target.address (if p.tag.isSome then 1 else 0) (p.tag.getD 0) p.payload

/-- Place a packet at a position of the frame (R134). -/
def placePacket (pos : Nat) (p : Packet) (x : Selection) : Selection :=
  let fsn := x.state.fmon.fsn
  let t := tagFor p x.state
  let p1 := { p with attempts := p.attempts + 1, placed := some fsn, tag := t.1, due := false }
  let s1 := t.2
  { state := if p.ack then { s1 with apq := { s1.apq with awaiting := s1.apq.awaiting ++ [p1] } }
      else finishPacket p1 .ok s1
    cursor := pos + p.slots
    placed := x.placed ++ [⟨p.target.address, p.slots⟩]
    sent := x.sent ++ [addressedBytes p1 fsn] }

/-- The class step of R131 for one class: its queue from the head, until it is empty or blocked or nothing is
free. The result holds what stays queued. -/
def selectClass : List Packet → Selection → List Packet × Selection
  | [], x => ([], x)
  | p :: ps, x =>
    if x.free = 0 then (p :: ps, x)
    else match headCase x p with
      | .gone => selectClass ps { x with state := finishPacket p .targetGone x.state }
      | .blocked => (p :: ps, x)
      | .place pos => selectClass ps (placePacket pos p x)

/-- How the starvation step of R131 ended. -/
inductive StarveEnd where
  | placed | blocked | emptied
  deriving DecidableEq, Repr

/-- The starvation step: the BULK head alone, after heads that are gone. -/
def starveStep : List Packet → Selection → List Packet × Selection × StarveEnd
  | [], x => ([], x, .emptied)
  | p :: ps, x =>
    match headCase x p with
    | .gone => starveStep ps { x with state := finishPacket p .targetGone x.state }
    | .blocked => (p :: ps, x, .blocked)
    | .place pos => (ps, placePacket pos p x, .placed)

/-- The starvation count after a selection (R133). -/
def starveAfter (waiting : Bool) (placed : Bool) (count : Nat) : Nat :=
  if waiting && !placed then min 8 (count + 1) else 0

/-- A class's queue after its part of a selection. -/
def withQueue (c : PacketClass) (r : List Packet × Selection) : Selection :=
  { r.2 with state := { r.2.state with apq := setQueue c r.1 r.2.state.apq } }

/-- The starvation count set. -/
def setStarve (n : Nat) (x : Selection) : Selection :=
  { x with state := { x.state with apq := { x.state.apq with starve := n } } }

/-- The class step: URGENT, NORMAL and, unless it is blocked, BULK; then the count of R133. starved tells that the
starvation step has placed a packet. -/
def classStep (waiting starved bulkBlocked : Bool) (x : Selection) : Selection :=
  let x1 := withQueue .urgent (selectClass x.state.apq.urgent x)
  let x2 := withQueue .normal (selectClass x1.state.apq.normal x1)
  let x3 := if bulkBlocked then x2 else withQueue .bulk (selectClass x2.state.apq.bulk x2)
  let placed := starved || decide (x2.placed.length < x3.placed.length)
  setStarve (starveAfter waiting placed x3.state.apq.starve) x3

/-- APQ's selection with an allowance above 0 (R131, R133). -/
def selectPackets (x : Selection) : Selection :=
  let waiting := !x.state.apq.bulk.isEmpty
  if x.state.apq.starve = 8 ∧ waiting then
    let r := starveStep x.state.apq.bulk x
    classStep waiting (decide (r.2.2 = .placed)) (decide (r.2.2 = .blocked)) (withQueue .bulk (r.1, r.2.1))
  else classStep waiting false false x

/-! ### Acknowledgements (R135 to R138) -/

/-- The due marks of a frame start (R135). -/
def markDue (s : State) : State :=
  let fsn := s.fmon.fsn
  { s with apq := { s.apq with awaiting := s.apq.awaiting.map (fun p =>
      match p.placed with
      | some f => if reached fsn (f + 2) then { p with due := true } else p
      | none => p) } }

/-- The index of a tile target. -/
def Target.index (t : Target) : Nat :=
  match t with
  | .tile i _ => i
  | .broadcast => 0

/-- A SEND of the awaiting-ack list completes and leaves the list. -/
def finishAwaiting (p : Packet) (st : Status) (s : State) : State :=
  finishPacket p st { s with apq := dropAwaiting p.handle.id s.apq }

/-- A packet that its tile has not received (R137). -/
def notReceived (p : Packet) (s : State) : State :=
  if 3 ≤ p.attempts then finishAwaiting p .notDelivered s
  else if p.late s.fmon.fsn then finishAwaiting p .expired s
  else joinHead { p with due := false } { s with apq := dropAwaiting p.handle.id s.apq }

/-- The outcome of a GET-RECEIPT judged outside walks for a packet still awaiting (R136, cases 3 to 7). Section 12.7
gives the received flag as 0 or 1; the model takes every other byte as 1 (log entry 41). -/
def judgeReceipt (p : Packet) (o : TxOutcome) (s : State) : State :=
  if !targetHeld s p.target then finishAwaiting p .targetGone s
  else match o with
    | .linkDown => finishAwaiting p .linkDown s
    | .response d =>
      if some (d.getD 0 0) = p.tag then
        (if d.getD 1 0 = 0 then notReceived p s else finishAwaiting p .ok s)
      else finishAwaiting p .noResponse s
    | _ => finishAwaiting p .noResponse s

/-- While the presence is negated, a request ends at once with LINK_DOWN: each due packet is judged so (R51,
R136). -/
def receiptsDown (s : State) : State :=
  (s.apq.awaiting.filter (·.due)).foldl (fun s p => judgeReceipt p .linkDown s) s

/-- The ack collector places its next GET-RECEIPT (R135). -/
def nextReceipt (s : State) : State :=
  match s.apq.acPacket with
  | some _ => s
  | none =>
    match s.apq.awaiting.find? (·.due) with
    | none => s
    | some p =>
      if s.ses.presence then
        joinSet .ac ⟨addressOf p.target.index, .getReceipt, [p.tag.getD 0]⟩
          { s with apq := { s.apq with acPacket := some p.handle.id } }
      else receiptsDown s

/-- The packet of the collector's request has left the awaiting-ack list: a waiting request is withdrawn, one
in flight runs to its outcome, and a held outcome is discarded (R135, R138). -/
def settleReceipt (s : State) : State :=
  match s.apq.acPacket with
  | some id =>
    if (awaitingWith s.apq id).isSome then s
    else if flightIs .ac s then s
    else withdraw .ac { s with apq := { s.apq with acPacket := none, held := none } }
  | none => s

/-- A GET-RECEIPT's outcome is judged, and the next question follows. -/
def judgeAndNext (p : Packet) (o : TxOutcome) (s : State) : State :=
  nextReceipt (judgeReceipt p o { s with apq := { s.apq with acPacket := none, held := none } })

/-- The outcome of a GET-RECEIPT (R136). -/
def acResult (o : TxOutcome) (s : State) : State :=
  match s.apq.acPacket with
  | none => s
  | some id =>
    match awaitingWith s.apq id with
    | none => nextReceipt { s with apq := { s.apq with acPacket := none } }
    | some p =>
      if s.rwk.walking then { s with apq := { s.apq with held := some o } }
      else judgeAndNext p o s

/-! ### Walks and drops (R140 to R142) -/

/-- A SEND whose payload read is in progress gets its mark, the others of the fetch list are given up. The new mark
replaces whatever mark there was, LINK_DOWN too (R140, R142; log entry 29). -/
def markReading (st : Status) (q : Apq) : List Packet × List Packet :=
  match q.fetching with
  | p :: ps => if q.reading then ([{ p with cancel := some st }], ps) else ([], p :: ps)
  | [] => ([], [])

/-- Every SEND held completes with a status, in R140's order; the one whose read is in progress is marked. -/
def endAllPackets (st : Status) (s : State) : State :=
  let f := markReading st s.apq
  finishPackets st (f.2 ++ classPackets s.apq ++ s.apq.awaiting)
    { s with apq := { s.apq with fetching := f.1, urgent := [], normal := [], bulk := [], awaiting := [] } }

/-- APQ at the start of a full walk (R140). -/
def packetsFullWalk (s : State) : State := settleReceipt (endAllPackets .targetGone s)

/-- The sweep at the end of a walk (R141), and the held receipt outcome after it (R138). -/
def packetsSweep (s : State) : State :=
  let keep := fun (ps : List Packet) => ps.filter (fun p => targetHeld s p.target)
  let s1 := finishPackets .targetGone
    ((classPackets s.apq ++ s.apq.awaiting).filter (fun p => !targetHeld s p.target))
    { s with apq := { s.apq with
      urgent := keep s.apq.urgent, normal := keep s.apq.normal, bulk := keep s.apq.bulk
      awaiting := keep s.apq.awaiting } }
  let s2 := settleReceipt s1
  match s2.apq.held, s2.apq.acPacket with
  | some o, some id =>
    match awaitingWith s2.apq id with
    | some p => judgeAndNext p o s2
    | none => s2
  | _, _ => nextReceipt s2

/-- APQ at a presence drop (R142). Its request has been ended by the sideband. The packet that a request waiting or in
flight names, one whose outcome is not held already, may be completed before the others (log entry 3). -/
def packetsDrop (s : State) : State :=
  let named := match s.apq.acPacket, s.apq.held with
    | some id, none => awaitingWith s.apq id
    | _, _ => none
  let s1 := match named with
    | some p =>
      let s0 := { s with choices := s.choices + 1 }
      if Config.pick s.choices % 2 = 0 then finishAwaiting p .linkDown s0 else s0
    | none => s
  let s2 := endAllPackets .linkDown s1
  { s2 with apq := { s2.apq with starve := 0, acPacket := none, held := none } }

/-! ### CANCEL (R139) -/

/-- Where CANCEL finds a SEND; the code is CANCEL's first result word. -/
inductive HeldPlace where
  | fetchWaiting | fetchReading | queue | awaiting
  deriving DecidableEq, Repr

def HeldPlace.code : HeldPlace → Nat
  | .fetchWaiting => 1 | .fetchReading => 1 | .queue => 2 | .awaiting => 3

/-- The SENDs held, each with its place. -/
def heldPackets (q : Apq) : List (Packet × HeldPlace) :=
  (match q.fetching with
    | p :: ps => (p, if q.reading then .fetchReading else .fetchWaiting) :: ps.map (fun p => (p, .fetchWaiting))
    | [] => [])
  ++ (classPackets q).map (fun p => (p, .queue)) ++ q.awaiting.map (fun p => (p, .awaiting))

/-- The one taken earliest. -/
def earliest : List (Packet × HeldPlace) → Option (Packet × HeldPlace)
  | [] => none
  | x :: xs =>
    match earliest xs with
    | some y => if y.1.handle.id < x.1.handle.id then some y else some x
    | none => some x

/-- The SEND that a host tag names. -/
def namedSend (q : Apq) (tag : HostTag) : Option (Packet × HeldPlace) :=
  earliest ((heldPackets q).filter (fun x => decide (x.1.handle.tag = tag)))

/-- The fetch list and the class queues without a SEND. -/
def dropQueued (id : Nat) (q : Apq) : Apq :=
  let keep := fun (ps : List Packet) => ps.filter (fun p => !decide (p.handle.id = id))
  { q with fetching := keep q.fetching, urgent := keep q.urgent, normal := keep q.normal, bulk := keep q.bulk }

/-- The cancel mark of the SEND at the head of the fetch list. -/
def markHead (st : Status) (q : Apq) : Apq :=
  { q with fetching := match q.fetching with
    | p :: ps => { p with cancel := some st } :: ps
    | [] => [] }

/-- CANCEL at its take (R139). A SEND that ends at once completes before CANCEL does (log entry 44). -/
def takeCancel (h : Handle) (target : HostTag) (s : State) : State :=
  match namedSend s.apq target with
  | none => complete .apq h .notFound 0 0 s
  | some (p, place) =>
    let w1 := word place.code
    let w2 := word p.cls.code
    match place with
    | .fetchReading => complete .apq h .ok w1 w2 { s with apq := markHead .cancelled s.apq }
    | .awaiting => complete .apq h .tooLate w1 w2 s
    | _ => complete .apq h .ok w1 w2
        (finishPacket p .cancelled { s with apq := dropQueued p.handle.id s.apq })

/-! ### Interface reset (R145) -/

/-- APQ at an interface reset: no completion is written, tags stay taken. -/
def packetsIfReset (s : State) : State :=
  let flying := flightIs .ac s
  let s1 := withdraw .ac s
  { s1 with apq := { Apq.reset with acPacket := if flying then s.apq.acPacket else none } }

end Sys2Proof.Machine
end

