-- ==== Sys2Proof/Machine/Session.lean ====
section
/-!
DEFINITION. The link session: changes of the session state with the lanes and the quiet reasons, the end of a
START-LINK, and link checks (R3, R7, R11 to R19).
-/

namespace Sys2Proof.Machine

/-- The states in which the lanes are on (R7). -/
def SessionState.lanesOn : SessionState → Bool
  | .training => true
  | .carrying => true
  | .quiet => true
  | _ => false

/-- CARRYING or QUIET: the frames carry packets. -/
def SessionState.carries : SessionState → Bool
  | .carrying => true
  | .quiet => true
  | _ => false

/-- The states whose entry removes HOST and CADENCE from the quiet reason set (R11). -/
def SessionState.clearsQuiet : SessionState → Bool
  | .ready => true
  | .waiting => true
  | .detached => true
  | _ => false

/-- The quiet reason set on entry to a state (R11). -/
def quietOnEntry (new : SessionState) (q : QuietSet) : QuietSet :=
  if new.clearsQuiet then { q with host := false, cadence := false } else q

/-- Whether a change from old to new ends what a link check was made for: leaving TRAINING, or leaving
CARRYING and QUIET (R9, R11). -/
def endsChecks (old new : SessionState) : Bool :=
  (decide (old = .training) && !decide (new = .training)) || (old.carries && !new.carries)

/-- A change of the session state: lane power and the termination-loss count follow it (R7, R12), the quiet
reasons and link checks as their rules say, and SESSION_CHANGED is posted with the set after the change
(R3). -/
def setSession (new : SessionState) (cause : SessionCause) (s : State) : State :=
  let old := s.ses.session
  let q := quietOnEntry new s.ses.quiet
  let check := if endsChecks old new then s.ses.linkCheck.map (fun c => { c with stale := true })
    else s.ses.linkCheck
  let s1 := { s with ses := { s.ses with
    session := new, lanes := new.lanesOn, quiet := q, linkCheck := check,
    termLoss := if new.lanesOn then s.ses.termLoss else 0 } }
  let s2 := if s.ses.lanes != new.lanesOn then emit (.lanes new.lanesOn) s1 else s1
  post .ses (.sessionChanged new old cause q) s2

/-- The START-LINK in flight completes, with the FSN and the training frame count at this moment (R8). -/
def endStartLink (st : Status) (s : State) : State :=
  completeOpt .ses s.ses.startLink st s.fmon.fsn (word s.ses.trainCount)
    { s with ses := { s.ses with startLink := none } }

/-! ### Link checks (R9, R18, R19, R81) -/

/-- LC places a LINK-CHECK for an index; while the presence is negated it gets LINK_DOWN at once, which
counts neither as a pass nor as a miss (R51, R58). -/
def lcPlace (i : Nat) (training : Bool) (s : State) : State :=
  if s.ses.presence then
    joinSet .lc ⟨addressOf i, .linkCheck, []⟩
      { s with ses := { s.ses with
        linkCheck := some ⟨i, (entryAt s i).serial, s.ses.linkFrames, training, false⟩ } }
  else s

/-- The next ACTIVE index after the link-check cursor, in index order with wrap (R18). -/
def nextCheckTarget (s : State) : Option Nat :=
  match (activeIndices s).filter (fun i => decide (s.ses.cursor < i)) with
  | i :: _ => some i
  | [] => (activeIndices s).head?

/-- The link check of R18 at a frame start. -/
def issueLinkCheck (s : State) : State :=
  if s.ses.session.carries && decide (s.ses.linkFrames.toNat % 8 = 0) && !s.rwk.walking
      && s.ses.linkCheck.isNone then
    match nextCheckTarget s with
    | some i => lcPlace i false { s with ses := { s.ses with cursor := i } }
    | none => s
  else s

/-- A walk's start withdraws the link checker's waiting request (R18). -/
def lcWalkStart (s : State) : State :=
  if s.sbc.lcReq.isSome then withdraw .lc { s with ses := { s.ses with linkCheck := none } } else s

/-- A tally lags the counter value c by 0, 1 or 2 (R19). -/
def tallyPasses (c t : Word) : Bool := decide ((c - t).toNat ≤ 2)

/-- A pass: miss count 0, suspect flag clear, TILE_RECOVERED if it was set (R19). Section 12.5 says only that the event
carries the miss count; the model sends the count after the update, 0 (log entry 41). -/
def checkPass (i : Nat) (s : State) : State :=
  let e := entryAt s i
  let s1 := updEntry i (fun e => { e with miss := 0, suspect := false }) s
  if e.suspect then post .ses (.tileRecovered i 0 e.serial) s1 else s1

/-- A miss: the count rises to 3, where the suspect flag is set and TILE_SUSPECT posted, and where a root
takes the session to FAULTED (R19). -/
def checkMiss (i : Nat) (s : State) : State :=
  let e := entryAt s i
  if e.miss < 2 then updEntry i (fun e => { e with miss := e.miss + 1 }) s
  else if e.miss = 2 then
    let s1 := post .ses (.tileSuspect i 3 e.serial)
      (updEntry i (fun e => { e with miss := 3, suspect := true }) s)
    if i = 0 then setSession .faulted .rootCheck s1 else s1
  else s

/-- The result of a check of CARRYING or QUIET, judged while the session carries and no walk runs, against
an entry still ACTIVE with the serial of the check (R19, R81). -/
def judgeCheck (c : LinkCheck) (o : TxOutcome) (s : State) : State :=
  if s.ses.session.carries && !s.rwk.walking && (entryAt s c.index).isActive
      && decide ((entryAt s c.index).serial = c.serial) then
    match o with
    | .response d => if tallyPasses c.c (checkTally d) then checkPass c.index s else checkMiss c.index s
    | .linkDown => s
    | .done => s
    | _ => checkMiss c.index s
  else s

/-- The outcome of a LINK-CHECK (R9, R19). A stale one is discarded. -/
def lcResult (o : TxOutcome) (s : State) : State :=
  match s.ses.linkCheck with
  | none => s
  | some c =>
    let s1 := { s with ses := { s.ses with linkCheck := none } }
    if c.stale then s1
    else if c.training then
      match o with
      | .response d =>
        if decide (s.ses.session = .training) && checkLock d then { s1 with ses := { s1.ses with lockSeen := true } }
        else s1
      | _ => s1
    else judgeCheck c o s1

end Sys2Proof.Machine
end

