-- ==== Sys2Proof/Machine/Walk.lean ====
section
/-!
DEFINITION. The walker: starts, steps and ends of full and refresh walks, admission, loss, the deny list, and the
teardown of a presence drop (R60 to R86).
-/

namespace Sys2Proof.Machine

/-! ### The roster (R60, R75 to R77) -/

/-- Whether entry j is a descendant of entry i, following at most n parent indices. -/
def isBelow (roster : List Entry) (i : Nat) : Nat → Nat → Bool
  | 0, _ => false
  | n + 1, j =>
    match (roster.getD j Entry.vacant).parent with
    | none => false
    | some k => decide (k = i) || isBelow roster i n k

/-- An entry that was ACTIVE or DENIED becomes LOST and records the generation; another keeps what it has. -/
def Entry.lose (gen : Half) (e : Entry) : Entry :=
  if e.isHeld then { e with state := .lost, lostGen := gen } else e

/-- The roster with every ACTIVE or DENIED entry that satisfies p made LOST. -/
def loseWhere (p : Nat → Bool) (s : State) : State :=
  { s with rwk := { s.rwk with roster := s.rwk.roster.mapIdx (fun j e =>
      if p j then e.lose s.rwk.generation else e) } }

/-- The descendants of an entry become LOST (R77). -/
def loseBelow (i : Nat) (s : State) : State := loseWhere (fun j => isBelow s.rwk.roster i 64 j) s

/-- An entry becomes LOST with its descendants (R77). -/
def loseEntry (i : Nat) (s : State) : State :=
  loseWhere (fun j => decide (j = i) || isBelow s.rwk.roster i 64 j) s

/-- The entries that name i as parent lose their parent index (R77). -/
def orphanChildren (i : Nat) (s : State) : State :=
  { s with rwk := { s.rwk with roster := s.rwk.roster.map (fun e =>
      if e.parent = some i then { e with parent := none } else e) } }

/-- An entry is vacated for reuse, and its children are orphaned (R77). -/
def vacate (i : Nat) (s : State) : State :=
  if (entryAt s i).isVacant then s
  else orphanChildren i (updEntry i (fun _ => Entry.vacant) s)

/-- RWK reports a change of entry 0 in a refresh walk, and a lost or denied root of a carrying session is a
fault (R13, R74). -/
def reportRoot (st : EntryState) (s : State) : State :=
  if s.ses.session.carries && decide (s.rwk.kind = .refresh) then
    match st with
    | .lost => setSession .faulted .rootLost s
    | .denied => setSession .faulted .rootDenied s
    | _ => s
  else s

/-- The known child of port p of entry t in a refresh walk (R71). -/
def knownChild (t p : Nat) (s : State) : Option Nat :=
  let here := fun (e : Entry) => decide (e.parent = some t) && decide (e.port = p)
  match s.rwk.kind with
  | .full => none
  | .refresh =>
    match findEntry (fun e => e.isHeld && here e) s with
    | some i => some i
    | none => findEntry (fun e => !e.isVacant && here e) s

/-- How far the lost generation of a LOST entry lies behind the current one; none for another entry. -/
def lostAge (gen : Half) (e : Entry) : Option Nat :=
  match e.state with
  | .lost => some (gen - e.lostGen).toNat
  | _ => none

/-- The index with the greatest age, the lowest of equals (R75). -/
def oldestFrom (gen : Half) : Nat → List Entry → Option (Nat × Nat)
  | _, [] => none
  | i, e :: es =>
    match lostAge gen e, oldestFrom gen (i + 1) es with
    | some a, some (j, b) => if b ≤ a then some (i, a) else some (j, b)
    | some a, none => some (i, a)
    | none, r => r

/-- The entry that a probed tile takes below the root (R75). -/
inductive Choice where
  | duplicate
  | take (index : Nat) (reuse : Bool)
  | full
  deriving DecidableEq, Repr

/-- The choice of R75 for a serial. -/
def chooseEntry (sn : Serial) (s : State) : Choice :=
  let same := fun (e : Entry) => !e.isVacant && decide (e.serial = sn)
  if (findEntry (fun e => same e && e.verified) s).isSome then .duplicate
  else match findEntry same s with
    | some i => .take i true
    | none =>
      match findEntry Entry.isVacant s with
      | some i => .take i false
      | none =>
        match s.rwk.kind, oldestFrom s.rwk.generation 0 s.rwk.roster with
        | .refresh, some (i, _) => .take i false
        | _, _ => .full

/-! ### Reports and ends (R78, R79) -/

/-- The report of a walk (R79). -/
def walkReport (o : WalkOutcome) (s : State) : WalkReport :=
  ⟨o, rosterCount s, s.rwk.warnings, s.rwk.generation, s.rwk.check⟩

/-- The status of an ENUMERATE whose walk ends so (R78). -/
def WalkOutcome.status : WalkOutcome → Status
  | .aborted => .aborted
  | .linkDown => .linkDown
  | _ => .ok

/-- Step 6 of R78: the ENUMERATE in flight completes, and a walk of another starter posts WALK_DONE. -/
def reportWalk (o : WalkOutcome) (s : State) : State :=
  let r := walkReport o s
  match s.rwk.starter with
  | .enumerate =>
    completeOpt .rwk s.rwk.enumerate o.status r.word1 r.check { s with rwk := { s.rwk with enumerate := none } }
  | _ => post .rwk (.walkDone s.rwk.kind s.rwk.starter r) s

/-- Step 1 of R78. -/
def stepGeneration (s : State) : State :=
  { s with rwk := { s.rwk with
    stack := [], wait := none, generation := s.rwk.generation + 1, check := checkValue s.rwk.roster } }

/-- Steps 2 and 3 of R78: the last-walk record, and the walk-in-progress flag cleared, after which SBC makes a
grant decision and R55 is checked. -/
def closeWalk (o : WalkOutcome) (s : State) : State :=
  pollCheck (grantDecision { s with rwk := { s.rwk with
    walking := false
    lastWalk := some ⟨s.rwk.kind, s.rwk.starter, o, s.rwk.warnings, s.rwk.generation⟩ } })

/-- Step 5 of R78: a full walk takes the session out of WALKING (R6, R11). -/
def leaveWalking (o : WalkOutcome) (s : State) : State :=
  match s.rwk.kind with
  | .refresh => s
  | .full =>
    match o with
    | .aborted => setSession .waiting .hostStop s
    | _ => if (entryAt s 0).isHeld then setSession .ready .walkEnd s else setSession .waiting .walkEnd s

/-- The end of a walk (R78). DCR judges its held outcome after APQ's sweep. -/
def endWalk (o : WalkOutcome) (s : State) : State :=
  reportWalk o (leaveWalking o (judgeHeldBlock (packetsSweep (closeWalk o (stepGeneration s)))))

/-- The outcome of a walk that ends by its own steps or the count limit (R70). -/
def ownOutcome (s : State) : WalkOutcome :=
  if !(entryAt s 0).isHeld then .noRoot
  else if s.rwk.countMark then .countLimit
  else if s.rwk.depthMark then .depthLimit
  else .ok

/-- A walk ends by its own steps. -/
def endOwn (s : State) : State := endWalk (ownOutcome s) s

/-! ### The walker's requests -/

/-- The walker places a request and waits for its outcome. A walk has the presence asserted (R64). -/
def wkPlace (w : WalkWait) (dest : Byte) (k : RequestKind) (ps : List Byte) (s : State) : State :=
  joinSet .wk ⟨dest, k, ps⟩ { s with rwk := { s.rwk with wait := some w } }

/-- The address of a tile without one. -/
def unassigned : Byte := 0x7F

/-- One warning more. -/
def warn (s : State) : State := { s with rwk := { s.rwk with warnings := min 63 (s.rwk.warnings + 1) } }

/-- The next port of the top pair advances. -/
def advancePort (s : State) : State :=
  { s with rwk := { s.rwk with stack := match s.rwk.stack with
    | (t, p) :: rest => (t, p + 1) :: rest
    | [] => [] } }

/-- CLOSE for the top pair's port, which advances (R68, R73). -/
def closePort (s : State) : State :=
  match s.rwk.stack with
  | (t, p) :: _ => wkPlace .close (addressOf t) .close [BitVec.ofNat 8 p] (advancePort s)
  | [] => s

/-- Every entry at an empty port that this walk has not verified becomes LOST with its descendants (R73). -/
def portEmpty (t p : Nat) (s : State) : State :=
  match s.rwk.kind with
  | .full => s
  | .refresh =>
    let gone := fun (e : Entry) =>
      !e.isVacant && decide (e.parent = some t) && decide (e.port = p) && !e.verified
    let roots := (List.range s.rwk.roster.length).filter (fun i => gone (entryAt s i))
    loseWhere (fun j => roots.any (fun i => decide (j = i) || isBelow s.rwk.roster i 64 j)) s

/-- The port loop until it places a request or ends the walk (R68, R73), in at most this many turns. -/
def walkLoop : Nat → State → State
  | 0, s => s
  | n + 1, s =>
    match s.rwk.stack with
    | [] => endOwn s
    | (t, p) :: rest =>
      let e := entryAt s t
      if e.ports ≤ p then
        let s1 := { s with rwk := { s.rwk with stack := rest } }
        if rest.isEmpty then endOwn s1 else closePort s1
      else if !e.present.getLsbD p then walkLoop n (advancePort (portEmpty t p s))
      else if 7 ≤ e.depth then walkLoop n (advancePort { s with rwk := { s.rwk with depthMark := true } })
      else wkPlace (.openPort (knownChild t p s)) (addressOf t) .open_ [BitVec.ofNat 8 p] s

/-- The turns of the port loop that the top pair needs at most: one for each port left, and one to pop the pair. -/
def turnsLeft (s : State) : Nat :=
  match s.rwk.stack with
  | (t, p) :: _ => (entryAt s t).ports - p + 1
  | [] => 1

/-- The port loop goes on. -/
def walkOn (s : State) : State := walkLoop (turnsLeft s) s

/-! ### Checked entries (R62, R67, R68, R73) -/

/-- After an entry's deny check and its BLANK: an ACTIVE tile with ports is explored; another ends the walk at the
root position, and is followed by CLOSE elsewhere. -/
def afterEntry (i : Nat) (root : Bool) (s : State) : State :=
  let e := entryAt s i
  if e.isActive && decide (0 < e.ports) then
    walkOn { s with rwk := { s.rwk with stack := (i, 0) :: s.rwk.stack } }
  else if root then endOwn s
  else closePort s

/-- The walker sends BLANK to an entry's tile. -/
def sendBlank (i : Nat) (root on : Bool) (s : State) : State :=
  wkPlace (.blank i root) (addressOf i) .blank [if on then 1 else 0] s

/-- The deny check of an entry just admitted or verified; old is its state before, fresh tells a new tile
(R62). -/
def denyCheck (i : Nat) (root : Bool) (old : EntryState) (fresh : Bool) (s : State) : State :=
  if s.rwk.denyList.contains (entryAt s i).serial then
    let s1 := updEntry i (fun e => { e with state := .denied }) s
    if fresh || decide (old = .active) || decide (old = .lost) then
      let s2 := loseBelow i s1
      let s3 := if root then reportRoot .denied s2 else s2
      sendBlank i root true s3
    else afterEntry i root s1
  else
    let s1 := updEntry i (fun e => { e with state := .active }) s
    if !fresh && (decide (old = .denied) || decide (old = .lost)) then sendBlank i root false s1
    else afterEntry i root s1

/-- A tile's confirmed entry (R72): mask, stamp and depth from the response and the parent. -/
def confirmEntry (i depth : Nat) (d : List Byte) (s : State) : State :=
  updEntry i (fun e => { e with
    verified := true, miss := 0, depth := depth, stamp := verifyStamp d
    present := BitVec.ofNat 8 ((verifyMask d).toNat % 2 ^ e.ports) }) s

/-- The contents that an admission writes over an entry (R75). -/
def writeAdmitted (p : Probe) (parent : Option Nat) (port depth : Nat) (e : Entry) : Entry :=
  { e with
    serial := p.serial, parent := parent, port := port, depth := depth, ports := p.ports
    present := p.present, stamp := p.stamp, miss := 0, verified := true }

/-- Where a tile found behind the top pair's port belongs: parent, port and depth. -/
def placeBelow (s : State) : Option Nat × Nat × Nat :=
  match s.rwk.stack with
  | (t, p) :: _ => (some t, p, (entryAt s t).depth + 1)
  | [] => (none, 0, 1)

/-- An ASSIGN behind a port has succeeded: the entry is written and checked (R75). -/
def admitBelow (i : Nat) (reuse : Bool) (p : Probe) (s : State) : State :=
  let w := placeBelow s
  let old := (entryAt s i).state
  let s1 := if reuse then s else vacate i s
  denyCheck i false old (!reuse) (updEntry i (writeAdmitted p w.1 w.2.1 w.2.2) s1)

/-- Another entry with the new root's serial is made VACANT, its descendants LOST, its children orphaned
(R76). -/
def clearTwin (sn : Serial) (s : State) : State :=
  match (List.range s.rwk.roster.length).find? (fun i =>
      decide (i ≠ 0) && !(entryAt s i).isVacant && decide ((entryAt s i).serial = sn)) with
  | some i => vacate i (if (entryAt s i).isHeld then loseBelow i s else s)
  | none => s

/-- The ASSIGN at the root position has succeeded (R67, R76). The children of the entry 0 before keep their
parent index, so that the walk visits them again (log entry 9). -/
def admitRoot (p : Probe) (s : State) : State :=
  denyCheck 0 true .vacant true
    (updEntry 0 (fun _ => writeAdmitted p none 0 1 Entry.vacant) (clearTwin p.serial s))

/-! ### Starting a walk (R64 to R66, R71) -/

/-- A full walk begins: the roster VACANT, APQ told, RELEASE-ALL (R66). -/
def beginFull (s : State) : State :=
  wkPlace .release 0 .releaseAll []
    (packetsFullWalk { s with rwk := { s.rwk with roster := s.rwk.roster.map (fun _ => Entry.vacant) } })

/-- A refresh walk begins with the root (R71). -/
def beginRefresh (s : State) : State :=
  if (entryAt s 0).isVacant then wkPlace .rootProbe unassigned .probe [] s
  else wkPlace .rootVerify (addressOf 0) .verify [] s

/-- The start of a walk (R64). LC and AP withdraw their waiting requests (R53, R55). -/
def startWalk (k : WalkKind) (st : WalkStarter) (s : State) : State :=
  let s1 := { s with rwk := { s.rwk with
    walking := true, kind := k, starter := st, stack := [], depthMark := false, countMark := false
    warnings := 0, wait := none
    roster := s.rwk.roster.map (fun e => { e with verified := false }) } }
  let s2 := match st with
    | .enumerate => s1
    | _ => post .rwk (.walkStarted k st s.rwk.generation) s1
  let s3 := pollWalkStart (lcWalkStart s2)
  match k with
  | .full => beginFull s3
  | .refresh => beginRefresh s3

/-! ### Outcomes of the walker's transactions -/

/-- The root does not answer (R67, R71). -/
def rootProbed (o : TxOutcome) (s : State) : State :=
  match o with
  | .response d =>
    let p := probeOf d
    wkPlace (.rootAssign p) unassigned .assign (1 :: beBytes 6 p.serial.toNat) s
  | _ => endOwn s

/-- The root's ASSIGN (R67, R75, R76). -/
def rootAssigned (p : Probe) (o : TxOutcome) (s : State) : State :=
  match o with
  | .response _ => admitRoot p s
  | _ => endOwn (warn s)

/-- VERIFY of entry 0 (R71, R72). -/
def rootVerified (o : TxOutcome) (s : State) : State :=
  let lost := wkPlace .rootProbe unassigned .probe []
    (if (entryAt s 0).isHeld then reportRoot .lost (loseEntry 0 s) else loseEntry 0 s)
  match o with
  | .response d =>
    if verifySerial d = (entryAt s 0).serial then
      denyCheck 0 true (entryAt s 0).state false (confirmEntry 0 1 d s)
    else lost
  | _ => lost

/-- OPEN of the top pair's port (R68, R73). -/
def portOpened (child : Option Nat) (o : TxOutcome) (s : State) : State :=
  match o with
  | .response _ =>
    match child with
    | some c => wkPlace (.childVerify c) (addressOf c) .verify [] s
    | none => wkPlace .portProbe unassigned .probe [] s
  | _ => walkOn (advancePort (warn s))

/-- VERIFY of the known child (R72, R73). -/
def childVerified (c : Nat) (o : TxOutcome) (s : State) : State :=
  let lost := wkPlace .portProbe unassigned .probe [] (loseEntry c s)
  match o with
  | .response d =>
    if verifySerial d = (entryAt s c).serial then
      denyCheck c false (entryAt s c).state false (confirmEntry c (placeBelow s).2.2 d s)
    else lost
  | _ => lost

/-- The count limit's closing CLOSEs, from the top of the stack down, then the end (R70). -/
def closeAll (ports : List (Nat × Nat)) (s : State) : State :=
  match ports with
  | (t, p) :: rest => wkPlace (.limitClose rest) (addressOf t) .close [BitVec.ofNat 8 p] s
  | [] => endOwn s

/-- PROBE behind the top pair's port (R68, R70, R73, R75). -/
def portProbed (o : TxOutcome) (s : State) : State :=
  match o with
  | .response d =>
    let p := probeOf d
    match chooseEntry p.serial s with
    | .duplicate => closePort (warn s)
    | .take i reuse =>
      wkPlace (.portAssign i reuse p) unassigned .assign (addressOf i :: beBytes 6 p.serial.toNat) s
    | .full => closeAll s.rwk.stack { s with rwk := { s.rwk with countMark := true } }
  | _ => closePort (warn s)

/-- ASSIGN behind the top pair's port (R75). -/
def portAssigned (i : Nat) (reuse : Bool) (p : Probe) (o : TxOutcome) (s : State) : State :=
  match o with
  | .response _ => admitBelow i reuse p s
  | _ => closePort (warn s)

/-- BLANK (R62). -/
def blankDone (i : Nat) (root : Bool) (o : TxOutcome) (s : State) : State :=
  match o with
  | .response _ => afterEntry i root s
  | _ => afterEntry i root (warn s)

/-- The outcome of the walker's transaction. -/
def wkResult (o : TxOutcome) (s : State) : State :=
  let s1 := { s with rwk := { s.rwk with wait := none } }
  match s.rwk.wait with
  | none => s
  | some .release => wkPlace .rootProbe unassigned .probe [] s1
  | some .rootProbe => rootProbed o s1
  | some (.rootAssign p) => rootAssigned p o s1
  | some .rootVerify => rootVerified o s1
  | some (.openPort c) => portOpened c o s1
  | some (.childVerify c) => childVerified c o s1
  | some .portProbe => portProbed o s1
  | some (.portAssign i r p) => portAssigned i r p o s1
  | some (.blank i r) => blankDone i r o s1
  | some .close => walkOn s1
  | some (.limitClose rest) => closeAll rest s1

/-! ### Commands (R63, R65, R80, R83) -/

/-- The states in which a refresh walk may start (R57, R63, R65). -/
def SessionState.refreshes : SessionState → Bool
  | .ready => true
  | .carrying => true
  | .quiet => true
  | _ => false

/-- ENUMERATE at its take (R5, R65). The words of a refusal are log entry 40's. -/
def takeEnumerate (h : Handle) (kind : Byte) (s : State) : State :=
  match kind.toNat with
  | 0 =>
    if !(decide (s.ses.session = .waiting) || decide (s.ses.session = .ready)) then complete .rwk h .notReady 0 0 s
    else if s.rwk.walking then complete .rwk h .busy 0 0 s
    else startWalk .full .enumerate (setSession .walking .walkBegin
      { s with rwk := { s.rwk with enumerate := some h } })
  | 1 =>
    if !s.ses.session.refreshes then complete .rwk h .notReady 0 0 s
    else if s.rwk.walking then complete .rwk h .busy 0 0 s
    else startWalk .refresh .enumerate { s with rwk := { s.rwk with enumerate := some h } }
  | _ => complete .rwk h .badParam 0 0 s

/-- STOP-LINK in WALKING aborts the full walk (R80). -/
def abortWalk (s : State) : State :=
  let s1 := orphanFlight .wk (withdraw .wk s)
  endWalk .aborted { s1 with rwk := { s1.rwk with roster := s1.rwk.roster.map (fun _ => Entry.vacant) } }

/-- The serials of a deny list read from host memory (section 12.3). -/
def serialsOf : Nat → List Byte → List Serial
  | 0, _ => []
  | n + 1, d => BitVec.ofNat 48 (fromLe (d.take 6)) :: serialsOf n (d.drop 8)

/-- A deny list is stored, and APPLY may start a refresh walk (R63). -/
def storeDeny (w : DenyWork) (serials : List Serial) (s : State) : State :=
  let s1 := { s with rwk := { s.rwk with denyList := serials } }
  let go := w.apply && s.ses.session.refreshes && !s.rwk.walking
  complete .rwk w.handle .ok (word w.count) (word (bitAt 0 go))
    (if go then startWalk .refresh .apply s1 else s1)

/-- The work list's head as long as it needs no read (R63). -/
def workDeny : Nat → State → State
  | 0, s => s
  | n + 1, s =>
    match s.rwk.denyWork with
    | w :: ws =>
      if w.count = 0 ∧ !s.rwk.denyReading then
        workDeny n (storeDeny w [] { s with rwk := { s.rwk with denyWork := ws } })
      else s
    | [] => s

/-- The work list goes on. -/
def denyOn (s : State) : State := workDeny s.rwk.denyWork.length s

/-- SET-DENY-LIST at its take (R63). The words of BAD_PARAM are log entry 40's. -/
def takeDenyList (h : Handle) (count : Byte) (apply : Bool) (addr : Addr) (s : State) : State :=
  if 32 < count.toNat then complete .rwk h .badParam 0 0 s
  else denyOn { s with rwk := { s.rwk with
    denyWork := s.rwk.denyWork ++ [⟨h, count.toNat, apply, addr⟩] } }

/-- The read of the work list's head starts. -/
def startDenyRead (s : State) : State :=
  match s.rwk.denyWork with
  | w :: _ =>
    if s.rwk.denyReading || decide (w.count = 0) then s
    else emit (.hostRead w.addr (8 * w.count)) { s with rwk := { s.rwk with denyReading := true } }
  | [] => s

/-- The read of the work list's head ends (R63). The words of HOST_READ_ERROR are log entry 40's. -/
def endDenyRead (data : Option (List Byte)) (s : State) : State :=
  match s.rwk.denyWork with
  | w :: ws =>
    if s.rwk.denyReading then
      let s1 := { s with rwk := { s.rwk with denyWork := ws, denyReading := false } }
      denyOn (match readData (8 * w.count) data with
        | some d => storeDeny w (serialsOf w.count d) s1
        | none => complete .rwk w.handle .hostReadError 0 0 s1)
    else s
  | [] => s

/-- The 2112 bytes of the roster image (R83). -/
def rosterImage (s : State) : List Byte :=
  rosterHeader s.rwk.generation (rosterCount s) s.rwk.denyList.length s.rwk.check s.rwk.lastWalk
    ++ s.rwk.roster.flatMap entryBytes

/-- READ-ROSTER at its take (R83). The words of a refusal are log entry 40's. -/
def takeReadRoster (h : Handle) (addr : Addr) (len : Word) (s : State) : State :=
  if len.toNat < 2112 then complete .rwk h .badParam 0 0 s
  else if s.rwk.walking then complete .rwk h .busy 0 0 s
  else { s with rwk := { s.rwk with copies := s.rwk.copies ++
    [⟨h, addr, rosterImage s, word (s.rwk.generation.toNat + 2 ^ 16 * rosterCount s), s.rwk.check⟩] } }

/-- A copy by DMA ends (R83, R183). A failed one has written a part; its words are log entry 40's. -/
def endCopyOf (o : Owner) (c : Copy) (ok : Bool) (s : State) : State :=
  if ok then complete o c.handle .ok c.word1 c.word2 (emit (.hostWrite c.addr c.image) s)
  else complete o c.handle .hostWriteError 0 0 (emitPart c.addr c.image s)

/-! ### Presence drop and interface reset (R84, R86) -/

/-- RWK at a presence drop (R84). SBC abandons the walker's transaction in the same drop. -/
def rosterDrop (s : State) : State :=
  let s1 := stepGeneration (loseWhere (fun _ => true) s)
  if s.rwk.walking then
    reportWalk .linkDown { s1 with rwk := { s1.rwk with
      walking := false
      lastWalk := some ⟨s1.rwk.kind, s1.rwk.starter, .linkDown, s1.rwk.warnings, s1.rwk.generation⟩ } }
  else s1

/-- RWK at an interface reset (R86). -/
def rosterIfReset (s : State) : State :=
  { s with rwk := { s.rwk with denyWork := [], denyReading := false, copies := [] } }

end Sys2Proof.Machine
end

