-- ==== Sys2Proof/Machine/Outcome.lean ====
section
/-!
DEFINITION. The life of a sideband transaction: received frames, timeouts, the quiet time, the outcome handed to
the requester, and the channel's teardown (R43 to R45, R55 to R58).
-/

namespace Sys2Proof.Machine

/-! ### Notices (R56, R57) -/

/-- TILE_NOTICE for a notice of an index, and the refresh walk that DOWNSTREAM_CHANGED may start (R57). The serial is
that of the entry as the transaction ends, 0 where a full walk has made the entry VACANT (log entry 41). -/
def handleNotice (i : Nat) (kind arg : Byte) (s : State) : State :=
  let s1 := post .sbc (.tileNotice i kind arg (entryAt s i).serial) s
  if kind = 1 ∧ s.ses.session.refreshes ∧ s.ses.autoRefresh ∧ !s.rwk.walking then
    startWalk .refresh .autoRefresh s1
  else s1

/-- The notice of a GET-NOTICE response, if it holds one. -/
def noticeOf (o : TxOutcome) : Option (Byte × Byte) :=
  match o with
  | .response d => if d.getD 0 0 = 0 then none else some (d.getD 0 0, d.getD 1 0)
  | _ => none

/-- The round goes on after an outcome, unless a walk has ended it (R55, R56). -/
def pollAfter (i : Nat) (s : State) : State :=
  match s.sbc.poll with
  | .round => pollNext i s
  | _ => s

/-- The outcome of a GET-NOTICE for index i (R56). One whose round a walk has ended starts no further request, and makes
no test of the line (R55, log entry 41). -/
def apResult (i : Nat) (orphan : Bool) (o : TxOutcome) (s : State) : State :=
  match o with
  | .linkDown => { s with sbc := { s.sbc with poll := .idle } }
  | _ =>
    let s0 := { s with sbc := { s.sbc with pollCursor := some i } }
    let s1 := match noticeOf o with
      | some (k, a) => handleNotice i k a { s0 with sbc := { s0.sbc with noticeFound := true } }
      | none => s0
    if orphan then s1 else pollAfter i s1

/-! ### Outcomes (R45) -/

/-- The outcome goes to the requester. -/
def handOutcome (t : Transaction) (o : TxOutcome) (s : State) : State :=
  match t.requester with
  | .wk => if t.orphan then s else wkResult o s
  | .lc => lcResult o s
  | .ap => apResult (t.request.dest.toNat - 1) t.orphan o s
  | .ac => acResult o s
  | .dr => if t.orphan then s else drResult o s

/-- The channel is FREE again. -/
def freeChannel (s : State) : State :=
  { s with sbc := { s.sbc with
    channel := .free, inFlight := none, respTimer := none, quietTimer := none, lateFrame := false } }

/-- The end of a transaction: its requester may place what it could not place before, the outcome goes to it, and the
arbiter decides (R45, R51). -/
def endTransaction (o : TxOutcome) (s : State) : State :=
  match s.sbc.inFlight with
  | some t => grantDecision (handOutcome t o (placeDeferred t.requester (freeChannel s)))
  | none => s

/-- The outcome of a transaction whose third attempt has failed (R44). -/
def FailKind.outcome : FailKind → TxOutcome
  | .noResponse => .noResponse
  | .badCheck => .badCheck

/-- A failed attempt: the next one, or the end of the transaction (R44). -/
def failAttempt (k : FailKind) (s : State) : State :=
  match s.sbc.inFlight with
  | some t =>
    if t.attempt < 3 then sendAttempt { t with attempt := t.attempt + 1, lastFailure := some k } s
    else endTransaction k.outcome s
  | none => s

/-! ### Received frames (R43, R188) -/

/-- How SBC judges a frame for a transaction in flight. -/
inductive FrameVerdict where
  | bad
  | discard
  | accept (ack : Bool) (data : List Byte)
  deriving DecidableEq, Repr

/-- The tests of R188 and R43 in their order. -/
def judgeFrame (t : Transaction) (f : List Byte) : FrameVerdict :=
  match parseResponse f with
  | none => .bad
  | some r =>
    if r.data.length ≠ (if r.ack then ackLength t.request.kind else 0) then .bad
    else if r.seq ≠ t.seq ∨ r.source ≠ responseSource t.request then .discard
    else .accept r.ack r.data

/-- A frame has been received to its end. After the timer's 2 ms every frame but the response fails the attempt
by timeout (R44). -/
def receiveFrame (f : List Byte) (s : State) : State :=
  match s.sbc.channel, s.sbc.inFlight with
  | .attempt, some t =>
    match judgeFrame t f with
    | .accept true d => endTransaction (.response d) s
    | .accept false _ => endTransaction .refused s
    | .bad => failAttempt (if s.sbc.lateFrame then .noResponse else .badCheck) s
    | .discard => if s.sbc.lateFrame then failAttempt .noResponse s else s
  | _, _ => s

/-! ### Timers -/

/-- The response timer reaches 2 ms (R44). -/
def responseTimeout (frameArriving : Bool) (s : State) : State :=
  match s.sbc.channel, s.sbc.respTimer with
  | .attempt, some t =>
    if s.sbc.lateFrame then s
    else
      let s1 := advanceTo (t + responseTicks) s
      if frameArriving then { s1 with sbc := { s1.sbc with lateFrame := true } }
      else failAttempt .noResponse s1
  | _, _ => s

/-- The quiet timer reaches 5 ms (R45). -/
def releaseQuietEnd (s : State) : State :=
  match s.sbc.channel, s.sbc.quietTimer with
  | .releaseQuiet, some t => endTransaction .done (advanceTo (t + releaseTicks) s)
  | _, _ => s

/-- The holdoff timer reaches 100 ms (R56). -/
def holdoffEnd (s : State) : State :=
  match s.sbc.poll, s.sbc.holdoff with
  | .holdoff, some t =>
    let s1 := advanceTo (t + holdoffTicks) s
    pollCheck { s1 with sbc := { s1.sbc with poll := .idle, holdoff := none } }
  | _, _ => s

/-! ### The attention line (R55) -/

/-- SB_ATTN# is asserted. -/
def assertAttention (s : State) : State :=
  if s.pins.attn then s else pollCheck { s with pins := { s.pins with attn := true } }

/-- SB_ATTN# is released: a round whose request still waits ends. -/
def releaseAttention (s : State) : State :=
  let s1 := { s with pins := { s.pins with attn := false } }
  if decide (s.sbc.poll = .round) && hasWaiting .ap s then
    withdraw .ap { s1 with sbc := { s1.sbc with poll := .idle } }
  else s1

/-! ### Presence drop (R58) -/

/-- SBC at a presence drop: everything but the next sequence number returns to its reset value. The requesters'
own teardowns stand in their files. -/
def sideDrop (s : State) : State := { s with sbc := { Sbc.reset with nextSeq := s.sbc.nextSeq } }

end Sys2Proof.Machine
end

