-- ==== Sys2Proof/Machine/Flags.lean ====
section
/-!
DEFINITION. What the host reads: the eight registers with the flags of STATUS and CAUSE (section 12.2), and the
status record that READ-STATUS copies (R183).
-/

namespace Sys2Proof.Machine

/-- STATUS as it stands at the read (section 11.2). -/
def statusWord (s : State) : Word :=
  word (s.hif.state.code + 2 ^ 4 * s.hif.fatalCause.code + bitAt 7 s.hif.configError
    + 2 ^ 8 * s.ses.session.code + bitAt 12 s.ses.presence + bitAt 13 s.ses.lastTerm)

/-- CAUSE: COMPLETION, EVENT, FATAL in bits 0 to 2 (R181). -/
def causeWord (s : State) : Word :=
  word (bitAt 0 s.hif.causeCompletion + bitAt 1 s.hif.causeEvent + bitAt 2 s.hif.causeFatal)

/-- CONTROL: ENABLE and IRQ_EN read as written, the reset bits as 0 (R171). -/
def controlWord (s : State) : Word := word (bitAt 0 s.hif.enable + bitAt 1 s.hif.irqEn)

/-- A read of the register at a byte offset of the BAR; a read changes nothing. none for an offset that
holds no register. -/
def readRegister (s : State) (offset : Nat) : Option Word :=
  match offset with
  | 0x00 => some 0x2610
  | 0x04 => some (controlWord s)
  | 0x08 => some (statusWord s)
  | 0x0C => some (causeWord s)
  | 0x10 => some s.hif.bootLo
  | 0x14 => some s.hif.bootHi
  | 0x18 => some s.hif.producerReg
  | 0x1C => some s.hif.consumerReg
  | _ => none

/-- The commands that a write of a whole register spells (R171, R172, R178, R181). A write of CONTROL with a
reset bit set is that reset alone, FUNCTION_RESET before IF_RESET; another write of CONTROL sets IRQ_EN and
changes ENABLE where its bit differs. -/
def registerWriteRows (s : State) (offset : Nat) (v : Word) : List Instr :=
  match offset with
  | 0x00 => [.registerWrite .ident v]
  | 0x04 =>
    if v.getLsbD 2 then [.functionReset]
    else if v.getLsbD 3 then [.ifReset]
    else (if v.getLsbD 0 && !s.hif.enable then [.enableSet]
        else if !v.getLsbD 0 && s.hif.enable then [.enableClear] else [])
      ++ [.irqEn (v.getLsbD 1)]
  | 0x08 => [.registerWrite .status v]
  | 0x0C => [.cause v]
  | 0x10 => [.registerWrite .bootLo v]
  | 0x14 => [.registerWrite .bootHi v]
  | 0x18 => [.producer (v.extractLsb' 16 2) (v.extractLsb' 0 10)]
  | 0x1C => if v.getLsbD 16 then [.eventRelease (v.extractLsb' 0 10)]
      else [.completionRelease (v.extractLsb' 0 10)]
  | _ => []

/-- The packets that the pool holds (R127). -/
def poolHeld (q : Apq) : Nat :=
  q.fetching.length + q.urgent.length + q.normal.length + q.bulk.length + q.awaiting.length

/-- The pool free count that APQ reports (R127). -/
def poolFree (q : Apq) : Nat := poolSize - poolHeld q

/-- The totals of a plan as the status record holds them, bytes 20 to 39; 0 before the first plan (R113). -/
def planBytes : Option Plan → List Byte
  | none => zeros 20
  | some p =>
    leBytes 4 p.fsn.toNat ++ leBytes 4 p.slots ++ leBytes 1 p.factor ++ leBytes 1 p.skipped.length
      ++ leBytes 1 (bitAt 0 p.quiet) ++ [0] ++ leBytes 2 (p.standing.map (·.2)).sum ++ leBytes 2 p.audioPackets
      ++ leBytes 2 p.addressed.length ++ leBytes 2 (p.addressed.map (·.slots)).sum

/-- The 64-byte status record (R183, section 12.6). -/
def statusBytes (s : State) : List Byte :=
  padTo 64 (leBytes 4 s.fmon.fsn.toNat ++ leBytes 1 s.ses.session.code ++ leBytes 1 s.ses.quiet.code
    ++ leBytes 1 s.fmon.monitor.code ++ leBytes 1 s.fmon.geometry.code
    ++ leBytes 1 s.bss.mode.code ++ leBytes 1 s.bss.factor ++ leBytes 1 s.ain.audio.code ++ [0]
    ++ leBytes 2 s.ain.fifo.length ++ leBytes 2 s.rwk.generation.toNat ++ leBytes 1 (rosterCount s)
    ++ leBytes 1 (poolFree s.apq) ++ leBytes 1 s.apq.awaiting.length ++ [0]
    ++ planBytes s.bss.plan ++ leBytes 2 (freeCredits s.hif) ++ [0, 0] ++ leBytes 4 s.hif.overrun)

end Sys2Proof.Machine
end

