-- ==== Sys2Proof/Machine/Rings.lean ====
section
/-!
DEFINITION. The host interface: control bits, the bootstrap, producer and consumer writes, ring commands, event
configuration, the fetch arbiter, READ-STATUS and host memory errors (R168 to R183).
-/

namespace Sys2Proof.Machine

/-! ### Sizes and bases -/

/-- A ring size: a power of two from 16 to max records. -/
def ringSizeOk (max n : Nat) : Bool := [16, 32, 64, 128, 256, 512, 1024].contains n && decide (n ≤ max)

/-- A ring base: a multiple of 64. -/
def ringBaseOk (base : Addr) : Bool := decide (base.toNat % 64 = 0)

/-! ### ENABLE and the bootstrap (R168 to R170) -/

/-- The bootstrap address. -/
def bootAddress (h : Hif) : Addr := h.bootHi ++ h.bootLo

/-- ENABLE goes from 0 to 1 (R168). -/
def setEnable (s : State) : State :=
  if s.hif.enable then s
  else
    let s1 := { s with hif := { s.hif with enable := true } }
    match s.hif.state with
    | .disabled =>
      if s.hif.bootReading then s1
      else if (bootAddress s.hif).toNat % 32 = 0 then
        emit (.hostRead (bootAddress s.hif) 32)
          { s1 with hif := { s1.hif with configError := false, bootReading := true } }
      else { s1 with hif := { s1.hif with configError := true } }
    | _ => s1

/-- In DRAINING with nothing in flight the state becomes DISABLED, and the rings are forgotten (R170). -/
def endDraining (s : State) : State :=
  match s.hif.state with
  | .draining =>
    if takenCount s.hif = 0 then
      { s with hif := { s.hif with
        state := .disabled, rings := [none, none, none], comp := none, event := none, overrun := 0 } }
    else s
  | _ => s

/-- ENABLE goes from 1 to 0 (R168); with nothing in flight DRAINING is over at once (R170). -/
def clearEnable (s : State) : State :=
  if s.hif.enable then
    let s1 := { s with hif := { s.hif with enable := false } }
    match s.hif.state with
    | .running => endDraining { s1 with hif := { s1.hif with state := .draining } }
    | _ => s1
  else s

/-- The rings that a bootstrap record gives, if it is valid (R169, section 12.3). -/
def bootRings (r : BootRecord) : Option (Ring × RecordRing) :=
  let b0 : Addr := r.extractLsb' 0 64
  let n0 := (r.extractLsb' 64 16).toNat
  let b1 : Addr := r.extractLsb' 128 64
  let n1 := (r.extractLsb' 192 16).toNat
  if ringSizeOk 1024 n0 && ringBaseOk b0 && ringSizeOk 1024 n1 && ringBaseOk b1 then
    some (⟨b0, n0, 0, 0⟩, RecordRing.fresh b1 n1)
  else none

/-- The entry to RUNNING (R169). -/
def enterRunning (g : Ring) (c : RecordRing) (s : State) : State :=
  { s with hif := { s.hif with
    state := .running, rings := [some g, none, none], comp := some c, lastRing := 2, fetch := none
    inFlight := [], event := none, overrun := 0 } }

/-- The bootstrap read ends (R168). -/
def endBootstrap (record : Option BootRecord) (s : State) : State :=
  if s.hif.bootReading then
    let s1 := { s with hif := { s.hif with bootReading := false } }
    match record with
    | none => enterFatal .bootRead s1
    | some r =>
      match bootRings r with
      | none => { s1 with hif := { s1.hif with configError := true } }
      | some (g, c) => if s.hif.enable then enterRunning g c s1 else s1
  else s

/-! ### Registers (R172, R178, R180, R181) -/

/-- IRQ_EN is written (R171, R181). -/
def writeIrqEn (v : Bool) (s : State) : State :=
  let s1 := { s with hif := { s.hif with irqEn := v } }
  if v && !s.hif.irqEn && !s.hif.causeEmpty && s.pins.msiEnable then emit .msi s1 else s1

/-- A write to CAUSE clears each bit written as 1 (R181). -/
def writeCause (v : Word) (s : State) : State :=
  { s with hif := { s.hif with
    causeCompletion := s.hif.causeCompletion && !v.getLsbD 0
    causeEvent := s.hif.causeEvent && !v.getLsbD 1
    causeFatal := s.hif.causeFatal && !v.getLsbD 2 } }

/-- A producer index comes into force (R172). -/
def moveProducer (r i : Nat) (s : State) : State :=
  match ringAt s.hif r with
  | some g => if i < g.size then { s with hif := setRing r (some { g with prod := i }) s.hif } else s
  | none => s

/-- A write to PRODUCER (R172). -/
def writeProducer (ring : BitVec 2) (index : BitVec 10) (s : State) : State :=
  let s1 := { s with hif := { s.hif with producerReg := word (index.toNat + 2 ^ 16 * ring.toNat) } }
  if writesRecords s.hif then moveProducer ring.toNat index.toNat s1 else s1

/-- A write to CONSUMER naming the completion ring (R178). -/
def releaseCompletions (index : BitVec 10) (s : State) : State :=
  let s1 := { s with hif := { s.hif with consumerReg := word index.toNat } }
  if writesRecords s.hif then
    match s.hif.comp with
    | some r =>
      match r.release index.toNat with
      | some r1 => { s1 with hif := { s1.hif with comp := some r1 } }
      | none => s1
    | none => s1
  else s1

/-- A write to CONSUMER naming the event ring; a release that frees a place has lost events reported into it (R180). -/
def releaseEvents (index : BitVec 10) (s : State) : State :=
  let s1 := { s with hif := { s.hif with consumerReg := word (index.toNat + 2 ^ 16) } }
  if writesRecords s.hif then
    match s.hif.event with
    | some r =>
      match r.release index.toNat with
      | some r1 =>
        let s2 := { s1 with hif := { s1.hif with event := some r1 } }
        if r1.unreleased < r.unreleased then putOverrun s2 else s2
      | none => s1
    | none => s1
  else s1

/-- A write to a register that changes nothing else: BOOT_LO and BOOT_HI keep the value, IDENT and STATUS ignore
it (section 11.2). -/
def writePlain (r : PlainReg) (v : Word) (s : State) : State :=
  match r with
  | .bootLo => { s with hif := { s.hif with bootLo := v } }
  | .bootHi => { s with hif := { s.hif with bootHi := v } }
  | .ident => s
  | .status => s

/-! ### Ring commands (R173, R174, R179) -/

/-- CREATE-RING at its take (R173). -/
def takeCreateRing (h : Handle) (id : Byte) (base : Addr) (size : Half) (s : State) : State :=
  if 2 < id.toNat then complete .hif h .badParam 0 0 s
  else if (ringAt s.hif id.toNat).isSome ∨ id = 0 then complete .hif h .exists_ 0 0 s
  else if ringSizeOk 1024 size.toNat && ringBaseOk base then
    complete .hif h .ok (word id.toNat) (word size.toNat)
      { s with hif := setRing id.toNat (some ⟨base, size.toNat, 0, 0⟩) s.hif }
  else complete .hif h .badParam 0 0 s

/-- DESTROY-RING at its take (R174). -/
def takeDestroyRing (h : Handle) (id : Byte) (s : State) : State :=
  if id = 0 ∨ 2 < id.toNat then complete .hif h .badParam 0 0 s
  else match ringAt s.hif id.toNat with
    | none => complete .hif h .notFound 0 0 s
    | some g =>
      if s.hif.inFlight.any (fun x => decide (x.ring = id.toNat)) then complete .hif h .busy 0 0 s
      else complete .hif h .ok (word id.toNat) (word g.cons)
        { s with hif := setRing id.toNat none s.hif }

/-- The bits of an event mask that section 12.4 places, bit k for kind k; the others are ignored (R186). -/
def kindBits (mask : Word) : Word := mask &&& 0x1FFFE

/-- CONFIGURE-EVENTS at its take (R179). -/
def takeConfigureEvents (h : Handle) (base : Addr) (size : Half) (keep : Bool) (mask : Word) (s : State) : State :=
  if keep then
    match s.hif.event with
    | none => complete .hif h .notReady 0 0 s
    | some r => complete .hif h .ok (word r.size) (kindBits mask) { s with hif := { s.hif with mask := kindBits mask } }
  else if ringSizeOk 256 size.toNat && ringBaseOk base then
    complete .hif h .ok (word size.toNat) (kindBits mask)
      { s with hif := { s.hif with event := some (RecordRing.fresh base size.toNat), mask := kindBits mask } }
  else complete .hif h .badParam 0 0 s

/-! ### READ-STATUS (R183) -/

/-- READ-STATUS at its take. -/
def takeReadStatus (h : Handle) (addr : Addr) (len : Word) (s : State) : State :=
  if len.toNat < 64 then complete .hif h .badParam 0 0 s
  else { s with hif := { s.hif with copies := s.hif.copies ++
    [⟨h, addr, statusBytes s, s.fmon.fsn, word (freeCredits s.hif)⟩] } }

/-- The n-th status copy ends. -/
def endStatusCopy (n : Nat) (ok : Bool) (s : State) : State :=
  match s.hif.copies[n]? with
  | some c => endCopyOf .hif c ok { s with hif := { s.hif with copies := s.hif.copies.eraseIdx n } }
  | none => s

/-- The n-th roster copy ends (R83). -/
def endRosterCopy (n : Nat) (ok : Bool) (s : State) : State :=
  match s.rwk.copies[n]? with
  | some c => endCopyOf .rwk c ok { s with rwk := { s.rwk with copies := s.rwk.copies.eraseIdx n } }
  | none => s

/-! ### Taking commands (R175, R177, R182) -/

/-- A ring that a fetch may be made from (R175). -/
def ringEligible (s : State) (r : Nat) : Bool :=
  match ringAt s.hif r with
  | some g => decide (g.prod ≠ g.cons) && (decide (r ≠ dispatchRing) || decide (0 < poolFree s.apq))
  | none => false

/-- The ring that the fetch arbiter chooses: the first eligible one after the last ring served (R175). -/
def fetchChoice (s : State) : Option Nat :=
  match s.hif.state with
  | .running =>
    if s.hif.fetch.isNone && decide (0 < freeCredits s.hif) then
      [(s.hif.lastRing + 1) % 3, (s.hif.lastRing + 2) % 3, s.hif.lastRing % 3].find? (ringEligible s)
    else none
  | _ => none

/-- The fetch arbiter begins a fetch (R175). -/
def beginFetch (s : State) : State :=
  match fetchChoice s with
  | some r =>
    match ringAt s.hif r with
    | some g => emit (.hostRead g.slot 64) { s with hif := { s.hif with fetch := some r, lastRing := r } }
    | none => s
  | none => s

/-- The fatal cause of a failed fetch (R182). -/
def fetchCause (ring : Nat) : FatalCause :=
  match ring with
  | 0 => .ctrlFetch
  | 1 => .streamFetch
  | _ => .dispatchFetch

/-- The fetch in progress fails (R175, R182). -/
def failFetch (s : State) : State :=
  match s.hif.fetch with
  | some r => if writesRecords s.hif then enterFatal (fetchCause r) s else s
  | none => s

/-- A record whose code names no command (R177). -/
def takeUnknown (tag : HostTag) (s : State) : State :=
  match beginTake tag s with
  | some (h, s1) => complete .hif h .unknownCommand 0 0 s1
  | none => s

/-- A record write fails (R182). -/
def failRecordWrite (k : RecordKind) (s : State) : State :=
  if writesRecords s.hif then
    match k with
    | .completion => if s.hif.comp.isSome then enterFatal .completionWrite s else s
    | .event => if s.hif.event.isSome then enterFatal .eventWrite s else s
  else s

end Sys2Proof.Machine
end

