-- ==== Sys2Proof/Machine/Standing.lean ====
section
/-!
DEFINITION. The standing table: SET-STANDING and its work list, replacement at frame starts, due entries, and the
FORMAT and TALLY payloads (R115 to R125).
-/

namespace Sys2Proof.Machine

/-! ### Replacement and due entries (R115, R122, R123) -/

/-- The second word of a SET-STANDING completion. -/
def standingWord (i : Nat) (e : StandingEntry) : Word :=
  word (i + 2 ^ 8 * e.version.toNat + 2 ^ 16 * e.slots + bitAt 24 e.enabled)

/-- An entry after its pending record has taken effect. -/
def StandingEntry.replaced (e : StandingEntry) (p : PendingStanding) : StandingEntry :=
  ⟨p.enabled, p.period, p.phase, p.kind, p.payload, e.version + 1, none⟩

/-- Entry i takes its pending record at a frame start (R122). -/
def replaceEntry (s : State) (i : Nat) : State :=
  let e := s.stt.entries.getD i StandingEntry.empty
  match e.pending with
  | some p =>
    complete .stt p.handle .ok s.fmon.fsn (standingWord i (e.replaced p))
      { s with stt := { s.stt with entries := s.stt.entries.set i (e.replaced p) } }
  | none => s

/-- Every pending record takes effect, in index order (R122). -/
def replaceEntries (s : State) : State := (List.range s.stt.entries.length).foldl replaceEntry s

/-- An entry is due in the frame of an FSN (R115). -/
def StandingEntry.due (e : StandingEntry) (fsn : Fsn) : Bool :=
  e.enabled && decide (fsn.toNat % e.period = e.phase)

/-- The indices of the entries due, in index order. -/
def dueEntries (fsn : Fsn) (t : Stt) : List Nat :=
  (List.range t.entries.length).filter (fun i => (t.entries.getD i StandingEntry.empty).due fsn)

/-! ### FORMAT and TALLY (R117, R118, section 12.8) -/

def formatPayload (s : State) : List Byte :=
  let g := s.fmon.geometry
  let quiet := decide (s.ses.session = .quiet)
  leBytes 1 g.code
    ++ leBytes 1 (bitAt 0 g.interlaced + bitAt 1 quiet + bitAt 2 (decide (s.pxp.range = .narrow))
      + bitAt 3 s.ain.format.isSome)
    ++ beBytes 2 g.ha ++ beBytes 2 g.va ++ leBytes 1 s.bss.factor ++ leBytes 1 (s.bss.announced.getD 0)
    ++ beBytes 4 ((s.ain.format.map (·.rate)).getD 0) ++ leBytes 1 ((s.ain.format.map (·.channels)).getD 0)
    ++ zeros 3

def tallyPayload (s : State) : List Byte :=
  beBytes 4 s.ses.linkFrames.toNat ++ beBytes 2 s.rwk.generation.toNat

/-- Entries 0 and 1 are built anew. -/
def buildFixed (s : State) : State :=
  let f := formatPayload s
  let t := tallyPayload s
  { s with stt := { s.stt with
    entries := (s.stt.entries.modify 0 (fun e => { e with payload := f })).modify 1
      (fun e => { e with payload := t }) } }

/-- The bytes of a standing packet (R116). -/
def standingBytes (i : Nat) (e : StandingEntry) (fsn : Fsn) : List Byte :=
  packetBytes .standing fsn (BitVec.ofNat 8 i) e.kind e.version e.payload

/-! ### The work list (R119 to R121) -/

/-- A SET-STANDING that its parameters let through (R119). -/
def standingWork (h : Handle) (index enable period phase kind : Byte) (addr : Addr) (len : Byte) :
    Option StandingWork :=
  if index.toNat < 2 ∨ 15 < index.toNat then none
  else if enable = 0 then some ⟨h, index.toNat, false, 1, 0, 0, addr, 0⟩
  else if enable = 1 ∧ 1 ≤ period.toNat ∧ phase.toNat < period.toNat ∧ 1 ≤ len.toNat ∧ len.toNat ≤ 112 then
    some ⟨h, index.toNat, true, period.toNat, phase.toNat, kind, addr, len.toNat⟩
  else none

/-- A command's record becomes its entry's pending record, and an older one is superseded (R121). -/
def storeStanding (w : StandingWork) (payload : List Byte) (s : State) : State :=
  let e := s.stt.entries.getD w.index StandingEntry.empty
  let s1 := match e.pending with
    | some p => complete .stt p.handle .superseded 0 0 s
    | none => s
  let p : PendingStanding := ⟨w.enabled, w.period, w.phase, w.kind, payload, w.handle⟩
  { s1 with stt := { s1.stt with
    entries := s1.stt.entries.set w.index { e with pending := some p } } }

/-- The work list's head as long as it needs no read (R120). -/
def workStanding : Nat → State → State
  | 0, s => s
  | n + 1, s =>
    match s.stt.work with
    | w :: ws =>
      if w.enabled || s.stt.reading then s
      else workStanding n (storeStanding w [] { s with stt := { s.stt with work := ws } })
    | [] => s

/-- The work list goes on. -/
def standingOn (s : State) : State := workStanding s.stt.work.length s

/-- SET-STANDING at its take, the checks passed. -/
def joinStanding (w : StandingWork) (s : State) : State :=
  standingOn { s with stt := { s.stt with work := s.stt.work ++ [w] } }

/-- The payload read of the work list's head starts (R120). -/
def startStandingRead (s : State) : State :=
  match s.stt.work with
  | w :: _ =>
    if s.stt.reading || !w.enabled then s
    else emit (.hostRead w.addr w.len) { s with stt := { s.stt with reading := true } }
  | [] => s

/-- The payload read ends (R120). -/
def endStandingRead (data : Option (List Byte)) (s : State) : State :=
  match s.stt.work with
  | w :: ws =>
    if s.stt.reading then
      let s1 := { s with stt := { s.stt with work := ws, reading := false } }
      standingOn (match readData w.len data with
        | some d => storeStanding w d s1
        | none => complete .stt w.handle .hostReadError 0 0 s1)
    else s
  | [] => s

/-- STT at an interface reset (R125). -/
def sttIfReset (s : State) : State := { s with stt := { s.stt with work := [], reading := false } }

end Sys2Proof.Machine
end

