-- ==== Sys2Proof/Machine/Resets.lean ====
section
/-!
DEFINITION. The three resets (R184, R185 and the reset rules of every chapter), and the ends of a row's meaning.
-/

namespace Sys2Proof.Machine

/-! ### The end of a row -/

/-- What a row's meaning answers. -/
abbrev Result := Host.Outcome State Fault Refusal

/-- The row is done; HIF handles what owners handed over in the order that the rules give. -/
def done (s : State) : Result := .next (finishInOrder s)

/-- The row is done; several owners handed over at one moment, and their items are written in either order
(R178, R180). -/
def doneAny (s : State) : Result := .next (finishAnyOrder s)

/-! ### Resets -/

/-- The copies to host memory in progress: where each goes, and its image. Of a group of descriptor copies one runs at a
time (R83, R96, R183). -/
def copiesRunning (s : State) : List (Addr × List Byte) :=
  (s.hif.copies ++ s.rwk.copies).map (fun c => (c.addr, c.image))
    ++ (match s.dcr.copying, copyingRequest s.dcr with
      | some sn, some q => ((cached sn s.dcr).map (fun e => (q.addr, copyImage e q))).toList
      | _, _ => [])

/-- Every copy in progress stops, and the part of its buffer already written stays as written (R86, R99, R184). -/
def stopCopies (s : State) : State := (copiesRunning s).foldl (fun s c => emitPart c.1 c.2 s) s

/-- Every block at its reset value; the time, the pins, what has been sent and the waiting commands stay. -/
def resetBlocks (s : State) : State :=
  let s1 := stopCopies s
  { State.reset with
    fmon := Fmon.reset s.now
    hif := Hif.reset s.hif.nextId
    pins := s.pins
    now := s.now
    out := if s.ses.lanes then s1.out ++ [.lanes false] else s1.out
    choices := s1.choices
    pending := s.pending }

/-- The MSI enable of the PCIe configuration space, after a reset that resets that space. -/
def resetMsi (s : State) : State := { s with pins := { s.pins with msiEnable := false } }

/-- The interface reset: HIF at its reset values, and each owner's own rule (R184). -/
def interfaceReset (s : State) : State :=
  let s1 := stopCopies s
  sttIfReset (packetsIfReset (dcrIfReset (rosterIfReset
    { s1 with hif := Hif.reset s.hif.nextId })))

end Sys2Proof.Machine
end

