-- ==== Sys2Proof/Machine/SidebandRows.lean ====
section
/-!
DEFINITION. The meanings of the rows of the sideband (section 3).
-/

namespace Sys2Proof.Machine

/-- SIDEBAND_GRANT (R52, R53). -/
def execSidebandGrant (s : State) : Result := done (grantDecision s)

/-- SIDEBAND_FRAME_RECEIVED (R43 to R45, R188). -/
def execSidebandFrameReceived (frame : List Byte) (s : State) : Result := done (receiveFrame frame s)

/-- ATTEMPT_TIMEOUT (R44). -/
def execAttemptTimeout (frameArriving : Bool) (s : State) : Result := done (responseTimeout frameArriving s)

/-- RELEASE_QUIET_END (R45). -/
def execReleaseQuietEnd (s : State) : Result := done (releaseQuietEnd s)

/-- ATTENTION_ASSERTED (R55). -/
def execAttentionAsserted (s : State) : Result := done (assertAttention s)

/-- ATTENTION_RELEASED (R55). -/
def execAttentionReleased (s : State) : Result := done (releaseAttention s)

/-- HOLDOFF_EXPIRY (R56). -/
def execHoldoffExpiry (s : State) : Result := done (holdoffEnd s)

end Sys2Proof.Machine
end

