-- ==== Sys2Proof/Decode.lean ====
section
/-!
DEFINITION. decodeTableWord, and the 64-byte command record (section 12.4): decodeRecord reads the command that a
record's bytes spell, and encodeRecord writes the record of a command. The opcode table gives its rows no bits,
so that decodeTableWord answers none.
-/

namespace Sys2Proof

/-- The table gives no row any bits: no word spells a command. -/
def decodeTableWord (_nbits _w : Nat) : Option Instr := none

/-! ### Reading a record -/

/-- The n-bit field whose first byte is at an offset of a record. -/
def recordField (n : Nat) (r : CommandRecord) (offset : Nat) : BitVec n := r.extractLsb' (8 * offset) n

/-- The command code, byte 0. -/
def recordCode (r : CommandRecord) : Nat := (recordField 8 r 0).toNat

/-- The host tag, bytes 4 to 7. -/
def recordTag (r : CommandRecord) : HostTag := recordField 32 r 4

/-- n 16-bit fields from an offset on. -/
def recordHalves (r : CommandRecord) : Nat → Nat → List Half
  | 0, _ => []
  | n + 1, offset => recordField 16 r offset :: recordHalves r n (offset + 2)

/-- Bit k of the byte at an offset. -/
def recordBit (r : CommandRecord) (offset k : Nat) : Bool := r.getLsbD (8 * offset + k)

/-- The command that a record spells; none for a code that names no command (R177, section 12.4). -/
def decodeRecord (r : CommandRecord) : Option Instr :=
  let t := recordTag r
  match recordCode r with
  | 0x01 => some (.createRing t (recordField 8 r 8) (recordField 64 r 16) (recordField 16 r 24))
  | 0x02 => some (.destroyRing t (recordField 8 r 8))
  | 0x03 => some (.configureEvents t (recordField 64 r 8) (recordField 16 r 16) (recordBit r 18 0)
      (recordField 32 r 20))
  | 0x04 => some (.readStatus t (recordField 64 r 8) (recordField 32 r 16))
  | 0x05 => some (.setSession t (recordBit r 8 0) (recordBit r 8 1) (recordBit r 8 2))
  | 0x06 => some (.startLink t)
  | 0x07 => some (.stopLink t)
  | 0x08 => some (.quiet t)
  | 0x09 => some (.resume t)
  | 0x0A => some (.loadFormatEntry t (recordField 8 r 8) (recordBit r 9 0) (recordBit r 9 1)
      (recordField 16 r 10) (recordField 16 r 12) (recordField 16 r 14) (recordField 16 r 16)
      (recordField 32 r 20))
  | 0x0B => some (.enumerate t (recordField 8 r 8))
  | 0x0C => some (.readRoster t (recordField 64 r 8) (recordField 32 r 16))
  | 0x0D => some (.setDenyList t (recordField 8 r 8) (recordBit r 9 0) (recordField 64 r 16))
  | 0x0E => some (.readDescriptor t (recordField 8 r 8) (recordField 48 r 16) (recordField 64 r 24)
      (recordField 32 r 32))
  | 0x0F => some (.dropDescriptors t)
  | 0x10 => some (.cancel t (recordField 32 r 8))
  | 0x20 => some (.setCadence t (recordField 8 r 8) (recordField 8 r 9) (recordField 8 r 10))
  | 0x21 => some (.setStanding t (recordField 8 r 8) (recordField 8 r 9) (recordField 8 r 10)
      (recordField 8 r 11) (recordField 8 r 12) (recordField 64 r 16) (recordField 8 r 24))
  | 0x22 => some (.setAudio t (recordField 8 r 8) (recordField 8 r 9) (recordField 32 r 12))
  | 0x23 => some (.setPixelInput t (recordField 8 r 8) (recordField 8 r 9))
  | 0x24 => some (.loadTransform t (recordHalves r 9 8) (recordHalves r 3 26) (recordField 8 r 32))
  | 0x25 => some (.setFill t (recordField 16 r 8) (recordField 16 r 10) (recordField 16 r 12))
  | 0x40 => some (.send t (recordField 8 r 8) (recordBit r 9 0) (recordBit r 9 1) (recordField 8 r 10)
      (recordField 16 r 12) (recordField 48 r 16) (recordField 64 r 24) (recordField 8 r 32))
  | _ => none

/-! ### Writing a record -/

/-- A field placed at an offset of a record otherwise 0. -/
def putField {n : Nat} (offset : Nat) (v : BitVec n) : CommandRecord := v.setWidth 512 <<< (8 * offset)

/-- A flag placed at bit k of the byte at an offset. -/
def putBit (offset k : Nat) (b : Bool) : CommandRecord := (BitVec.ofBool b).setWidth 512 <<< (8 * offset + k)

/-- 16-bit fields from an offset on. -/
def putHalves : Nat → List Half → CommandRecord
  | _, [] => 0
  | offset, h :: hs => putField offset h ||| putHalves (offset + 2) hs

/-- The header of a record: code and host tag. -/
def putHead (code : Byte) (t : HostTag) : CommandRecord := putField 0 code ||| putField 4 t

/-- The record of a host command; none for a row that is no host command. -/
def encodeRecord (i : Instr) : Option CommandRecord :=
  match i with
  | .createRing t id base size =>
    some (putHead 0x01 t ||| putField 8 id ||| putField 16 base ||| putField 24 size)
  | .destroyRing t id => some (putHead 0x02 t ||| putField 8 id)
  | .configureEvents t base size keep mask =>
    some (putHead 0x03 t ||| putField 8 base ||| putField 16 size ||| putBit 18 0 keep ||| putField 20 mask)
  | .readStatus t addr len => some (putHead 0x04 t ||| putField 8 addr ||| putField 16 len)
  | .setSession t e r q => some (putHead 0x05 t ||| putBit 8 0 e ||| putBit 8 1 r ||| putBit 8 2 q)
  | .startLink t => some (putHead 0x06 t)
  | .stopLink t => some (putHead 0x07 t)
  | .quiet t => some (putHead 0x08 t)
  | .resume t => some (putHead 0x09 t)
  | .loadFormatEntry t code clear il ht ha vt va rate =>
    some (putHead 0x0A t ||| putField 8 code ||| putBit 9 0 clear ||| putBit 9 1 il ||| putField 10 ht
      ||| putField 12 ha ||| putField 14 vt ||| putField 16 va ||| putField 20 rate)
  | .enumerate t kind => some (putHead 0x0B t ||| putField 8 kind)
  | .readRoster t addr len => some (putHead 0x0C t ||| putField 8 addr ||| putField 16 len)
  | .setDenyList t count apply addr =>
    some (putHead 0x0D t ||| putField 8 count ||| putBit 9 0 apply ||| putField 16 addr)
  | .readDescriptor t index serial addr len =>
    some (putHead 0x0E t ||| putField 8 index ||| putField 16 serial ||| putField 24 addr ||| putField 32 len)
  | .dropDescriptors t => some (putHead 0x0F t)
  | .cancel t target => some (putHead 0x10 t ||| putField 8 target)
  | .setCadence t mode factor reserve =>
    some (putHead 0x20 t ||| putField 8 mode ||| putField 9 factor ||| putField 10 reserve)
  | .setStanding t index enable period phase kind addr len =>
    some (putHead 0x21 t ||| putField 8 index ||| putField 9 enable ||| putField 10 period
      ||| putField 11 phase ||| putField 12 kind ||| putField 16 addr ||| putField 24 len)
  | .setAudio t channels wl rate =>
    some (putHead 0x22 t ||| putField 8 channels ||| putField 9 wl ||| putField 12 rate)
  | .setPixelInput t mode method => some (putHead 0x23 t ||| putField 8 mode ||| putField 9 method)
  | .loadTransform t coeffs offsets range =>
    some (putHead 0x24 t ||| putHalves 8 coeffs ||| putHalves 26 offsets ||| putField 32 range)
  | .setFill t c0 c1 c2 => some (putHead 0x25 t ||| putField 8 c0 ||| putField 10 c1 ||| putField 12 c2)
  | .send t index broadcast ack cls deadline serial addr len =>
    some (putHead 0x40 t ||| putField 8 index ||| putBit 9 0 broadcast ||| putBit 9 1 ack ||| putField 10 cls
      ||| putField 12 deadline ||| putField 16 serial ||| putField 24 addr ||| putField 32 len)
  | _ => none

end Sys2Proof
end

