-- ==== Sys2Proof/Machine/Audio.lean ====
section
/-!
DEFINITION. The audio intake: capture, the FIFO, SET-AUDIO, the work of a frame start and the rate check (R146 to
R156).
-/

namespace Sys2Proof.Machine

/-! ### The FIFO (R149, R150) -/

/-- The FIFO is emptied, which arms the overflow report (R150). -/
def emptyFifo (s : State) : State := { s with ain := { s.ain with fifo := [], armed := true } }

/-- AUDIO_OVERFLOW for the format in force. -/
def overflowEvent (s : State) (f : AudioFormat) : Event := .audioOverflow s.ain.audio f.channels f.rate

/-- A completed group joins the FIFO or is dropped (R149, R150). -/
def joinFifo (f : AudioFormat) (g : List (BitVec 24)) (s : State) : State :=
  if s.ain.fifo.length < fifoMax then { s with ain := { s.ain with fifo := s.ain.fifo ++ [g] } }
  else if s.ain.armed then
    post .ain (overflowEvent s f) { s with ain := { s.ain with armed := false } }
  else s

/-! ### Capture (R146, R154) -/

/-- A falling edge of AU_WS counts in the running window (R153). -/
def countEdge (s : State) : State :=
  let w := s.ain.window.map (fun w => ({ w with edges := w.edges + 1 } : RateWindow))
  { s with ain := { s.ain with window := w } }

/-- The states that keep the groups they complete. -/
def AudioState.keeps : AudioState → Bool
  | .filling => true
  | .flowing => true
  | _ => false

/-- The first falling edge of AU_WS in WAITING_EDGE opens the first period (R146). -/
def beginCapture (s : State) : State :=
  if s.ain.audio = .off ∨ s.ain.capturing then s
  else countEdge { s with ain := { s.ain with capturing := true } }

/-- A falling edge of AU_WS in CAPTURING completes a group, which HALTED discards (R146, R149, R154). -/
def groupComplete (halves : List (List Bool)) (s : State) : State :=
  match s.ain.format with
  | none => s
  | some f =>
    if s.ain.capturing ∧ s.ain.audio ≠ .off then
      let s1 := countEdge s
      if s.ain.audio.keeps then joinFifo f (groupOf f halves) s1 else s1
    else s

/-! ### SET-AUDIO (R147, R148) -/

def audioRates : List Nat := [32000, 44100, 48000, 88200, 96000, 176400, 192000]

/-- The format that SET-AUDIO's parameters declare: none if they fail the checks, some none for off (R147). -/
def audioFormatOf (channels wordLength : Byte) (rate : Word) : Option (Option AudioFormat) :=
  if channels = 0 then some none
  else if (channels = 2 ∨ channels = 4 ∨ channels = 6 ∨ channels = 8) ∧ rate.toNat ∈ audioRates
      ∧ (wordLength = 16 ∨ wordLength = 20 ∨ wordLength = 24) then
    some (some ⟨channels.toNat, rate.toNat, wordLength.toNat⟩)
  else none

/-- A new pending audio record supersedes the one before (R147). -/
def setPendingAudio (p : PendingAudio) (s : State) : State :=
  let s1 := match s.ain.pending with
    | some q => complete .ain q.handle .superseded 0 0 s
    | none => s
  { s1 with ain := { s1.ain with pending := some p } }

/-- The second word of a SET-AUDIO completion; its rate and word length are 0 for the format off (R148; log entry 41). -/
def audioWord (a : Ain) : Word :=
  match a.format with
  | none => word (2 ^ 4 * a.audio.code)
  | some f => word (f.channels + 2 ^ 4 * a.audio.code + 2 ^ 6 * f.wordLength + 2 ^ 12 * f.rate)

/-- A format comes into force: the FIFO empty, capture and window anew (R148). -/
def formatInForce (f : Option AudioFormat) (s : State) : State :=
  { s with ain :=
    { format := f
      pending := none
      audio := if f.isSome then .filling else .off
      fifo := []
      armed := true
      capturing := false
      window := if f.isSome then some ⟨s.now, 0⟩ else none } }

/-- The pending audio record takes effect at a frame start, and its SET-AUDIO completes. With the FIFO empty the
rest of the frame start leaves the audio state as it then is (R148, R151, R152). -/
def applyAudio (s : State) : State :=
  match s.ain.pending with
  | some p =>
    let s1 := formatInForce p.format s
    complete .ain p.handle .ok s1.fmon.fsn (audioWord s1.ain) s1
  | none => s

/-! ### Frame starts (R151, R152) -/

/-- Outside CARRYING the FIFO is emptied and FLOWING becomes FILLING (R151). -/
def audioSession (s : State) : State :=
  match s.ses.session with
  | .carrying => s
  | _ =>
    let s1 := emptyFifo s
    match s1.ain.audio with
    | .flowing => { s1 with ain := { s1.ain with audio := .filling } }
    | _ => s1

/-- FILLING becomes FLOWING with 32 groups present (R152). -/
def audioFill (s : State) : State :=
  match s.ain.audio with
  | .filling =>
    if 32 ≤ s.ain.fifo.length then { s with ain := { s.ain with audio := .flowing } } else s
  | _ => s

/-- The packets offered to the plan (R152). -/
def audioOffer (a : Ain) : Nat :=
  match a.audio, a.format with
  | .flowing, some f => a.fifo.length / groupsPerPacket f.channels
  | _, _ => 0

/-- The hand-over of n packets' groups (R150, R152). -/
def handOverGroups (n : Nat) (s : State) : State :=
  let gpp := groupsPerPacket ((s.ain.format.map (·.channels)).getD 0)
  let rest := s.ain.fifo.drop (n * gpp)
  { s with ain := { s.ain with fifo := rest, armed := s.ain.armed || decide (rest.length < 4096) } }

/-- The bytes of the audio packets of n packets' groups, from the head of the FIFO (R152, section 12.8). -/
def audioPackets (f : AudioFormat) (fsn : Fsn) : Nat → List (List (BitVec 24)) → List (List Byte)
  | 0, _ => []
  | n + 1, gs =>
    let gpp := groupsPerPacket f.channels
    packetBytes .audio fsn (BitVec.ofNat 8 gpp) (BitVec.ofNat 8 f.channels) (BitVec.ofNat 8 f.wordLength)
        ((gs.take gpp).flatten.flatMap (fun x => beBytes 3 x.toNat))
      :: audioPackets f fsn n (gs.drop gpp)

/-! ### The rate check (R153, R154) -/

/-- A measured rate matches a declared one. -/
def rateMatches (declared measured : Nat) : Bool :=
  decide ((declared - measured + (measured - declared)) * 50 ≤ declared)

/-- A window with this many edges is judged. -/
def judgeWindow (f : AudioFormat) (edges : Nat) (s : State) : State :=
  let m := edges * 100
  if s.ain.audio.keeps then
    if rateMatches f.rate m then s
    else post .ain (.audioRateMismatch s.ain.audio f.rate m)
      (emptyFifo { s with ain := { s.ain with audio := .halted } })
  else if s.ain.audio = .halted ∧ rateMatches f.rate m then
    post .ain (.audioRateRestored f.rate m)
      { s with ain := { s.ain with audio := .filling, capturing := false } }
  else s

/-- A rate-check window ends, and the next one starts (R153). -/
def windowEnd (s : State) : State :=
  match s.ain.window, s.ain.format with
  | some w, some f =>
    let t := w.start + windowTicks
    let s1 := advanceTo t s
    judgeWindow f w.edges { s1 with ain := { s1.ain with window := some ⟨t, 0⟩ } }
  | _, _ => s

end Sys2Proof.Machine
end

