-- ==== Sys2Proof/Machine/Pixels.lean ====
section
/-!
DEFINITION. The pixel path: active runs, timing codes, pending records and the frame source (R157 to R167).
-/

namespace Sys2Proof.Machine

/-! ### Active runs (R159) -/

/-- The pixels of a run as the link shows them in a line of the current geometry. -/
def shownRun (s : State) (ws : List Sample) : List Pixel :=
  ((runPixels s.pxp.mode s.pxp.method ws).take s.fmon.geometry.ha).map
    (transformPixel s.pxp.transform s.pxp.range)

/-- The end of an active run, in the embedded-code modes at its end-of-active code: its line joins the picture where the
frame shows the input, and the line count increases (R159). -/
def endRun (ws : List Sample) (s : State) : State :=
  { s with pxp := { s.pxp with
    picture := if decide (s.pxp.source = .input) && decide (s.pxp.lineCount < s.fmon.geometry.va)
      then s.pxp.picture ++ [shownRun s ws] else s.pxp.picture
    lineCount := min 4095 (s.pxp.lineCount + 1)
    pixelCount := 0
    run := [] } }

/-- How many of a row's words were captured before a SET-PIXEL-INPUT, which are discarded (R158). -/
def oldWords (w : PixelWords) (s : State) : Nat := if s.pxp.cut then w.old else 0

/-- How many of a row's words are no pixels of the frame in progress: captured in the old mode, or before its frame start
(R158, R159). -/
def earlyWords (w : PixelWords) (s : State) : Nat := max (oldWords w s) (if s.pxp.newFrame then w.early else 0)

/-- The words of a row have been dealt with. -/
def cutsSeen (s : State) : State := { s with pxp := { s.pxp with cut := false, newFrame := false } }

/-- A line starts for PXP in the separate-sync modes. -/
def pxpNewLine (s : State) : State := { s with pxp := { s.pxp with run := [], pixelCount := 0, lineOpen := false } }

/-- The pixel periods of PX_DE that a row carries join the run of the line in progress (R159). The chroma words of a run that a
SET-PIXEL-INPUT or a frame start fell in pair up from its first word after that (log entry 43). -/
def takeRun (w : PixelWords) (s : State) : State :=
  let run := s.pxp.run ++ w.words.drop (earlyWords w s)
  cutsSeen { s with pxp := { s.pxp with run := run, pixelCount := min 8191 run.length } }

/-- PX_DE is negated, or a line starts while it is asserted: the line of the run joins the picture and the line count
increases, once for each line (R159). A further assertion in the same line leaves the line the whole run to show. -/
def closeRun (s : State) : State :=
  if s.pxp.lineOpen then
    { s with pxp := { s.pxp with
      picture := if decide (s.pxp.source = .input) && decide (s.pxp.picture.length = s.pxp.lineCount)
        then s.pxp.picture.dropLast ++ [shownRun s s.pxp.run] else s.pxp.picture
      pixelCount := 0 } }
  else
    let s1 := endRun s.pxp.run s
    { s1 with pxp := { s1.pxp with run := s.pxp.run, lineOpen := true } }

/-- The pixels of link line m that the frame in progress has taken from the input: a line whose run has ended,
or the run in progress. -/
def inputLine (s : State) (m : Nat) : List Pixel :=
  match s.pxp.source with
  | .fill => []
  | .input =>
    if 0 < s.pxp.pixelCount ∧ m + bitAt 0 s.pxp.lineOpen = s.pxp.lineCount then shownRun s s.pxp.run
    else s.pxp.picture.getD m []

/-- What the link shows at pixel position n of line m of the frame in progress: the input pixel that reached
it, or the fill colour (R159, R166). -/
def linkPixel (s : State) (m n : Nat) : Pixel :=
  (inputLine s m).getD n (clampFill s.pxp.range s.pxp.fill)

/-! ### Timing codes (R160, R161) -/

/-- The words before a code: pixels in the ACTIVE phase of a line that carries picture. They go on with the run that is
open, also where its end-of-active code was lost (log entry 43). -/
def takeWords (ws : List Sample) (s : State) : State :=
  if s.pxp.active && s.pxp.pictureMark then
    { s with pxp := { s.pxp with
      run := s.pxp.run ++ ws, pixelCount := min 8191 (s.pxp.pixelCount + ws.length) } }
  else s

/-- n pixel periods pass for FMON's counts. -/
def passPeriods (n : Nat) (s : State) : State :=
  { s with fmon := { s.fmon with
    sinceLine := s.fmon.sinceLine.map (· + n), sinceSav := s.fmon.sinceSav.map (· + n) } }

/-- The count of uncorrectable codes at 4 makes the open measurement invalid, once for each input frame
(R161). -/
def codeErrorReport (s : State) : State :=
  if decide (4 ≤ s.pxp.codeErrors) && !s.pxp.errorReported then
    markInvalid { s with pxp := { s.pxp with errorReported := true } }
  else s

/-- An uncorrectable code counts while a measurement is open (R161). -/
def codeError (s : State) : State :=
  if s.fmon.measuring.isSome then
    codeErrorReport { s with pxp := { s.pxp with codeErrors := min 255 (s.pxp.codeErrors + 1) } }
  else s

/-- FMON's part of a start-of-active code: an active line where V is clear (R30). -/
def fmonStartCode (c : CodeFlags) (s : State) : State :=
  if c.v then { s with fmon := { s.fmon with sinceSav := none } }
  else countActive { s with fmon := { s.fmon with sinceSav := some 0 } }

/-- FMON's part of an end-of-active code: a line start, and the pixel periods from the end of the start-of-active code
to it, which are the active pixels of the line (R30, R160). -/
def fmonEndCode (s : State) : State :=
  let s1 := measureLine s.fmon.sinceLine s
  let s2 := match s.fmon.sinceSav with
    | some n => measureActive n s1
    | none => s1
  { s2 with fmon := { s2.fmon with sinceLine := some 0, sinceSav := none } }

/-- PXP's part of a start-of-active code (R160). A run that is still open goes on (log entry 43). -/
def pxpStartCode (c : CodeFlags) (s : State) : State :=
  { s with pxp := { s.pxp with active := true, pictureMark := !c.v } }

/-- PXP's part of an end-of-active code (R160). With the mark clear a run left open stays so (log entry 43). -/
def pxpEndCode (s : State) : State :=
  let s1 := if s.pxp.pictureMark then endRun s.pxp.run s else s
  { s1 with pxp := { s1.pxp with active := false, pictureMark := false } }

/-- FMON sees the vertical-blank flag: set after a code with it clear, it makes an input boundary, which row
INPUT_BOUNDARY acts on next (R23). -/
def seeVertical (c : CodeFlags) (s : State) : State :=
  { s with fmon := { s.fmon with
    codeV := some c.v
    boundaryDue := if decide (s.fmon.codeV = some false) && c.v then some c.f else s.fmon.boundaryDue } }

/-- A code that decodes to the flags c. The code itself is four pixel periods long: they belong to the line that an
end-of-active code begins, and no active line has those of its start-of-active code. -/
def goodCode (c : CodeFlags) (s : State) : State :=
  seeVertical c (if c.h then passPeriods 4 (pxpEndCode (fmonEndCode s))
    else pxpStartCode c (fmonStartCode c (passPeriods 4 s)))

/-- What PXP does with a flag word, which is not all ones (R160, R161). -/
def flagWord (flag : BitVec 10) (s : State) : State :=
  match decodeFlags (flagByte s.pxp.mode flag) with
  | some c => goodCode c s
  | none => passPeriods 4 (codeError s)

/-- The words of pixel periods in order: those before a timing code are content, and its own four are not (R160). A flag
word of all ones is no pattern's, and it may be the first word of another code: held tells that the head of the words is
such a flag word, the last of the code before. The first skip words are no pixels. n bounds the codes. -/
def scanCodes : Nat → Bool → Nat → List Sample → State → State
  | 0, _, _, _, s => s
  | n + 1, held, skip, words, s =>
    let r := firstCode s.pxp.mode words
    let k := r.1.length
    let s1 := passPeriods k (takeWords (r.1.drop (max skip (bitAt 0 held))) s)
    match r.2 with
    | some flag =>
      if flag.toNat = lumaOnes s.pxp.mode then
        scanCodes n true (skip - (k + 3)) (words.drop (k + 3)) (passPeriods 3 (codeError s1))
      else scanCodes n false (skip - (k + 4)) (words.drop (k + 4)) (flagWord flag s1)
    | none =>
      if held && decide (k = 1) then { s with pxp := { s.pxp with lastFlag := words.head? } } else s1

/-- The words that a row TIMING_CODE carries, behind a flag word of all ones that was the last word before. Those captured
in an old mode are discarded (R158). -/
def timingCode (w : PixelWords) (last : Sample) (s : State) : State :=
  let gone := oldWords w s
  let held := s.pxp.lastFlag.toList
  let words := held ++ (w.words ++ [last]).drop gone
  let s1 := cutsSeen s
  scanCodes words.length s.pxp.lastFlag.isSome (earlyWords w s - gone + held.length) words
    { s1 with pxp := { s1.pxp with lastFlag := none } }

/-! ### Frame starts (R159, R166) -/

/-- PXP's counts at a frame start (R159). -/
def pxpNewFrame (s : State) : State :=
  { s with pxp := { s.pxp with
    lineCount := 0, pixelCount := 0, run := [], picture := [], lineOpen := false, newFrame := true } }

/-- The pending transform takes effect (R164). -/
def applyTransform (s : State) : State :=
  match s.pxp.pendingTransform with
  | some p => complete .pxp p.handle .ok s.fmon.fsn (word p.range.code)
      { s with pxp := { s.pxp with transform := p.transform, range := p.range, pendingTransform := none } }
  | none => s

/-- A fill colour as a result word (section 12.5). -/
def fillWord (p : Pixel) : Word := word (p.c0 + 2 ^ 10 * p.c1 + 2 ^ 20 * p.c2)

/-- The pending fill colour takes effect (R165). -/
def applyFill (s : State) : State :=
  match s.pxp.pendingFill with
  | some p => complete .pxp p.handle .ok s.fmon.fsn (fillWord p.fill)
      { s with pxp := { s.pxp with fill := p.fill, pendingFill := none } }
  | none => s

/-- The frame source for a session and a monitor state (R166). -/
def sourceFor (session : SessionState) (monitor : MonitorState) : FrameSource :=
  match session, monitor with
  | .carrying, .acquiring => .input
  | .carrying, .locked => .input
  | _, _ => .fill

/-- PXP at a frame start: the pending records, then the frame source (R166). -/
def pxpFrameStart (s : State) : State :=
  let s1 := applyFill (applyTransform s)
  { s1 with pxp := { s1.pxp with source := sourceFor s1.ses.session s1.fmon.monitor } }

/-! ### Commands (R158, R164, R165) -/

/-- The mode and method codes of section 12.4. -/
def modeOf (b : Byte) : Option InputMode :=
  match b.toNat with
  | 0 => some .p24s
  | 1 => some .p30s
  | 2 => some .c16s
  | 3 => some .c16e
  | 4 => some .c20e
  | 5 => some .d12s
  | _ => none

def methodOf (b : Byte) : Option ChromaMethod :=
  match b.toNat with
  | 0 => some .repeated
  | 1 => some .average
  | _ => none

def rangeOf (b : Byte) : Option OutputRange :=
  match b.toNat with
  | 0 => some .full
  | 1 => some .narrow
  | _ => none

/-- SET-PIXEL-INPUT with a good mode and method (R158). Between separate-sync modes the line in progress stays the one that
it is, and the code error count stays as it is in every mode (log entry 43). -/
def setPixelInput (h : Handle) (m : InputMode) (c : ChromaMethod) (s : State) : State :=
  complete .pxp h .ok s.fmon.fsn (word (m.code + 2 ^ 8 * c.code))
    (fmonModeChange { s with pxp := { s.pxp with
      mode := m, method := c, active := false, pictureMark := false, pixelCount := 0, run := []
      lineOpen := s.pxp.lineOpen && !m.embedded, lastFlag := none, cut := true } })

/-- LOAD-TRANSFORM at its take, the fields checked (R164). -/
def loadTransform (h : Handle) (t : Transform) (r : OutputRange) (s : State) : State :=
  let s1 := match s.pxp.pendingTransform with
    | some p => complete .pxp p.handle .superseded 0 0 s
    | none => s
  { s1 with pxp := { s1.pxp with pendingTransform := some ⟨t, r, h⟩ } }

/-- SET-FILL at its take, the values checked (R165). -/
def setFillTo (h : Handle) (p : Pixel) (s : State) : State :=
  let s1 := match s.pxp.pendingFill with
    | some q => complete .pxp q.handle .superseded 0 0 s
    | none => s
  { s1 with pxp := { s1.pxp with pendingFill := some ⟨p, h⟩ } }

end Sys2Proof.Machine
end

