-- ==== Sys2Proof/Machine/Frame.lean ====
section
/-!
DEFINITION. The frame start: what every block does at it, in the order of its own rules and of the rules that say
what each reads from the others, and the frame plan (R2, R9, R10, R12, R15 to R18, R26 to R28, R110 to R113, R156,
R166). Log entry 13 gives the order.
-/

namespace Sys2Proof.Machine

/-! ### SES at a frame start -/

/-- FORMAT is removed at the frame start after a FORMAT_LOCKED (R17); a FORMAT_LOST of this frame start adds it
again. -/
def dropFormat (s : State) : State :=
  if s.ses.formatDrop then
    let q : QuietSet := { s.ses.quiet with format := false }
    { s with ses := { s.ses with formatDrop := false, quiet := q } }
  else s

/-- The TERM sample of the frame start, and the termination-loss count while the lanes are on (R2). -/
def sampleTerm (term : Bool) (s : State) : State :=
  { s with
    pins := { s.pins with term := term }
    ses := { s.ses with
      lastTerm := term
      termLoss := if s.ses.session.lanesOn then (if term then 0 else min 2 (s.ses.termLoss + 1))
        else s.ses.termLoss } }

/-- The termination loss (R12). -/
def terminationLoss (s : State) : State :=
  match s.ses.session with
  | .training => setSession .ready .termination (endStartLink .noTermination s)
  | .carrying => setSession .faulted .termination s
  | .quiet => setSession .faulted .termination s
  | _ => s

/-- Training has lasted 60 frame starts (R9). -/
def trainingFail (s : State) : State :=
  setSession .ready .trainingTimeout (endStartLink .trainingFailed s)

/-- Training starts again at a new factor (R9). -/
def restartTraining (s : State) : State :=
  { s with ses := { s.ses with
    trainCount := 0, lockSeen := false
    linkCheck := s.ses.linkCheck.map (fun c => { c with stale := true }) } }

/-- A lock takes the session to CARRYING or QUIET (R9). -/
def linkLocked (s : State) : State :=
  let s1 := endStartLink .ok s
  let s2 := if (entryAt s 0).isActive then updEntry 0 (fun e => { e with miss := 0 }) s1 else s1
  setSession (if s.ses.quiet.isEmpty then .carrying else .quiet) .linkLocked
    { s2 with ses := { s2.ses with linkFrames := 0, cursor := 63 } }

/-- One training frame more (R9, steps 3 and 4). -/
def countTraining (s : State) : State :=
  let n := s.ses.trainCount + 1
  let s1 := { s with ses := { s.ses with trainCount := n } }
  if trainingFrames ≤ n then trainingFail s1
  else if n % 4 = 0 ∧ s.ses.linkCheck = none then lcPlace 0 true s1
  else s1

/-- TRAINING at a frame start (R9). -/
def trainingStep (restart : Bool) (s : State) : State :=
  if 2 ≤ s.ses.termLoss then terminationLoss s
  else if restart then restartTraining s
  else if s.ses.lockSeen then linkLocked s
  else countTraining s

/-- The session follows the quiet reason set (R15). -/
def judgeQuiet (s : State) : State :=
  match s.ses.session, s.ses.quiet.isEmpty with
  | .carrying, false => setSession .quiet .quietEnter s
  | .quiet, true => setSession .carrying .quietLeave s
  | _, _ => s

/-- CARRYING or QUIET at a frame start (R10, R12, R15). -/
def carryingStep (s : State) : State :=
  if 2 ≤ s.ses.termLoss then terminationLoss s
  else judgeQuiet { s with ses := { s.ses with linkFrames := s.ses.linkFrames + 1 } }

/-- The pending QUIET and RESUME commands complete, in the order taken (R16). -/
def completeQuiets (s : State) : State :=
  s.ses.pendingQuiet.foldl (fun s p => complete .ses p.handle .ok s.fmon.fsn (word s.ses.quiet.code) s)
    { s with ses := { s.ses with pendingQuiet := [] } }

/-- SES's changes of the session at a frame start; restart is BSS's request (R9). -/
def sesFrameStart (restart : Bool) (s : State) : State :=
  completeQuiets (match s.ses.session with
    | .training => trainingStep restart s
    | .carrying => carryingStep s
    | .quiet => carryingStep s
    | _ => s)

/-! ### The frame plan (R110 to R113) -/

/-- The standing stage in the making. -/
structure StandingStage where
  cursor : Nat
  placed : List (Nat × Nat)
  skipped : List Nat
  sent : List (List Byte)
  deriving DecidableEq, Repr

/-- One due entry is placed or skipped (R110). -/
def placeStanding (s : State) (x : StandingStage) (i : Nat) : StandingStage :=
  let e := s.stt.entries.getD i StandingEntry.empty
  match placeAt s.fmon.geometry s.bss.factor x.cursor e.slots with
  | some p => ⟨p + e.slots, x.placed ++ [(i, e.slots)], x.skipped, x.sent ++ [standingBytes i e s.fmon.fsn]⟩
  | none => { x with skipped := x.skipped ++ [i] }

/-- The first stage of the plan. -/
def standingStage (s : State) : StandingStage :=
  (dueEntries s.fmon.fsn s.stt).foldl (placeStanding s) ⟨0, [], [], []⟩

/-- The audio allowance (R111). -/
def audioAllowance (s : State) (cursor : Nat) : Nat :=
  match s.ses.session, s.ain.format with
  | .carrying, some _ =>
    min (audioOffer s.ain) (min (audioPart s.ain.format s.fmon.geometry.rate)
      (capacity s.fmon.geometry s.bss.factor - cursor))
  | _, _ => 0

/-- The second stage: n audio packets, one slot each (R111, R152). -/
def audioStage (n : Nat) (x : Selection) : Selection :=
  let sent := match x.state.ain.format with
    | some f => audioPackets f x.state.fmon.fsn n x.state.ain.fifo
    | none => []
  { x with state := handOverGroups n x.state, cursor := x.cursor + n, sent := x.sent ++ sent }

/-- The third stage (R112). -/
def addressedStage (x : Selection) : Selection :=
  if x.state.ses.session.carries && !x.state.rwk.walking && decide (0 < x.free) then selectPackets x else x

/-- What the link carries in the frame that begins (R7). -/
def linkContent (s : State) : LinkContent :=
  match s.ses.session, s.pxp.source with
  | .training, _ => .training
  | _, .input => .input
  | _, .fill => .fill

/-- The link encoder opens the frame while the lanes are on; in TRAINING it sends no packets (R7). -/
def sendFrame (packets : List (List Byte)) (s : State) : State :=
  if s.ses.lanes then
    emit (.linkFrame s.fmon.fsn (linkContent s) s.bss.factor s.fmon.geometry
      (if s.ses.session.carries then packets else [])) s
  else s

/-- BSS builds the plan of the frame that begins and the encoder opens the frame (R110 to R113). -/
def buildPlan (w : CadenceWork) (s : State) : State :=
  let s1 := buildFixed s
  let st := standingStage s1
  let n := audioAllowance s1 st.cursor
  let x1 := audioStage n ⟨s1, st.cursor, [], st.sent⟩
  let x2 := addressedStage x1
  let plan : Plan :=
    { fsn := s1.fmon.fsn
      factor := s1.bss.factor
      slots := capacity s1.fmon.geometry s1.bss.factor
      standing := st.placed
      skipped := st.skipped
      audioPackets := n
      audioGroups := n * groupsPerPacket ((s1.ain.format.map (·.channels)).getD 0)
      addressed := x2.placed
      quiet := decide (s1.ses.session = .quiet) }
  sendFrame x2.sent
    (judgeSkips w (!st.skipped.isEmpty) { x2.state with bss := { x2.state.bss with plan := some plan } })

/-! ### The whole frame start -/

/-- The frame's cadence work and SES's changes (R107). The link check of R18 needs a session that carried before
and carries after. -/
def sessionPart (s : State) : State × CadenceWork :=
  let r := bssFrameStart s
  let s1 := sesFrameStart r.2.restart r.1
  (if s.ses.session.carries && s1.ses.session.carries then issueLinkCheck s1 else s1, r.2)

/-- APQ's deadlines and due marks (R130, R135). -/
def apqFrameStart (s : State) : State := nextReceipt (markDue (expirePackets s))

/-- A frame start, FMON's part of it given. -/
def frameStart (fmonPart : State → State) (term : Bool) (s : State) : State :=
  let s1 := sampleTerm term (pxpNewFrame (fmonPart (dropFormat s)))
  let r := sessionPart (applyAudio (replaceEntries s1))
  buildPlan r.2 (pxpFrameStart (apqFrameStart (audioFill (audioSession r.1))))

/-! ### What issues frame starts -/

/-- A boundary with an alignment, after FMON has seen it (R24, R26, R28). -/
def takeBoundary (a : Alignment) (term : Bool) (s : State) : State :=
  match s.fmon.monitor with
  | .noSignal =>
    if quarterPassed s then frameStart (fun s => countFrame (leaveNoSignal (noteBoundary a s))) term s
    else leaveNoSignal (noteBoundary a s)
  | _ =>
    if isSecondField s.fmon.prevAlign a then noteSecondField (noteBoundary a s)
    else frameStart (fun s => fmonBoundary (noteBoundary a s)) term s

/-- An edge or code that may be an input boundary (R23). -/
def seeBoundary (i : BoundaryInput) (term : Bool) (s : State) : State :=
  match boundaryOf i s with
  | (some a, s1) => takeBoundary a term s1
  | (none, s1) => s1

/-- The flywheel period has elapsed in NO_SIGNAL (R27). -/
def flywheelElapsed (term : Bool) (s : State) : State :=
  match s.fmon.monitor with
  | .noSignal => frameStart fmonFlywheel term (advanceTo (s.fmon.lastFly + s.fmon.flyPeriod) s)
  | _ => s

/-- The activity timer reaches 100 ms (R25). -/
def activityElapsed (term : Bool) (s : State) : State :=
  match s.fmon.monitor, s.fmon.activity with
  | .noSignal, _ => s
  | _, some t => frameStart fmonNoSignal term (advanceTo (t + activityTicks) s)
  | _, none => s

/-- The frame start that the monitor state lets come next (section 2.2): in NO_SIGNAL the flywheel's, else that of a
first-field boundary, the one that a code has made or one that falls on a line start now. TL_TERM is sampled at its last
level (log entry 5). -/
def frameNow (s : State) : State :=
  match s.fmon.monitor, s.fmon.boundaryDue with
  | .noSignal, _ => flywheelElapsed s.pins.term s
  | _, some f => seeBoundary (.code 0 f) s.pins.term s
  | _, none => takeBoundary .line s.pins.term s

/-! ### Limits that a frame start or a code reaches, as rows of their own (log entry 5) -/

/-- The whole frame start that comes next, where it is one at which a limit is reached; else nothing. reaches judges the
states before and after it. -/
def limitFrame (reaches : State → State → Bool) (s : State) : State :=
  let t := frameNow s
  if reaches s t then t else s

/-- Whether the frame start that takes s to t is one at which the third equal measurement locks the monitor (R32, R33). -/
def lockTaken (s t : State) : Bool := decide (s.fmon.monitor = .acquiring) && decide (t.fmon.monitor = .locked)

/-- The consecutive-equal count reaches 3: the whole frame start of the lock (R33; log entry 5). -/
def equalLimit (s : State) : State := limitFrame lockTaken s

/-- The termination-loss count reaches 2 (R12). -/
def terminationLimit (s : State) : State :=
  if s.ses.session.lanesOn && decide (1 ≤ s.ses.termLoss) then
    terminationLoss { s with ses := { s.ses with termLoss := 2 } }
  else s

/-- The training frame count reaches 60, unless a lock has been seen, which R9 has come before (log entry 5). -/
def trainingLimit (s : State) : State :=
  match s.ses.session with
  | .training =>
    if trainingFrames ≤ s.ses.trainCount + 1 then
      if s.ses.lockSeen then linkLocked s
      else trainingFail { s with ses := { s.ses with trainCount := trainingFrames } }
    else s
  | _ => s

/-- Whether the frame start that takes s to t is one at which the lower-fits count reaches 16 and decides a fall: it
makes a decision by the mode AUTO or FLOOR with the count at 15 before it, and announces a smaller factor or moves to it
(R105, R107, R108). -/
def fallDecided (s t : State) : Bool :=
  decide (t.fmon.fsn ≠ s.fmon.fsn) && decide (s.bss.mode ≠ .fixed) && s.bss.pending.isNone && s.bss.announced.isNone
    && decide (15 ≤ s.bss.lowerFits) && isCandidate t.fmon.geometry s.bss.factor
    && decide (t.bss.announced.getD t.bss.factor < s.bss.factor)

/-- The lower-fits count reaches 16: the whole frame start at which it does (R105; log entry 5). -/
def lowerFitsFrame (s : State) : State := limitFrame fallDecided s

/-- The code error count reaches 4 (R161). -/
def codeErrorLimit (s : State) : State :=
  if s.fmon.measuring.isSome && decide (3 ≤ s.pxp.codeErrors) then
    codeErrorReport { s with pxp := { s.pxp with codeErrors := max 4 s.pxp.codeErrors } }
  else s

end Sys2Proof.Machine
end

