-- ==== Sys2Proof/Machine/FrameRows.lean ====
section
/-!
DEFINITION. The meanings of the rows of the video input, of the frame starts, and of the limits that frame starts
reach (sections 2 and 10).
-/

namespace Sys2Proof.Machine

/-- LOAD_FORMAT_ENTRY (R38). -/
def execLoadFormatEntry (tag : HostTag) (code : Byte) (clear interlaced : Bool) (ht ha vt va : Half) (rate : Word)
    (s : State) : Result :=
  done (takeFrom controlRing tag (fun h => loadFormat h code.toNat clear
    ⟨ht.toNat, ha.toNat, vt.toNat, va.toNat, interlaced, rate.toNat⟩) s)

/-- INPUT_BOUNDARY (R23, R24, R26, R28). -/
def execInputBoundary (input : BoundaryInput) (term : Bool) (s : State) : Result :=
  doneAny (seeBoundary input term s)

/-- FLYWHEEL_START (R27). -/
def execFlywheelStart (term : Bool) (s : State) : Result := doneAny (flywheelElapsed term s)

/-- ACTIVITY_TIMEOUT (R25). -/
def execActivityTimeout (term : Bool) (s : State) : Result := doneAny (activityElapsed term s)

/-- FORMAT_LOCKED (R33; log entry 5). -/
def execFormatLocked (s : State) : Result := doneAny (equalLimit s)

/-- TERMINATION (R12). -/
def execTermination (s : State) : Result := done (terminationLimit s)

/-- TRAINING_TIMEOUT (R9). -/
def execTrainingTimeout (s : State) : Result := done (trainingLimit s)

/-- LOWER_FITS_EXPIRY (R105, log entry 5). -/
def execLowerFitsExpiry (s : State) : Result := doneAny (lowerFitsFrame s)

/-- PACKET_EXPIRY (R130). -/
def execPacketExpiry (s : State) : Result := done (expirePackets s)

/-- ACK_DUE (R135). -/
def execAckDue (s : State) : Result := done (nextReceipt (markDue s))

/-- TIMING_CODE (R160, R161): in the embedded-code modes. -/
def execTimingCode (words : PixelWords) (last : Sample) (s : State) : Result :=
  done (if s.pxp.mode.embedded then timingCode words last s else s)

/-- CODE_ERROR_LIMIT (R161). -/
def execCodeErrorLimit (s : State) : Result := done (codeErrorLimit s)

/-- Pixel periods of PX_DE in one line, if there are any (R30, R159). -/
def seeRun (w : PixelWords) (s : State) : State :=
  if w.words.isEmpty then cutsSeen s else takeRun w (measureRun (w.words.length - oldWords w s) s)

/-- A line starts; the line before it is the pixel periods since the line start before, if there was one. asserted tells
that PX_DE is asserted across it, so that the run of the line before ends here (R30, R159). -/
def startLine (asserted : Bool) (s : State) : State :=
  let s1 := measureLine s.fmon.sinceLine (pxpNewLine (if asserted then closeRun s else s))
  { s1 with fmon := { s1.fmon with sinceLine := some 0 } }

/-- An edge of PX_HS whose active level is not known may start a line: it is taken to, if PX_DE is not asserted across it,
so that two assertions with an edge between them are of two lines (log entry 11). -/
def mayStartLine (asserted : Bool) (s : State) : State :=
  if asserted || s.fmon.hLevel.isSome then s else pxpNewLine (endMeasuredLine s)

/-- The pixel periods of the level that an edge of PX_HS ends, which have passed since the edge before. -/
def sinceEdge (edge : Level) (high low : Nat) : Nat :=
  match edge with
  | .high => low
  | .low => high

/-- An edge of PX_HS: a line start where it leads, once a complete cycle has taught the active level (R23, R30). The
first two edges complete no cycle (log entry 21). Where the active level changes, the next line start comes another time than one
cycle after the last, so the periods since that one are counted from edge to edge. -/
def seeLine (edge : LineEdge) (high low : Nat) (s : State) : State :=
  let asserted := !edge.run.words.isEmpty
  let s1 := mayStartLine asserted (seeRun edge.run s)
  if s1.fmon.hEdges < 2 then { s1 with fmon := { s1.fmon with hEdges := s1.fmon.hEdges + 1 } }
  else
    let l := activeLevel high low
    let s2 := { s1 with fmon := { s1.fmon with
      hLevel := some l, sinceLine := s1.fmon.sinceLine.map (· + sinceEdge edge.level high low) } }
    if s1.fmon.hLevel.isSome && decide (edge.level = l) then startLine asserted s2 else s2

/-- LINE_START (R30): in the separate-sync modes. -/
def execLineStart (edge : LineEdge) (high low : Nat) (s : State) : Result :=
  done (if s.pxp.mode.embedded then s else seeLine edge high low s)

/-- ACTIVE_RUN_END (R30, R159): in the separate-sync modes (log entry 11). -/
def execActiveRunEnd (run : PixelWords) (s : State) : Result :=
  done (if s.pxp.mode.embedded then s else closeRun (seeRun run s))

end Sys2Proof.Machine
end

