-- ==== Sys2Proof/Machine/HostRows.lean ====
section
/-!
DEFINITION. The meanings of the rows of the register window and the host interface's own traffic (sections 11.1 to
11.4, 11.7, 11.8, 11.10).
-/

namespace Sys2Proof.Machine

/-- POWER_ON_RESET (R185): RESET# puts every block to its reset values and resets the PCIe configuration space. -/
def execPowerOnReset (s : State) : Result := done (resetMsi (resetBlocks s))

/-- PE_RST (R184): an interface reset that also resets the PCIe configuration space. -/
def execPeRst (s : State) : Result := done (resetMsi (interfaceReset s))

/-- FUNCTION_RESET (R171, R185). -/
def execFunctionReset (s : State) : Result := done (resetBlocks s)

/-- IF_RESET (R171, R184). -/
def execIfReset (s : State) : Result := done (interfaceReset s)

/-- ENABLE_SET (R168). -/
def execEnableSet (s : State) : Result := done (setEnable s)

/-- ENABLE_CLEAR (R168, R170). -/
def execEnableClear (s : State) : Result := done (clearEnable s)

/-- IRQ_EN (R181). -/
def execIrqEn (value : Bool) (s : State) : Result := done (writeIrqEn value s)

/-- REGISTER_WRITE (section 11.2). -/
def execRegisterWrite (reg : PlainReg) (value : Word) (s : State) : Result := done (writePlain reg value s)

/-- PRODUCER (R172). -/
def execProducer (ring : BitVec 2) (index : BitVec 10) (s : State) : Result := done (writeProducer ring index s)

/-- COMPLETION_RELEASE (R178). -/
def execCompletionRelease (index : BitVec 10) (s : State) : Result := done (releaseCompletions index s)

/-- EVENT_RELEASE (R180). -/
def execEventRelease (index : BitVec 10) (s : State) : Result := done (releaseEvents index s)

/-- CAUSE (R181). -/
def execCause (value : Word) (s : State) : Result := done (writeCause value s)

/-- BOOTSTRAP_READ_END (R168, R169). -/
def execBootstrapReadEnd (record : Option BootRecord) (s : State) : Result := done (endBootstrap record s)

/-- FETCH_BEGIN (R175). -/
def execFetchBegin (s : State) : Result := done (beginFetch s)

/-- RECORD_WRITE_FAILURE (R182). -/
def execRecordWriteFailure (kind : RecordKind) (s : State) : Result := done (failRecordWrite kind s)

/-- DRAIN_COMPLETE (R170). -/
def execDrainComplete (s : State) : Result := done (endDraining s)

/-- CREATE_RING (R173). -/
def execCreateRing (tag : HostTag) (ringId : Byte) (base : Addr) (size : Half) (s : State) : Result :=
  done (takeFrom controlRing tag (fun h => takeCreateRing h ringId base size) s)

/-- DESTROY_RING (R174). -/
def execDestroyRing (tag : HostTag) (ringId : Byte) (s : State) : Result :=
  done (takeFrom controlRing tag (fun h => takeDestroyRing h ringId) s)

/-- CONFIGURE_EVENTS (R179). -/
def execConfigureEvents (tag : HostTag) (base : Addr) (size : Half) (keepRing : Bool) (mask : Word) (s : State) :
    Result :=
  done (takeFrom controlRing tag (fun h => takeConfigureEvents h base size keepRing mask) s)

/-- READ_STATUS (R183). -/
def execReadStatus (tag : HostTag) (addr : Addr) (len : Word) (s : State) : Result :=
  done (takeFrom controlRing tag (fun h => takeReadStatus h addr len) s)

/-- STATUS_COPY_END (R183). -/
def execStatusCopyEnd (n : Nat) (ok : Bool) (s : State) : Result := done (endStatusCopy n ok s)

end Sys2Proof.Machine
end

