-- ==== Sys2Proof/Machine/Link.lean ====
section
/-!
DEFINITION. Presence, and the commands of the link session: START-LINK, STOP-LINK, QUIET, RESUME, SET-SESSION
(R1, R4, R5, R8, R11, R16, R20, R21).
-/

namespace Sys2Proof.Machine

/-! ### Presence (R1, R4, R5, R21) -/

/-- TL_PRES goes low: the glitch filter times it (R1). -/
def presenceLow (s : State) : State :=
  let s1 := { s with pins := { s.pins with pres := false } }
  if s.ses.presence ∧ s.ses.glitch = none then { s1 with ses := { s1.ses with glitch := some s.now } } else s1

/-- A rise: TL_PRES is high while the filtered presence is negated (R1, R4). -/
def presenceRise (s : State) : State :=
  let s1 := { s with pins := { s.pins with pres := true } }
  if s.ses.presence then s1
  else
    let s2 := { s1 with ses := { s1.ses with presence := true, glitch := none } }
    match s.ses.session with
    | .detached => setSession .settling .presenceDetected { s2 with ses := { s2.ses with settle := some s.now } }
    | _ => s2

/-- TL_PRES comes back high: a low shorter than 2 ms is discarded (R1). -/
def presenceHigh (s : State) : State :=
  if s.ses.presence then
    { s with pins := { s.pins with pres := true }, ses := { s.ses with glitch := none } }
  else presenceRise s

/-- The settling timer reaches 200 ms (R4), and AUTO_ENUM may start a full walk (R5). -/
def settled (s : State) : State :=
  match s.ses.session, s.ses.settle with
  | .settling, some t =>
    let s1 := advanceTo (t + settleTicks) s
    let s2 := setSession .waiting .presenceStable
      (post .ses .presenceUp { s1 with ses := { s1.ses with settle := none } })
    if s.ses.autoEnum then startWalk .full .autoEnum (setSession .walking .walkBegin s2) else s2
  | _, _ => s

/-- SES at a drop (R21). -/
def sessionDrop (s : State) : State :=
  let s1 := endStartLink .linkDown s
  let s2 := match s.ses.session with
    | .settling => s1
    | _ => post .ses .presenceDown s1
  let s3 := setSession .detached .presenceLost s2
  { s3 with ses := { s3.ses with
    linkFrames := 0, trainCount := 0, termLoss := 0, lockSeen := false, cursor := 63
    presence := false, glitch := none, settle := none, linkCheck := none } }

/-- A drop tears down the session, the channel, the roster, the packets and the reads (R21). -/
def presenceDrop (s : State) : State := sessionDrop (dropRequests (packetsDrop (rosterDrop (sideDrop s))))

/-- A low level on TL_PRES has lasted 2 ms (R1). -/
def presenceTimeout (s : State) : State :=
  match s.ses.glitch with
  | some t => if s.ses.presence then presenceDrop (advanceTo (t + dropTicks) s) else s
  | none => s

/-! ### START-LINK and STOP-LINK (R8, R11) -/

/-- The checks of START-LINK in their order; none if every one passes. -/
def startLinkRefusal (s : State) : Option Status :=
  if !(decide (s.ses.session = .ready) || decide (s.ses.session = .faulted)) then some .notReady
  else if s.rwk.walking then some .busy
  else match (entryAt s 0).state with
    | .denied => some .rootDenied
    | .active => if s.ses.lastTerm then none else some .noTermination
    | _ => some .notReady

/-- START-LINK at its take (R8). -/
def takeStartLink (h : Handle) (s : State) : State :=
  match startLinkRefusal s with
  | some st => complete .ses h st s.fmon.fsn 0 s
  | none =>
    setSession .training .hostStart { s with ses := { s.ses with
      startLink := some h, trainCount := 0, termLoss := 0, lockSeen := false } }

/-- STOP-LINK's own status (R11). -/
def stopStatus : SessionState → Status
  | .detached => .notReady
  | .settling => .notReady
  | _ => .ok

/-- STOP-LINK at its take, by the session state (R11). In WALKING its completion takes a free place among what the end of
the walk hands over in R78's order; elsewhere it goes before the event (log entry 10). -/
def takeStopLink (h : Handle) (s : State) : State :=
  let item := HandedItem.completion h (stopStatus s.ses.session) (word s.ses.session.code) 0
  match s.ses.session with
  | .walking => handAnywhere .ses item (abortWalk s)
  | .training => setSession .ready .hostStop (hand .ses item (endStartLink .aborted s))
  | .carrying => setSession .ready .hostStop (hand .ses item s)
  | .quiet => setSession .ready .hostStop (hand .ses item s)
  | .faulted => setSession .ready .hostStop (hand .ses item s)
  | _ => hand .ses item s

/-! ### QUIET, RESUME, SET-SESSION (R16, R20) -/

/-- The quiet reason set as a result word. -/
def quietWord (s : State) : Word := word s.ses.quiet.code

/-- QUIET (on) or RESUME at its take (R16). -/
def takeQuiet (on : Bool) (h : Handle) (s : State) : State :=
  if !s.ses.session.carries then complete .ses h .notReady s.fmon.fsn (quietWord s) s
  else if s.ses.quiet.host = on then complete .ses h .ok s.fmon.fsn (quietWord s) s
  else
    let q : QuietSet := { s.ses.quiet with host := on }
    { s with ses := { s.ses with quiet := q, pendingQuiet := s.ses.pendingQuiet ++ [⟨on, h⟩] } }

/-- The session flags as a result word. -/
def flagsWord (e r q : Bool) : Word := word (bitAt 0 e + bitAt 1 r + bitAt 2 q)

/-- SET-SESSION at its take (R20); clearing AUTO_QUIET removes FORMAT at once (R17). -/
def takeSetSession (h : Handle) (e r q : Bool) (s : State) : State :=
  let set : QuietSet := if s.ses.autoQuiet && !q then { s.ses.quiet with format := false } else s.ses.quiet
  complete .ses h .ok (flagsWord s.ses.autoEnum s.ses.autoRefresh s.ses.autoQuiet) (flagsWord e r q)
    { s with ses := { s.ses with autoEnum := e, autoRefresh := r, autoQuiet := q, quiet := set } }

end Sys2Proof.Machine
end

