-- ==== Sys2Proof/Machine/LinkRows.lean ====
section
/-!
DEFINITION. The meanings of the rows of the link session (section 1).
-/

namespace Sys2Proof.Machine

/-- SET_SESSION (R20). -/
def execSetSession (tag : HostTag) (autoEnum autoRefresh autoQuiet : Bool) (s : State) : Result :=
  done (takeFrom controlRing tag (fun h => takeSetSession h autoEnum autoRefresh autoQuiet) s)

/-- START_LINK (R8). -/
def execStartLink (tag : HostTag) (s : State) : Result := done (takeFrom controlRing tag takeStartLink s)

/-- STOP_LINK (R11). -/
def execStopLink (tag : HostTag) (s : State) : Result := done (takeFrom controlRing tag takeStopLink s)

/-- QUIET (R16). -/
def execQuiet (tag : HostTag) (s : State) : Result := done (takeFrom controlRing tag (takeQuiet true) s)

/-- RESUME (R16). -/
def execResume (tag : HostTag) (s : State) : Result := done (takeFrom controlRing tag (takeQuiet false) s)

/-- TL_PRES_LOW (R1): TL_PRES goes low, or comes back high. -/
def execTlPresLow (returned : Bool) (s : State) : Result :=
  done (if returned then presenceHigh s else presenceLow s)

/-- PRESENCE_DETECTED (R4). -/
def execPresenceDetected (s : State) : Result := done (presenceRise s)

/-- PRESENCE_STABLE (R4, R5). -/
def execPresenceStable (s : State) : Result := doneAny (settled s)

/-- PRESENCE_LOST (R21, R58, R84, R98, R142). -/
def execPresenceLost (s : State) : Result := doneAny (presenceTimeout s)

end Sys2Proof.Machine
end

