-- ==== Sys2Proof/Machine/PacketRows.lean ====
section
/-!
DEFINITION. The meanings of the rows of addressed packets (section 8).
-/

namespace Sys2Proof.Machine

/-- CANCEL (R139). -/
def execCancel (tag target : HostTag) (s : State) : Result :=
  done (takeFrom controlRing tag (fun h => takeCancel h target) s)

/-- SEND (R126). -/
def execSend (tag : HostTag) (index : Byte) (broadcast ack : Bool) (cls : Byte) (deadline : Half) (serial : Serial)
    (addr : Addr) (len : Byte) (s : State) : Result :=
  done (takeFrom dispatchRing tag (fun h => takeSend h index broadcast ack cls deadline serial addr len) s)

/-- SEND_PAYLOAD_READ_START (R128). -/
def execSendPayloadReadStart (s : State) : Result := done (startSendRead s)

/-- SEND_PAYLOAD_READ_END (R128). -/
def execSendPayloadReadEnd (data : Option (List Byte)) (s : State) : Result := done (endSendRead data s)

end Sys2Proof.Machine
end

