-- ==== Sys2Proof/Machine/RosterRows.lean ====
section
/-!
DEFINITION. The meanings of the rows of the roster and of the descriptor cache (sections 4 and 5).
-/

namespace Sys2Proof.Machine

/-- ENUMERATE (R65). -/
def execEnumerate (tag : HostTag) (kind : Byte) (s : State) : Result :=
  done (takeFrom controlRing tag (fun h => takeEnumerate h kind) s)

/-- READ_ROSTER (R83). -/
def execReadRoster (tag : HostTag) (addr : Addr) (len : Word) (s : State) : Result :=
  done (takeFrom controlRing tag (fun h => takeReadRoster h addr len) s)

/-- ROSTER_COPY_END (R83). -/
def execRosterCopyEnd (n : Nat) (ok : Bool) (s : State) : Result := done (endRosterCopy n ok s)

/-- SET_DENY_LIST (R63). -/
def execSetDenyList (tag : HostTag) (count : Byte) (apply : Bool) (addr : Addr) (s : State) : Result :=
  done (takeFrom controlRing tag (fun h => takeDenyList h count apply addr) s)

/-- DENY_LIST_READ_START (R63). -/
def execDenyListReadStart (s : State) : Result := done (startDenyRead s)

/-- DENY_LIST_READ_END (R63). -/
def execDenyListReadEnd (data : Option (List Byte)) (s : State) : Result := done (endDenyRead data s)

/-- READ_DESCRIPTOR (R90). -/
def execReadDescriptor (tag : HostTag) (index : Byte) (serial : Serial) (addr : Addr) (len : Word) (s : State) :
    Result :=
  done (takeFrom controlRing tag (fun h => takeReadDescriptor h index serial addr len) s)

/-- DESCRIPTOR_REQUEST_TURN (R91). -/
def execDescriptorRequestTurn (s : State) : Result := done (descriptorTurn s)

/-- DESCRIPTOR_COPY_END (R96). -/
def execDescriptorCopyEnd (ok : Bool) (s : State) : Result := done (endCopy ok s)

/-- DROP_DESCRIPTORS (R97). -/
def execDropDescriptors (tag : HostTag) (s : State) : Result := done (takeFrom controlRing tag takeDrop s)

end Sys2Proof.Machine
end

