-- ==== Sys2Proof/Machine/StreamRows.lean ====
section
/-!
DEFINITION. The meanings of the rows of the stream ring and of the audio port (sections 6, 7, 9, 10).
-/

namespace Sys2Proof.Machine

/-- SET_CADENCE (R109). -/
def execSetCadence (tag : HostTag) (mode factor reserve : Byte) (s : State) : Result :=
  done (takeFrom streamRing tag (fun h s =>
    match cadenceRecord h mode factor reserve with
    | some p => setPendingCadence p s
    | none => complete .bss h .badParam 0 0 s) s)

/-- SET_STANDING (R119). -/
def execSetStanding (tag : HostTag) (index enable period phase kindCode : Byte) (addr : Addr) (len : Byte)
    (s : State) : Result :=
  done (takeFrom streamRing tag (fun h s =>
    match standingWork h index enable period phase kindCode addr len with
    | some w => joinStanding w s
    | none => complete .stt h .badParam 0 0 s) s)

/-- STANDING_PAYLOAD_READ_START (R120). -/
def execStandingPayloadReadStart (s : State) : Result := done (startStandingRead s)

/-- STANDING_PAYLOAD_READ_END (R120, R121). -/
def execStandingPayloadReadEnd (data : Option (List Byte)) (s : State) : Result := done (endStandingRead data s)

/-- SET_AUDIO (R147). -/
def execSetAudio (tag : HostTag) (channels wordLength : Byte) (rate : Word) (s : State) : Result :=
  done (takeFrom streamRing tag (fun h s =>
    match audioFormatOf channels wordLength rate with
    | some f => setPendingAudio ⟨f, h⟩ s
    | none => complete .ain h .badParam 0 0 s) s)

/-- SET_PIXEL_INPUT (R158). -/
def execSetPixelInput (tag : HostTag) (mode method : Byte) (s : State) : Result :=
  done (takeFrom streamRing tag (fun h s =>
    match modeOf mode, methodOf method with
    | some m, some c => setPixelInput h m c s
    | _, _ => complete .pxp h .badParam 0 0 s) s)

/-- The transform that LOAD-TRANSFORM's fields spell, if every offset is in range (R163, R164). -/
def transformOf (coeffs offsets : List Half) : Option Transform :=
  if offsets.all (fun o => decide (-2048 ≤ o.toInt ∧ o.toInt ≤ 2047)) then
    some ⟨coeffs.map BitVec.toInt, offsets.map BitVec.toInt⟩
  else none

/-- LOAD_TRANSFORM (R164). -/
def execLoadTransform (tag : HostTag) (coeffs offsets : List Half) (range : Byte) (s : State) : Result :=
  done (takeFrom streamRing tag (fun h s =>
    match transformOf coeffs offsets, rangeOf range with
    | some t, some r => loadTransform h t r s
    | _, _ => complete .pxp h .badParam 0 0 s) s)

/-- SET_FILL (R165). -/
def execSetFill (tag : HostTag) (c0 c1 c2 : Half) (s : State) : Result :=
  done (takeFrom streamRing tag (fun h s =>
    if c0.toNat ≤ 1023 ∧ c1.toNat ≤ 1023 ∧ c2.toNat ≤ 1023 then setFillTo h ⟨c0.toNat, c1.toNat, c2.toNat⟩ s
    else complete .pxp h .badParam 0 0 s) s)

/-- SAMPLE_GROUP_COMPLETE (R146, R149, R154). -/
def execSampleGroupComplete (halves : List (List Bool)) (s : State) : Result := done (groupComplete halves s)

/-- RATE_CHECK_WINDOW_END (R153, R154). -/
def execRateCheckWindowEnd (s : State) : Result := done (windowEnd s)

/-- CAPTURE_START (R146). -/
def execCaptureStart (s : State) : Result := done (beginCapture s)

end Sys2Proof.Machine
end

