-- ==== Sys2Proof/Machine/Take.lean ====
section
/-!
DEFINITION. COMMAND_TAKE: the record whose fetch ends is read, and the command it spells is taken by its own row's
meaning (R175, R177, R182).
-/

namespace Sys2Proof.Machine

/-- The take of a decoded command: its own row. A row that is no host command never comes out of a record. -/
def takeDecoded (i : Instr) (s : State) : Result :=
  match i with
  | .createRing t r b n => execCreateRing t r b n s
  | .destroyRing t r => execDestroyRing t r s
  | .configureEvents t b n k m => execConfigureEvents t b n k m s
  | .readStatus t a n => execReadStatus t a n s
  | .setSession t e r q => execSetSession t e r q s
  | .startLink t => execStartLink t s
  | .stopLink t => execStopLink t s
  | .quiet t => execQuiet t s
  | .resume t => execResume t s
  | .loadFormatEntry t c cl il ht ha vt va r => execLoadFormatEntry t c cl il ht ha vt va r s
  | .enumerate t k => execEnumerate t k s
  | .readRoster t a n => execReadRoster t a n s
  | .setDenyList t c ap a => execSetDenyList t c ap a s
  | .readDescriptor t i sn a n => execReadDescriptor t i sn a n s
  | .dropDescriptors t => execDropDescriptors t s
  | .cancel t g => execCancel t g s
  | .setCadence t m f r => execSetCadence t m f r s
  | .setStanding t i e p ph k a n => execSetStanding t i e p ph k a n s
  | .setAudio t c w r => execSetAudio t c w r s
  | .setPixelInput t m c => execSetPixelInput t m c s
  | .loadTransform t c o r => execLoadTransform t c o r s
  | .setFill t c0 c1 c2 => execSetFill t c0 c1 c2 s
  | .send t i b ak c d sn a n => execSend t i b ak c d sn a n s
  | _ => .next s

/-- COMMAND_TAKE: a record, or none for a failed fetch. -/
def execCommandTake (record : Option CommandRecord) (s : State) : Result :=
  match record with
  | none => done (failFetch s)
  | some r =>
    match decodeRecord r with
    | some i => takeDecoded i s
    | none => done (takeUnknown (recordTag r) s)

end Sys2Proof.Machine
end

