-- ==== Sys2Proof/Machine/Dispatch.lean ====
section
/-!
DEFINITION. One arm for each constructor of Instr, each a direct call of its meaning.
-/

namespace Sys2Proof.Machine

def exec (i : Instr) (s : State) : Host.Outcome State Fault Refusal :=
  match i with
  | .powerOnReset => Sys2Proof.Machine.execPowerOnReset s
  | .peRst => Sys2Proof.Machine.execPeRst s
  | .functionReset => Sys2Proof.Machine.execFunctionReset s
  | .ifReset => Sys2Proof.Machine.execIfReset s
  | .enableSet => Sys2Proof.Machine.execEnableSet s
  | .enableClear => Sys2Proof.Machine.execEnableClear s
  | .irqEn v => Sys2Proof.Machine.execIrqEn v s
  | .registerWrite r v => Sys2Proof.Machine.execRegisterWrite r v s
  | .producer r n => Sys2Proof.Machine.execProducer r n s
  | .completionRelease n => Sys2Proof.Machine.execCompletionRelease n s
  | .eventRelease n => Sys2Proof.Machine.execEventRelease n s
  | .cause v => Sys2Proof.Machine.execCause v s
  | .bootstrapReadEnd r => Sys2Proof.Machine.execBootstrapReadEnd r s
  | .fetchBegin => Sys2Proof.Machine.execFetchBegin s
  | .commandTake r => Sys2Proof.Machine.execCommandTake r s
  | .recordWriteFailure k => Sys2Proof.Machine.execRecordWriteFailure k s
  | .drainComplete => Sys2Proof.Machine.execDrainComplete s
  | .createRing t r b n => Sys2Proof.Machine.execCreateRing t r b n s
  | .destroyRing t r => Sys2Proof.Machine.execDestroyRing t r s
  | .configureEvents t b n k m => Sys2Proof.Machine.execConfigureEvents t b n k m s
  | .readStatus t a n => Sys2Proof.Machine.execReadStatus t a n s
  | .statusCopyEnd n ok => Sys2Proof.Machine.execStatusCopyEnd n ok s
  | .setSession t e r q => Sys2Proof.Machine.execSetSession t e r q s
  | .startLink t => Sys2Proof.Machine.execStartLink t s
  | .stopLink t => Sys2Proof.Machine.execStopLink t s
  | .quiet t => Sys2Proof.Machine.execQuiet t s
  | .resume t => Sys2Proof.Machine.execResume t s
  | .loadFormatEntry t c cl il ht ha vt va r => Sys2Proof.Machine.execLoadFormatEntry t c cl il ht ha vt va r s
  | .enumerate t k => Sys2Proof.Machine.execEnumerate t k s
  | .readRoster t a n => Sys2Proof.Machine.execReadRoster t a n s
  | .rosterCopyEnd n ok => Sys2Proof.Machine.execRosterCopyEnd n ok s
  | .setDenyList t c ap a => Sys2Proof.Machine.execSetDenyList t c ap a s
  | .denyListReadStart => Sys2Proof.Machine.execDenyListReadStart s
  | .denyListReadEnd d => Sys2Proof.Machine.execDenyListReadEnd d s
  | .readDescriptor t x sn a n => Sys2Proof.Machine.execReadDescriptor t x sn a n s
  | .descriptorRequestTurn => Sys2Proof.Machine.execDescriptorRequestTurn s
  | .descriptorCopyEnd ok => Sys2Proof.Machine.execDescriptorCopyEnd ok s
  | .dropDescriptors t => Sys2Proof.Machine.execDropDescriptors t s
  | .cancel t g => Sys2Proof.Machine.execCancel t g s
  | .setCadence t m f r => Sys2Proof.Machine.execSetCadence t m f r s
  | .setStanding t x e p ph k a n => Sys2Proof.Machine.execSetStanding t x e p ph k a n s
  | .standingPayloadReadStart => Sys2Proof.Machine.execStandingPayloadReadStart s
  | .standingPayloadReadEnd d => Sys2Proof.Machine.execStandingPayloadReadEnd d s
  | .setAudio t c w r => Sys2Proof.Machine.execSetAudio t c w r s
  | .setPixelInput t m c => Sys2Proof.Machine.execSetPixelInput t m c s
  | .loadTransform t c o r => Sys2Proof.Machine.execLoadTransform t c o r s
  | .setFill t c0 c1 c2 => Sys2Proof.Machine.execSetFill t c0 c1 c2 s
  | .send t x b ak c d sn a n => Sys2Proof.Machine.execSend t x b ak c d sn a n s
  | .sendPayloadReadStart => Sys2Proof.Machine.execSendPayloadReadStart s
  | .sendPayloadReadEnd d => Sys2Proof.Machine.execSendPayloadReadEnd d s
  | .tlPresLow r => Sys2Proof.Machine.execTlPresLow r s
  | .presenceDetected => Sys2Proof.Machine.execPresenceDetected s
  | .presenceStable => Sys2Proof.Machine.execPresenceStable s
  | .presenceLost => Sys2Proof.Machine.execPresenceLost s
  | .inputBoundary b tm => Sys2Proof.Machine.execInputBoundary b tm s
  | .flywheelStart tm => Sys2Proof.Machine.execFlywheelStart tm s
  | .activityTimeout tm => Sys2Proof.Machine.execActivityTimeout tm s
  | .formatLocked => Sys2Proof.Machine.execFormatLocked s
  | .termination => Sys2Proof.Machine.execTermination s
  | .trainingTimeout => Sys2Proof.Machine.execTrainingTimeout s
  | .lowerFitsExpiry => Sys2Proof.Machine.execLowerFitsExpiry s
  | .packetExpiry => Sys2Proof.Machine.execPacketExpiry s
  | .ackDue => Sys2Proof.Machine.execAckDue s
  | .timingCode w f => Sys2Proof.Machine.execTimingCode w f s
  | .codeErrorLimit => Sys2Proof.Machine.execCodeErrorLimit s
  | .sampleGroupComplete h => Sys2Proof.Machine.execSampleGroupComplete h s
  | .rateCheckWindowEnd => Sys2Proof.Machine.execRateCheckWindowEnd s
  | .sidebandGrant => Sys2Proof.Machine.execSidebandGrant s
  | .sidebandFrameReceived f => Sys2Proof.Machine.execSidebandFrameReceived f s
  | .attemptTimeout f => Sys2Proof.Machine.execAttemptTimeout f s
  | .releaseQuietEnd => Sys2Proof.Machine.execReleaseQuietEnd s
  | .attentionAsserted => Sys2Proof.Machine.execAttentionAsserted s
  | .attentionReleased => Sys2Proof.Machine.execAttentionReleased s
  | .holdoffExpiry => Sys2Proof.Machine.execHoldoffExpiry s
  | .lineStart e hi lo => Sys2Proof.Machine.execLineStart e hi lo s
  | .activeRunEnd w => Sys2Proof.Machine.execActiveRunEnd w s
  | .captureStart => Sys2Proof.Machine.execCaptureStart s

end Sys2Proof.Machine
end

