-- ==== Sys2Proof/Machine/Due.lean ====
section
/-!
DEFINITION. What the part does by itself while no command waits: the row that its own state calls for now, and the
timers that have run out (log entry 2).
-/

namespace Sys2Proof.Machine

/-! ### Rows that the part's own state calls for -/

/-- A SET-DENY-LIST read can start. -/
def denyReadDue (s : State) : Bool :=
  match s.rwk.denyWork with
  | w :: _ => !s.rwk.denyReading && decide (w.count ≠ 0)
  | [] => false

/-- A standing payload read can start. -/
def standingReadDue (s : State) : Bool :=
  match s.stt.work with
  | w :: _ => !s.stt.reading && w.enabled
  | [] => false

/-- An addressed payload read can start. -/
def sendReadDue (s : State) : Bool := !s.apq.reading && !s.apq.fetching.isEmpty

/-- A READ-DESCRIPTOR reaches its turn. -/
def descriptorDue (s : State) : Bool :=
  !s.dcr.queue.isEmpty && !s.rwk.walking && s.dcr.context.isNone && s.dcr.copying.isNone

/-- The arbiter can grant. -/
def grantDue (s : State) : Bool := decide (s.sbc.channel = .free) && (grantChoice s).isSome

/-- DRAINING has nothing left in flight. -/
def drainDue (s : State) : Bool := decide (s.hif.state = .draining) && decide (takenCount s.hif = 0)

/-- A boundary that the last timing code made. -/
def codeBoundary (s : State) : Option Instr :=
  if s.pxp.mode.embedded then
    s.fmon.boundaryDue.map (fun f => .inputBoundary (.code 0 f) s.pins.term)
  else none

/-- The rows that can happen at once, with whether each does, in the order in which the model takes them. -/
def readyRows (s : State) : List (Bool × Instr) :=
  [(drainDue s, .drainComplete), ((fetchChoice s).isSome, .fetchBegin), (grantDue s, .sidebandGrant),
   (denyReadDue s, .denyListReadStart), (standingReadDue s, .standingPayloadReadStart),
   (sendReadDue s, .sendPayloadReadStart), (descriptorDue s, .descriptorRequestTurn),
   (s.pins.pres && !s.ses.presence, .presenceDetected)]

/-- The row that happens at once, if there is one. -/
def readyRow (s : State) : Option Instr :=
  match codeBoundary s with
  | some i => some i
  | none => ((readyRows s).find? (·.1)).map (·.2)

/-! ### Timers -/

/-- A timer started at a time has run for a limit. -/
def timeUp (start : Option Nat) (limit now : Nat) : Bool :=
  match start with
  | some t => decide (t + limit ≤ now)
  | none => false

/-- The timers, with whether each has run out now, and the row of each. -/
def timerRows (s : State) : List (Bool × Instr) :=
  [(s.ses.presence && timeUp s.ses.glitch dropTicks s.now, .presenceLost),
   (decide (s.ses.session = .settling) && timeUp s.ses.settle settleTicks s.now, .presenceStable),
   (decide (s.fmon.monitor ≠ .noSignal) && timeUp s.fmon.activity activityTicks s.now, .activityTimeout s.pins.term),
   (decide (s.fmon.monitor = .noSignal) && timeUp (some s.fmon.lastFly) s.fmon.flyPeriod s.now,
     .flywheelStart s.pins.term),
   (decide (s.sbc.channel = .attempt) && !s.sbc.lateFrame && timeUp s.sbc.respTimer responseTicks s.now,
     .attemptTimeout false),
   (decide (s.sbc.channel = .releaseQuiet) && timeUp s.sbc.quietTimer releaseTicks s.now, .releaseQuietEnd),
   (decide (s.sbc.poll = .holdoff) && timeUp s.sbc.holdoff holdoffTicks s.now, .holdoffExpiry),
   (s.ain.format.isSome && timeUp (s.ain.window.map (·.start)) windowTicks s.now, .rateCheckWindowEnd)]

/-- The rows of the timers that have run out. -/
def timersDue (s : State) : List Instr := ((timerRows s).filter (·.1)).map (·.2)

/-- One reference tick passes. -/
def tick (s : State) : State := { s with now := s.now + 1 }

/-- What the part does next by itself, and the state in which it does it: a row that happens at once; else the row
of a timer that has run out, a free choice among several; else a tick passes. -/
def ownStep (s : State) : Option Instr × State :=
  match readyRow s with
  | some i => (some i, s)
  | none =>
    match timersDue s with
    | [] => (none, tick s)
    | [i] => (some i, s)
    | i :: is => (some ((i :: is).getD (Config.pick s.choices % (is.length + 1)) i),
        { s with choices := s.choices + 1 })

end Sys2Proof.Machine
end

