-- ==== Sys2Proof/Machine/Tile.lean ====
section
/-!
DEFINITION. The tile's side of the sideband and of the link, as the data sheet asks it of a tile (R47 to R50, R129,
R187, R188). A tile is outside the part: nothing of State holds one. These functions say what the environment
answers to what the part sends, and the part's own rules do not depend on them.
-/

namespace Sys2Proof.Machine

/-- The request that a tile last answered, with the response it sent (R49). -/
structure Remembered where
  seq : BitVec 4
  kind : Nat
  params : List Byte
  response : List Byte
  deriving DecidableEq, Repr

/-- A tile (section 3.3). opened holds the ports open to requests to 0x7F, notices the pending notices as kind
and argument, oldest first, receipts the receipt tags, oldest first. -/
structure Tile where
  serial : Serial
  ports : Nat
  present : Byte
  stamp : Half
  blocks : List (List Byte)
  address : Option Nat
  opened : List Nat
  last : Option Remembered
  notices : List (Byte × Byte)
  receipts : List Byte
  tally : Word
  locked : Bool
  blank : Bool
  deriving DecidableEq, Repr

/-- A tile at its own power-up: unassigned, its ports closed, nothing remembered, blank off. -/
def Tile.powerUp (serial : Serial) (ports : Nat) (present : Byte) (stamp : Half) (blocks : List (List Byte)) :
    Tile where
  serial := serial
  ports := ports
  present := present
  stamp := stamp
  blocks := blocks
  address := none
  opened := []
  last := none
  notices := []
  receipts := []
  tally := 0
  locked := false
  blank := false

/-! ### Requests (R188) -/

/-- A request as a tile reads it. -/
structure HeardRequest where
  dest : Byte
  seq : BitVec 4
  kind : Nat
  params : List Byte
  deriving DecidableEq, Repr

/-- A received request, or none where its byte count differs from the parameter length plus 4, the parameter
length exceeds 8, or its CRC-8 fails (R188). -/
def parseRequest (f : List Byte) : Option HeardRequest :=
  match f with
  | dest :: hdr :: len :: rest =>
    if len.toNat ≤ 8 ∧ f.length = len.toNat + 4 ∧ crc8 f.dropLast = f.getLastD 0 then
      some ⟨dest, hdr.extractLsb' 4 4, (hdr.extractLsb' 0 4).toNat, rest.take len.toNat⟩
    else none
  | _ => none

/-- A response frame (section 12.7). -/
def responseFrame (source : Byte) (seq : BitVec 4) (ack : Bool) (data : List Byte) : List Byte :=
  let body := [source] ++ leBytes 1 (16 * seq.toNat + bitAt 0 ack) ++ leBytes 1 data.length ++ data
  body ++ [crc8 body]

/-! ### Acting on a request (R48) -/

/-- A tile's answer before it is framed: its source address, ACK or NAK, and data. -/
structure Answer where
  source : Byte
  ack : Bool
  data : List Byte
  deriving DecidableEq, Repr

/-- An answer without data. -/
def answerOf (source : Byte) (ack : Bool) : Answer := ⟨source, ack, []⟩

/-- RELEASE-ALL (R48). -/
def Tile.release (t : Tile) : Tile :=
  { t with address := none, opened := [], receipts := [], last := none, blank := false }

/-- PROBE's data: serial, port count, present mask, stamp. -/
def Tile.probeData (t : Tile) : List Byte :=
  beBytes 6 t.serial.toNat ++ leBytes 1 t.ports ++ [t.present] ++ beBytes 2 t.stamp.toNat

/-- An ASSIGN whose parameters are an address and a serial. -/
def Tile.assign (t : Tile) (params : List Byte) : Tile × Option Answer :=
  let a := (params.getD 0 0).toNat
  if fromBe (params.drop 1) ≠ t.serial.toNat then (t, none)
  else if 1 ≤ a ∧ a ≤ 64 then ({ t with address := some a }, some (answerOf (params.getD 0 0) true))
  else (t, some (answerOf 0x7F false))

/-- OPEN (mark true) or CLOSE of a port. -/
def Tile.markPort (t : Tile) (here : Byte) (mark : Bool) (params : List Byte) : Tile × Option Answer :=
  let p := (params.getD 0 0).toNat
  if p < t.ports then
    ({ t with opened := if mark then p :: t.opened.filter (· ≠ p) else t.opened.filter (· ≠ p) },
      some (answerOf here true))
  else (t, some (answerOf here false))

/-- GET-NOTICE: the oldest pending notice, or kind none (R48). -/
def Tile.getNotice (t : Tile) (here : Byte) : Tile × Option Answer :=
  match t.notices with
  | (k, a) :: rest => ({ t with notices := rest }, some ⟨here, true, [k, a]⟩)
  | [] => (t, some ⟨here, true, [0, 0]⟩)

/-- READ-BLOCK. -/
def Tile.readBlock (t : Tile) (here : Byte) (params : List Byte) : Option Answer :=
  match t.blocks[(params.getD 0 0).toNat]? with
  | some b => some ⟨here, true, params.getD 0 0 :: b⟩
  | none => some (answerOf here false)

/-- BLANK on or off. -/
def Tile.setBlank (t : Tile) (here : Byte) (params : List Byte) : Tile × Option Answer :=
  match (params.getD 0 0).toNat with
  | 0 => ({ t with blank := false }, some (answerOf here true))
  | 1 => ({ t with blank := true }, some (answerOf here true))
  | _ => (t, some (answerOf here false))

/-- A request to the tile's own assigned address (R48); an unknown kind gets NAK. -/
def Tile.actAddressed (t : Tile) (here : Byte) (kind : Nat) (params : List Byte) : Tile × Option Answer :=
  match kind with
  | 2 => (t, some ⟨here, true, t.probeData⟩)
  | 4 => t.markPort here true params
  | 5 => t.markPort here false params
  | 6 => (t, some ⟨here, true, beBytes 6 t.serial.toNat ++ [t.present] ++ beBytes 2 t.stamp.toNat⟩)
  | 7 => (t, t.readBlock here params)
  | 8 => (t, some ⟨here, true, beBytes 4 t.tally.toNat ++ [if t.locked then 1 else 0]⟩)
  | 9 => t.getNotice here
  | 10 => (t, some ⟨here, true, [params.getD 0 0, if t.receipts.contains (params.getD 0 0) then 1 else 0]⟩)
  | 11 => t.setBlank here params
  | _ => (t, some (answerOf here false))

/-- A request to 0x7F: an unassigned tile acts, an assigned one only on an ASSIGN with its serial (R48). -/
def Tile.actUnassigned (t : Tile) (kind : Nat) (params : List Byte) : Tile × Option Answer :=
  match kind with
  | 3 => t.assign params
  | 2 => if t.address.isNone then (t, some ⟨0x7F, true, t.probeData⟩) else (t, none)
  | _ => if t.address.isNone then (t, some (answerOf 0x7F false)) else (t, none)

/-- Whether a tile acts on a request that reaches it (R48). -/
def Tile.addressed (t : Tile) (r : HeardRequest) : Bool :=
  decide (r.dest = 0) || decide (r.dest = 0x7F) || decide (t.address = some r.dest.toNat)

/-- A tile's action on a request that concerns it (R48). -/
def Tile.act (t : Tile) (r : HeardRequest) : Tile × Option Answer :=
  if r.dest = 0 then (if r.kind = 1 then t.release else t, none)
  else if r.dest = 0x7F then t.actUnassigned r.kind r.params
  else t.actAddressed r.dest r.kind r.params

/-- The remembered request goes when any request with another sequence number is heard (R49). -/
def Tile.forget (t : Tile) (r : HeardRequest) : Tile :=
  match t.last with
  | some m => if m.seq = r.seq then t else { t with last := none }
  | none => t

/-- The remembered response, where a request repeats the one last answered (R49). -/
def Tile.repeated (t : Tile) (r : HeardRequest) : Option (List Byte) :=
  match t.last with
  | some m => if m.seq = r.seq ∧ m.kind = r.kind ∧ m.params = r.params then some m.response else none
  | none => none

/-- A tile acts afresh and remembers what it answers. -/
def Tile.answerFresh (t : Tile) (r : HeardRequest) : Tile × Option (List Byte) :=
  match t.act r with
  | (t1, some a) =>
    let f := responseFrame a.source r.seq a.ack a.data
    ({ t1 with last := some ⟨r.seq, r.kind, r.params, f⟩ }, some f)
  | (t1, none) => (t1, none)

/-- A tile hears a request: it answers a repeated one as before, and acts on another that concerns it. -/
def Tile.hear (t : Tile) (r : HeardRequest) : Tile × Option (List Byte) :=
  let t1 := t.forget r
  if t1.addressed r then
    match t1.repeated r with
    | some f => (t1, some f)
    | none => t1.answerFresh r
  else (t1, none)

/-! ### Forwarding (R47) -/

/-- A tile in the tree: where its upstream port is connected, none for the 2610's own port. -/
structure Placed where
  tile : Tile
  above : Option (Nat × Nat)
  deriving DecidableEq, Repr

/-- Whether a request to 0x7F reaches tile i: every port on its path from the root is open (R47). -/
def hearsUnassigned (tree : List Placed) : Nat → Nat → Bool
  | 0, _ => false
  | n + 1, i =>
    match tree[i]? with
    | none => false
    | some p =>
      match p.above with
      | none => true
      | some (j, port) =>
        (match tree[j]? with
          | some q => q.tile.opened.contains port
          | none => false) && hearsUnassigned tree n j

/-- Whether a request reaches tile i: one to 0 or to 1–64 reaches every tile (R47). -/
def reaches (tree : List Placed) (r : HeardRequest) (i : Nat) : Bool :=
  decide (r.dest ≠ 0x7F) || hearsUnassigned tree 64 i

/-- The tree hears a request frame: the tiles after it, and the responses sent up (R47, R188). -/
def treeHears (tree : List Placed) (f : List Byte) : List Placed × List (List Byte) :=
  match parseRequest f with
  | none => (tree, [])
  | some r =>
    let heard := tree.mapIdx (fun i p =>
      if reaches tree r i then
        let h := p.tile.hear r
        (({ p with tile := h.1 } : Placed), h.2)
      else (p, none))
    (heard.map (·.1), heard.filterMap (·.2))

/-! ### Notices (R50) -/

/-- The pending notice of a kind gets a new argument in its place, or joins as the newest. -/
def raiseNotice (kind : Byte) (merge : Byte → Byte) (arg : Byte) : List (Byte × Byte) → List (Byte × Byte)
  | [] => [(kind, arg)]
  | (k, a) :: rest => if k = kind then (k, merge a) :: rest else (k, a) :: raiseNotice kind merge arg rest

/-- The present bits of ports change: DOWNSTREAM_CHANGED, the new ports joining a pending mask. -/
def Tile.portsChanged (t : Tile) (present mask : Byte) : Tile :=
  { t with present := present, notices := raiseNotice 1 (· ||| mask) mask t.notices }

/-- A fault of the tile's own: LOCAL_FAULT, the newest code standing. -/
def Tile.faulted (t : Tile) (code : Byte) : Tile :=
  { t with notices := raiseNotice 2 (fun _ => code) code t.notices }

/-- The main link receiver loses lock: UNLOCKED. -/
def Tile.unlocked (t : Tile) : Tile :=
  { t with locked := false, notices := raiseNotice 3 (fun a => a) 0 t.notices }

/-- A tile asserts SB_ATTN# while it holds a notice. -/
def Tile.attention (t : Tile) : Bool := !t.notices.isEmpty

/-- The wired line: asserted while any tile asserts it. -/
def lineAsserted (tree : List Placed) : Bool := tree.any (fun p => p.tile.attention)

/-! ### Blanking packets (R118, R129, R187) -/

/-- A tag becomes the newest of a tile's 16 receipt tags (R129). -/
def Tile.receipt (t : Tile) (tag : Byte) : Tile :=
  let rest := t.receipts.filter (fun x => decide (x ≠ tag))
  { t with receipts := (rest.drop (rest.length - 15)) ++ [tag] }

/-- A 40-byte slot whose header check holds; a tile discards another (R187). -/
def slotGood (slot : List Byte) : Bool := decide (crc8 (slot.take 11) = slot.getD 11 0)

/-- A tile decodes the first slot of a packet: the TALLY counter (R118), and the receipt tag of an addressed packet
for all tiles or for it (R129). -/
def Tile.decodeSlot (t : Tile) (slot : List Byte) : Tile :=
  if slotGood slot then
    match (slot.getD 0 0).toNat % 4 with
    | 0 =>
      if slot.getD 6 0 = 1 then { t with tally := BitVec.ofNat 32 (fromBe ((slot.drop 12).take 4)) } else t
    | 1 =>
      let d := slot.getD 6 0
      if (d = 0 ∨ t.address = some d.toNat) ∧ (slot.getD 7 0).getLsbD 0 then t.receipt (slot.getD 8 0) else t
    | _ => t
  else t

end Sys2Proof.Machine
end

