-- ==== Sys2Proof/Safety.lean ====
section
/-!
DEFINITION. What every state of the part has: the invariants that the statements use.
-/

namespace Sys2Proof.Machine

/-- The factors that there are (R103). -/
def factorLegal (f : Nat) : Prop := f = 1 ∨ f = 2 ∨ f = 4

/-- The lanes are on exactly in TRAINING, CARRYING and QUIET (R7). -/
def State.lanesAgree (s : State) : Prop := s.ses.lanes = s.ses.session.lanesOn

/-- The factor in force, the announced one, the host's and the pending record's are 1, 2 or 4 (R108). -/
def State.factorsLegal (s : State) : Prop :=
  factorLegal s.bss.factor ∧ factorLegal s.bss.hostFactor ∧ (∀ f ∈ s.bss.announced, factorLegal f)
    ∧ (∀ p ∈ s.bss.pending, factorLegal p.factor)

/-- The awaiting-ack list holds at most 16 packets (R128). -/
def State.awaitingBounded (s : State) : Prop := s.apq.awaiting.length ≤ awaitingMax

/-- The pool's packets and a fetch from the dispatch ring take at most 64 buffers (R127, R128). -/
def State.poolBounded (s : State) : Prop :=
  poolHeld s.apq + (if s.hif.fetch = some dispatchRing then 1 else 0) ≤ poolSize

/-- The FIFO holds at most 8192 groups (R149). -/
def State.fifoBounded (s : State) : Prop := s.ain.fifo.length ≤ fifoMax

/-- The roster has 64 entries, and a VACANT one has the values of a VACANT entry (R60). -/
def State.rosterShaped (s : State) : Prop :=
  s.rwk.roster.length = 64 ∧ ∀ e ∈ s.rwk.roster, e.state = .vacant → e = Entry.vacant

/-- A record ring whose indices lie in it. -/
def RecordRing.inRange (r : RecordRing) : Prop := r.write < r.size ∧ r.host < r.size

/-- Commands taken and not yet completed plus completion records written and not yet released never exceed the
size minus one (R176). -/
def State.creditsKept (s : State) : Prop :=
  ∀ r ∈ s.hif.comp, r.inRange ∧ takenCount s.hif + r.unreleased ≤ r.size - 1

/-- The event ring holds at most size − 1 records unreleased (R180). -/
def State.eventsKept (s : State) : Prop := ∀ r ∈ s.hif.event, r.inRange ∧ r.unreleased ≤ r.size - 1

/-- Nothing handed over waits between steps. -/
def State.settledHands (s : State) : Prop := s.handed = []

/-- What SES's commands, walks and resting states never contradict: a START-LINK is in flight only in TRAINING,
no walk runs in TRAINING, the resting states keep neither HOST nor CADENCE, no termination loss is counted while the
lanes are off, and the walker waits for a transaction only during a walk (R2, R8, R11, R12, R64, R78). -/
def State.sessionShaped (s : State) : Prop :=
  (s.ses.startLink.isSome = true → s.ses.session = .training)
    ∧ (s.ses.session = .training → s.rwk.walking = false)
    ∧ (s.ses.session.clearsQuiet = true → s.ses.quiet.host = false ∧ s.ses.quiet.cadence = false)
    ∧ (s.ses.session.lanesOn = false → s.ses.termLoss = 0)
    ∧ (s.rwk.walking = false → s.rwk.wait = none)

/-- The slots that a plan uses. -/
def Plan.used (p : Plan) : Nat :=
  (p.standing.map (·.2)).sum + p.audioPackets + (p.addressed.map (·.slots)).sum

/-- The plan of the frame in progress uses at most the slots that the frame has (R113). -/
def State.planFits (s : State) : Prop := ∀ p ∈ s.bss.plan, p.used ≤ p.slots

/-! ### Words for what a row does -/

/-- The host commands: the ring of the command table, and the host tag. -/
def hostCommand : Instr → Option (Nat × HostTag)
  | .createRing t .. => some (controlRing, t)
  | .destroyRing t .. => some (controlRing, t)
  | .configureEvents t .. => some (controlRing, t)
  | .readStatus t .. => some (controlRing, t)
  | .setSession t .. => some (controlRing, t)
  | .startLink t => some (controlRing, t)
  | .stopLink t => some (controlRing, t)
  | .quiet t => some (controlRing, t)
  | .resume t => some (controlRing, t)
  | .loadFormatEntry t .. => some (controlRing, t)
  | .enumerate t .. => some (controlRing, t)
  | .readRoster t .. => some (controlRing, t)
  | .setDenyList t .. => some (controlRing, t)
  | .readDescriptor t .. => some (controlRing, t)
  | .dropDescriptors t => some (controlRing, t)
  | .cancel t .. => some (controlRing, t)
  | .setCadence t .. => some (streamRing, t)
  | .setStanding t .. => some (streamRing, t)
  | .setAudio t .. => some (streamRing, t)
  | .setPixelInput t .. => some (streamRing, t)
  | .loadTransform t .. => some (streamRing, t)
  | .setFill t .. => some (streamRing, t)
  | .send t .. => some (dispatchRing, t)
  | _ => none

/-- The state in which the fetch from ring r ends with a record: g is the ring, c the completion ring. -/
structure State.Fetching (s : State) (r : Nat) (g : Ring) (c : RecordRing) : Prop where
  settled : s.handed = []
  writes : writesRecords s.hif = true
  fetch : s.hif.fetch = some r
  ring : ringAt s.hif r = some g
  comp : s.hif.comp = some c

/-- The command as it is taken: its ring, and the ring's consumer index after it (R175). -/
def State.takenAs (s : State) (r : Nat) (g : Ring) (tag : HostTag) : Handle :=
  ⟨s.hif.nextId, tag, r, (g.cons + 1) % g.size⟩

/-- The state after the take and before the command acts: the consumer index has advanced, and the command is in
flight (R175). -/
def State.taken (s : State) (r : Nat) (g : Ring) (tag : HostTag) : State :=
  { s with hif := { s.hif with
    rings := s.hif.rings.set r (some { g with cons := (g.cons + 1) % g.size })
    fetch := none
    inFlight := s.hif.inFlight ++ [s.takenAs r g tag]
    nextId := s.hif.nextId + 1 } }

/-- The MSI that a cause set now sends: one if CAUSE is empty, IRQ_EN is 1 and MSIs are enabled (R181). -/
def State.msiDue (s : State) : List Output :=
  if s.hif.causeCompletion = false ∧ s.hif.causeEvent = false ∧ s.hif.causeFatal = false ∧ s.hif.irqEn = true
      ∧ s.pins.msiEnable = true then [.msi] else []

/-- s after the completion record of command h is written into the completion ring c (R176, R178, R181). -/
def State.completed (s : State) (c : RecordRing) (h : Handle) (st : Status) (w1 w2 : Word) : State :=
  { s with
    hif := { s.hif with comp := some c.advance, inFlight := s.hif.inFlight.erase h, causeCompletion := true }
    out := s.out ++ .hostWrite c.slot (completionBytes h c.phase st w1 w2) :: s.msiDue }

/-- s after an error of host memory with this cause (R182). -/
def State.fatalNow (s : State) (cause : FatalCause) : State :=
  { s with
    hif := { s.hif with state := .fatal, fatalCause := cause, fetch := none, causeFatal := true }
    out := s.out ++ s.msiDue }

/-- A command in flight that can be completed now: records are written, and c is the completion ring. -/
structure State.Pending (s : State) (h : Handle) (c : RecordRing) : Prop where
  settled : s.handed = []
  writes : writesRecords s.hif = true
  comp : s.hif.comp = some c
  held : h ∈ s.hif.inFlight

/-- A ring size that a ring with at most max records may have: a power of two from 16 up (section 11). -/
def powerSize (max n : Nat) : Prop := (∃ k, n = 2 ^ k) ∧ 16 ≤ n ∧ n ≤ max

/-! ### Record layouts (section 12) -/

/-- The n bytes of a record from an offset on, little-endian (R186). -/
def fieldAt (bs : List Byte) (offset n : Nat) : Nat := fromLe ((bs.drop offset).take n)

/-- A record of this size has these fields, each an offset, a number of bytes and a value, and a byte that no field places is 0
(R186). -/
def laidOut (bs : List Byte) (size : Nat) (fields : List (Nat × Nat × Nat)) : Prop :=
  bs.length = size ∧ (∀ f ∈ fields, fieldAt bs f.1 f.2.1 = f.2.2 % 256 ^ f.2.1)
    ∧ ∀ k < size, (∀ f ∈ fields, k < f.1 ∨ f.1 + f.2.1 ≤ k) → bs[k]? = some 0

/-! ### What a step has written and sent -/

/-- What a step from s to t has sent. -/
def State.sentTo (s t : State) : List Output := t.out.drop s.out.length

/-- Whether an output is a write of these bytes. -/
def Output.isWriteOf (bs : List Byte) (o : Output) : Bool :=
  match o with
  | .hostWrite _ b => decide (b = bs)
  | _ => false

/-- A step from s to t has written the completion record of command h. -/
def State.completes (s t : State) (h : Handle) (st : Status) (w1 w2 : Word) : Bool :=
  (s.sentTo t).any (fun o => o.isWriteOf (completionBytes h true st w1 w2) || o.isWriteOf (completionBytes h false st w1 w2))

/-- A step from s to t has written the record of event e. -/
def State.reports (s t : State) (e : Event) : Bool :=
  (s.sentTo t).any (fun o => o.isWriteOf (eventBytes t.fmon.fsn true e) || o.isWriteOf (eventBytes t.fmon.fsn false e))

/-- The event ring takes events of a kind, with room for all that one step can post. -/
def State.listens (s : State) (kind : Nat) : Bool :=
  writesRecords s.hif && s.hif.mask.getLsbD kind && s.hif.event.any (fun r =>
    decide (r.write < r.size ∧ r.host < r.size ∧ r.unreleased + 8 < r.size))

/-- A completion record of command h can be written: it is in flight, and HIF writes records. -/
def State.canComplete (s : State) (h : Handle) : Prop :=
  writesRecords s.hif = true ∧ s.hif.comp.isSome = true ∧ h ∈ s.hif.inFlight

/-- The part of its image that a copy which fails or is stopped has written, when k free choices have been made: how much
is a free value (log entry 8). -/
def partWritten (k : Nat) (image : List Byte) : List Byte := image.take (Config.copied k % (image.length + 1))

/-- What the copies in progress have written, if they stop now (log entry 8). -/
def State.stoppedWrites (s : State) : List Output :=
  (copiesRunning s).mapIdx (fun k c => .hostWrite c.1 (partWritten (s.choices + k) c.2))

/-! ### Words for walks -/

/-- s with the walker's next request sent at the time now, on a channel that has just become FREE (R42, R45, R53). The
response timer starts at the moment of sending (log entry 35). -/
def State.walkerSends (s : State) (now : Nat) (w : WalkWait) (q : Request) : State :=
  { s with
    now := now
    rwk := { s.rwk with wait := some w }
    sbc := { s.sbc with
      wkReq := none, nextSeq := s.sbc.nextSeq + 1, channel := .attempt
      inFlight := some ⟨.wk, q, s.sbc.nextSeq, 1, none, false⟩
      respTimer := some now, quietTimer := none, lateFrame := false }
    out := s.out ++ [Output.sideband (requestFrame q s.sbc.nextSeq)] }

/-- The walker waits for the outcome of its transaction x. -/
structure State.WalkerWaits (s : State) (x : Transaction) : Prop where
  settled : s.handed = []
  walking : s.rwk.walking = true
  flight : s.sbc.inFlight = some x
  own : x.requester = .wk
  live : x.orphan = false
  prompt : s.sbc.deferred = none

/-- Every way in which the transaction x in flight ends without a response, with the time of its end: NAK at any attempt;
at the third a frame whose check fails, 2 ms without a frame, or the end of a frame that was arriving at 2 ms and is not the
response (R43 to R45). The claim holds of what each leaves. -/
def State.attemptFails (s : State) (x : Transaction) (claim : Result → Nat → Prop) : Prop :=
  (∀ f d, judgeFrame x f = .accept false d → claim (exec (.sidebandFrameReceived f) s) s.now)
  ∧ (x.attempt = 3 →
    (∀ f, judgeFrame x f = .bad ∨ (judgeFrame x f = .discard ∧ s.sbc.lateFrame = true) →
      claim (exec (.sidebandFrameReceived f) s) s.now)
    ∧ (∀ t0, s.sbc.lateFrame = false → s.sbc.respTimer = some t0 →
      claim (exec (.attemptTimeout false) s) (max s.now (t0 + 54000))))

/-- The walk that is ending has this outcome (R70, R78). -/
def State.walkOutcome (s : State) : WalkOutcome :=
  if (entryAt s 0).state ≠ .active ∧ (entryAt s 0).state ≠ .denied then .noRoot
  else if s.rwk.countMark then .countLimit else if s.rwk.depthMark then .depthLimit else .ok

/-- The CRC-32 over the serials of the ACTIVE entries in index order, and 0 with none (R61). -/
def State.rosterCheck (s : State) : Word :=
  let serials := ((s.rwk.roster.filter (fun e => decide (e.state = .active))).map (fun e => beBytes 6 e.serial.toNat)).flatten
  if serials = [] then 0 else crc32 serials

/-- The walk of s, its roster and marks as they are, ends at the time now (R6, R78). -/
def State.walkEnds (s : State) (now : Nat) (run : Result) : Prop :=
  ∃ t, run = .next t ∧ t.now = now ∧ t.rwk.walking = false ∧ t.rwk.stack = [] ∧ t.rwk.roster = s.rwk.roster
    ∧ t.rwk.generation = s.rwk.generation + 1 ∧ t.rwk.check = s.rosterCheck
    ∧ t.rwk.lastWalk = some ⟨s.rwk.kind, s.rwk.starter, s.walkOutcome, s.rwk.warnings, s.rwk.generation + 1⟩
    ∧ t.ses.session = (if s.rwk.kind = .refresh then s.ses.session
      else if s.walkOutcome = .noRoot then .waiting else .ready)

/-- The walk comes back to the pair on top of rest: the port that leads there is closed, and the next one is that tile's next
port (R68, R73). -/
def State.portCloses (s : State) (now : Nat) (rest : List (Nat × Nat)) (run : Result) : Prop :=
  ∀ t p below, rest = (t, p) :: below → run = .next ({ s with rwk := { s.rwk with stack := (t, p + 1) :: below }
    }.walkerSends now .close ⟨BitVec.ofNat 8 (t + 1), .close, [BitVec.ofNat 8 p]⟩)

/-- The walk works on tile t from its port p on, rest being the stack below (R68, R69, R73): it opens the first port from there on
with a tile behind it, the ports before it being passed over, where a refresh walk has every entry that it has not verified
become LOST with its descendants. With no such port, or at depth 7, where the depth mark is set for such a port, it goes back to
the pair below, and with no pair below it ends. -/
def State.walkGoesOn (s : State) (now : Nat) (t p : Nat) (rest : List (Nat × Nat)) (run : Result) : Prop :=
  let e := entryAt s t
  let r := s.rwk.roster
  let lose := fun (c : Entry) => if c.state = .active ∨ c.state = .denied then
    { c with state := .lost, lostGen := s.rwk.generation } else c
  let gone := fun (stop : Nat) (c : Entry) => c.state ≠ .vacant ∧ c.parent = some t ∧ p ≤ c.port ∧ c.port < stop
    ∧ e.present.getLsbD c.port = false ∧ c.verified = false
  let passed := fun (stop : Nat) => if s.rwk.kind = .full then r else r.mapIdx (fun j c =>
    if ∃ i ∈ List.range r.length, gone stop (entryAt s i) ∧ (j = i ∨ isBelow r i 64 j = true) then lose c else c)
  let there := fun (q : Nat) => p ≤ q ∧ q < e.ports ∧ e.present.getLsbD q = true
  let done_ : State := { s with rwk := { s.rwk with
    roster := passed e.ports, depthMark := s.rwk.depthMark || decide (∃ q ∈ List.range e.ports, there q), stack := rest } }
  (∀ q, there q → (∀ k < q, ¬ there k) → e.depth < 7 →
    let s1 : State := { s with rwk := { s.rwk with roster := passed q, stack := (t, q) :: rest } }
    run = .next (s1.walkerSends now (.openPort (knownChild t q s1)) ⟨BitVec.ofNat 8 (t + 1), .open_, [BitVec.ofNat 8 q]⟩))
  ∧ ((∀ q < e.ports, ¬ there q) ∨ 7 ≤ e.depth → done_.portCloses now rest run ∧ (rest = [] → done_.walkEnds now run))

/-- What follows an entry's check and its BLANK: an ACTIVE tile with ports is pushed and its ports are explored; after
any other tile the walk ends at the root, and below it the port that leads to the tile is closed (R67, R68, R71, R73). -/
def State.entryDone (s : State) (now : Nat) (i : Nat) (root : Bool) (run : Result) : Prop :=
  let explored := (entryAt s i).state = .active ∧ 0 < (entryAt s i).ports
  (explored → s.walkGoesOn now i 0 s.rwk.stack run)
  ∧ (¬ explored → root = false → s.portCloses now s.rwk.stack run)
  ∧ (¬ explored → root = true → s.walkEnds now run)

/-- The channel as the end of a transaction leaves it. -/
def Sbc.freed (b : Sbc) : Sbc :=
  { b with channel := .free, inFlight := none, respTimer := none, quietTimer := none, lateFrame := false }

/-- No request waits for the channel. -/
def Sbc.idleRequests (b : Sbc) : Prop :=
  b.wkReq = none ∧ b.lcReq = none ∧ b.apReq = none ∧ b.acReq = none ∧ b.drReq = none ∧ b.deferred = none

/-- The end of another requester's transaction during a walk: the channel goes to the walker, whose waiting request is granted
(R53). -/
def State.channelToWalker (s : State) (now : Nat) : State :=
  match s.sbc.wkReq with
  | none => { s with now := now, sbc := s.sbc.freed }
  | some q =>
    let release := q.kind = .releaseAll
    { s with
      now := now
      sbc := { s.sbc with
        wkReq := none, nextSeq := s.sbc.nextSeq + 1, inFlight := some ⟨.wk, q, s.sbc.nextSeq, 1, none, false⟩
        channel := if release then .releaseQuiet else .attempt
        respTimer := if release then none else some now
        quietTimer := if release then some now else none, lateFrame := false }
      out := s.out ++ [Output.sideband (requestFrame q s.sbc.nextSeq)] }

/-- A request of a requester other than the walker, sent now on a channel that has just become FREE, with no READ-BLOCK
waiting (R42, R52, R54). -/
def State.requesterSends (s : State) (r : Requester) (q : Request) : State :=
  { s with
    sbc := { s.sbc with
      nextSeq := s.sbc.nextSeq + 1, channel := .attempt, inFlight := some ⟨r, q, s.sbc.nextSeq, 1, none, false⟩
      respTimer := some s.now, quietTimer := none, lateFrame := false
      aging := if r = .dr then 0 else s.sbc.aging }
    out := s.out ++ [Output.sideband (requestFrame q s.sbc.nextSeq)] }

/-! ### Words for frame plans -/

/-- The slots from position p on, n of them, lie on one line of a frame at factor f: the lines of vertical blanking come
first, each of the blanking lines' width, then the active lines (R100; their order is log entry 14). -/
def onOneLine (g : Geometry) (f p n : Nat) : Bool :=
  let blank := (g.vt - g.va) * blankSlots g f
  let within := fun (start width stop : Nat) =>
    decide (start ≤ p ∧ p + n ≤ stop ∧ (p - start) / width = (p + n - 1 - start) / width)
  within 0 (blankSlots g f) blank || within blank (activeSlots g f) (capacity g f)

/-- The plan's first stage over entries given as index and slots, from a cursor on: the cursor after it, the entries
placed, and those skipped (R110). -/
def layStanding (g : Geometry) (f : Nat) : Nat → List (Nat × Nat) → Nat × List (Nat × Nat) × List Nat
  | c, [] => (c, [], [])
  | c, (i, n) :: rest =>
    match placeAt g f c n with
    | some p =>
      let r := layStanding g f (p + n) rest
      (r.1, (i, n) :: r.2.1, r.2.2)
    | none =>
      let r := layStanding g f c rest
      (r.1, r.2.1, i :: r.2.2)

/-- The cursor after packets of these slots, every one of them placed. -/
def layAll (g : Geometry) (f : Nat) : Nat → List Nat → Nat
  | c, [] => c
  | c, n :: rest => layAll g f ((placeAt g f c n).getD c + n) rest

/-- The entries due in the frame of t, with their slots (R115). -/
def State.dueSlots (t : State) : List (Nat × Nat) :=
  (dueEntries t.fmon.fsn t.stt).map (fun i => (i, slotsFor (t.stt.entries.getD i StandingEntry.empty).payload.length))

/-- The packets of the link frames that a step from s to t has opened. -/
def State.packetsTo (s t : State) : List (List Byte) :=
  (s.sentTo t).flatMap (fun o =>
    match o with
    | .linkFrame _ _ _ _ ps => ps
    | _ => [])

/-- The link frames that a step from s to t has opened. -/
def State.framesTo (s t : State) : List Output :=
  (s.sentTo t).filter (fun o =>
    match o with
    | .linkFrame .. => true
    | _ => false)

/-- Every SEND that APQ holds (R127). -/
def Apq.sends (q : Apq) : List Packet := q.fetching ++ classPackets q ++ q.awaiting

/-- The SENDs held but for one whose payload read is in progress, in R140's order. -/
def Apq.resting (q : Apq) : List Packet :=
  (if q.reading then q.fetching.tail else q.fetching) ++ classPackets q ++ q.awaiting

/-- The SEND whose payload read is in progress, with its cancel mark set (R140, R142). -/
def Apq.marked (st : Status) (q : Apq) : List Packet :=
  if q.reading then (q.fetching.take 1).map (fun p => { p with cancel := some st }) else []

/-- The commands that a walk's start or end, or a drop of the presence, may complete. -/
def State.heldHandles (s : State) : List Handle :=
  s.apq.sends.map (·.handle) ++ s.ses.startLink.toList ++ s.rwk.enumerate.toList ++ s.dcr.queue.map (·.handle)

/-- The commands that a frame start may complete. -/
def State.frameHandles (s : State) : List Handle :=
  s.ses.startLink.toList ++ s.ses.pendingQuiet.map (·.handle) ++ (s.bss.pending.map (·.handle)).toList
    ++ (s.ain.pending.map (·.handle)).toList ++ (s.pxp.pendingTransform.map (·.handle)).toList
    ++ (s.pxp.pendingFill.map (·.handle)).toList
    ++ (s.stt.entries.filterMap (·.pending)).map (·.handle)
    ++ (classPackets s.apq ++ s.apq.awaiting).map (·.handle)

/-- Whether the cadence work of the frame start from s to t leaves training nothing to keep: a change is announced, or one
takes effect in another way than as announced (R9, R108). -/
def State.restarts (s t : State) : Bool :=
  let fits := fun f => isCandidate t.fmon.geometry f
  match s.bss.announced with
  | some f => !(fits s.bss.factor && fits f)
  | none => !fits s.bss.factor || t.bss.announced.isSome

/-! ### Frame starts -/

/-- The rows that open a frame, with the TL_TERM sample that they carry. -/
def frameRow : Instr → Option Bool
  | .inputBoundary _ term => some term
  | .flywheelStart term => some term
  | .activityTimeout term => some term
  | _ => none

/-- What the commands waiting for a frame start complete with at it, s being the state before it and t the one after:
OK with the FSN and the words of section 12.5, where every handle is held once (R16, R109, R122, R148, R164, R165); that
SET-AUDIO's second word is 0 for the format off is log entry 41, and that a QUIET or RESUME carries the set after the work of
SES log entry 30. -/
structure State.FrameCompletes (s t : State) : Prop where
  cadence : ∀ p, s.bss.pending = some p → s.canComplete p.handle → s.completes t p.handle .ok t.fmon.fsn
    (word (t.bss.mode.code + 2 ^ 8 * t.bss.factor + 2 ^ 16 * t.bss.announced.getD 0)) = true
  audio : ∀ p, s.ain.pending = some p → s.canComplete p.handle → s.completes t p.handle .ok t.fmon.fsn
    (match p.format with
      | some f => word (f.channels + 2 ^ 4 * 1 + 2 ^ 6 * f.wordLength + 2 ^ 12 * f.rate)
      | none => 0) = true
  transform : ∀ p, s.pxp.pendingTransform = some p → s.canComplete p.handle →
    s.completes t p.handle .ok t.fmon.fsn (word (if p.range = .narrow then 1 else 0)) = true
  fill : ∀ p, s.pxp.pendingFill = some p → s.canComplete p.handle → s.completes t p.handle .ok t.fmon.fsn
    (word (p.fill.c0 + 2 ^ 10 * p.fill.c1 + 2 ^ 20 * p.fill.c2)) = true
  quiets : ∀ p ∈ s.ses.pendingQuiet, s.canComplete p.handle →
    s.completes t p.handle .ok t.fmon.fsn (word t.ses.quiet.code) = true
  standing : ∀ i < s.stt.entries.length, ∀ e, s.stt.entries[i]? = some e → ∀ p, e.pending = some p →
    s.canComplete p.handle → s.completes t p.handle .ok t.fmon.fsn
      (word (i + 2 ^ 8 * (e.version + 1).toNat + 2 ^ 16 * slotsFor p.payload.length + bitAt 24 p.enabled)) = true

/-- What every frame start that takes s to t does, whatever issues it, term being its sample of TL_TERM: the FSN
counts it (R29), the loss report of an input mode change ends with FORMAT_LOST and with AUTO_QUIET the FORMAT reason (R17, R35),
TL_TERM is sampled (R2), pending QUIETs and RESUMEs end (R16), the pending records of cadence,
audio, transform, fill colour and standing entries take effect and their commands complete (R109, R122, R123, R148,
R164, R165), PXP starts its counts anew and sets the frame source (R159, R166), the plan is built within the frame's
slots (R110 to R113), and the link frame is opened in the current geometry while the lanes are on (R7). -/
structure State.FrameOpened (s t : State) (term : Bool) : Prop where
  counted : t.fmon.fsn = s.fmon.fsn + 1
  lost : t.fmon.lossReport = false ∧ (s.fmon.lossReport = true →
    (s.ses.autoQuiet = true → t.ses.quiet.format = true)
    ∧ (s.listens 5 = true → s.reports t (.formatLost s.fmon.geometry.code .inputMode) = true))
  sampled : t.ses.lastTerm = term ∧ t.pins = { s.pins with term := term }
  quiets : t.ses.pendingQuiet = []
  cadence : t.bss.pending = none
    ∧ ∀ p, s.bss.pending = some p → t.bss.mode = p.mode ∧ t.bss.hostFactor = p.factor ∧ t.bss.reserve = p.reserve
  audio : t.ain.pending = none ∧ ∀ p, s.ain.pending = some p → t.ain.format = p.format
    ∧ t.ain.audio = (if p.format.isSome then .filling else .off) ∧ t.ain.capturing = false
  transform : t.pxp.pendingTransform = none
    ∧ ∀ p, s.pxp.pendingTransform = some p → t.pxp.transform = p.transform ∧ t.pxp.range = p.range
  fill : t.pxp.pendingFill = none ∧ ∀ p, s.pxp.pendingFill = some p → t.pxp.fill = p.fill
  standing : t.stt.entries.length = s.stt.entries.length ∧ (∀ e ∈ t.stt.entries, e.pending = none)
    ∧ ∀ i < s.stt.entries.length, ∀ e, s.stt.entries[i]? = some e →
      let taken : StandingEntry :=
        match e.pending with
        | some p => ⟨p.enabled, p.period, p.phase, p.kind, p.payload, e.version + 1, none⟩
        | none => e
      (2 ≤ i → t.stt.entries[i]? = some taken)
      ∧ (i < 2 → (t.stt.entries[i]?).map (fun x => { x with payload := taken.payload }) = some taken)
  completions : s.frameHandles.Nodup → s.FrameCompletes t
  source : t.pxp.source = sourceFor t.ses.session t.fmon.monitor
  picture : t.pxp.lineCount = 0 ∧ t.pxp.pixelCount = 0 ∧ t.pxp.run = [] ∧ t.pxp.picture = []
  plan : ∃ p, t.bss.plan = some p ∧ p.fsn = t.fmon.fsn ∧ p.factor = t.bss.factor
    ∧ p.slots = capacity t.fmon.geometry t.bss.factor ∧ p.used ≤ p.slots ∧ p.quiet = decide (t.ses.session = .quiet)
  sent : s.out <+: t.out ∧ s.framesTo t =
      (if t.ses.lanes then
        [.linkFrame t.fmon.fsn (linkContent t) t.bss.factor t.fmon.geometry (s.packetsTo t)] else [])
    ∧ (t.ses.session = .training → s.packetsTo t = [])

end Sys2Proof.Machine
end

