-- ==== Sys2Proof/WellFormed.lean ====
section
/-!
DEFINITION. What a command's operands must look like to stand for something that can arrive at the part: the
shapes that the types leave open. A meaning does not depend on it; the statements about encodings do.
-/

namespace Sys2Proof

/-- No more words come before a cut than there are. -/
def PixelWords.wellFormed (w : PixelWords) : Bool := decide (w.old ≤ w.words.length ∧ w.early ≤ w.words.length)

/-- The checks, constructor by constructor; a row that is not named has no operand to check. -/
def Instr.wellFormed : Instr → Bool
  -- nine coefficients and three offsets (section 12.4)
  | .loadTransform _ coeffs offsets _ => coeffs.length == 9 && offsets.length == 3
  -- two halves for each of the four data lines (R146)
  | .sampleGroupComplete halves => halves.length == 8
  -- both levels take time in a complete cycle (R23)
  | .inputBoundary (.sync _ _ high low _) _ => decide (0 < high) && decide (0 < low)
  | .lineStart edge high low => decide (0 < high) && decide (0 < low) && edge.run.wellFormed
  -- PX_DE is asserted up to its negation (R159)
  | .activeRunEnd run => !run.words.isEmpty && run.wellFormed
  -- a code is four pixel periods, of which it may share its first with the code before (R160)
  | .timingCode words _ => decide (2 ≤ words.words.length) && words.wellFormed
  -- a frame has a byte (R188)
  | .sidebandFrameReceived frame => !frame.isEmpty
  -- 1 to 32 elements of 8 bytes (R63)
  | .denyListReadEnd (some data) => decide (0 < data.length ∧ data.length ≤ 256 ∧ data.length % 8 = 0)
  -- 1 to 112 bytes (R119, R126)
  | .standingPayloadReadEnd (some data) => decide (0 < data.length ∧ data.length ≤ 112)
  | .sendPayloadReadEnd (some data) => decide (0 < data.length ∧ data.length ≤ 112)
  | _ => true

end Sys2Proof
end

