-- ==== Sys2Proof/Certificates/Slice0/Obligations.lean ====
section
/-!
DEFINITION. The statements about the 2610, chapter by chapter. A row's statement is an equation: from a state with
its hypotheses the row answers the next state that stands there, written out, so that it says what the row
changes and that nothing else changes.
-/

open Sys2Proof Sys2Proof.Machine

/-! ### The block as a whole -/

/-- A step runs the command at the front of the queue on the state with the queue's rest. -/
def Obligations.StepTakesFront : Prop :=
  ∀ (s : State) (c : Instr) (cs : List Instr), s.pending = c :: cs →
    step s = exec c { s with pending := cs }

/-- With no command waiting, a step is the row that the part's own state calls for, else the row of the one timer
that has run out, else one reference tick (the model's choice: log entry 2). -/
def Obligations.EmptyQueueStep : Prop :=
  ∀ s : State, s.pending = [] →
    (∀ i, readyRow s = some i → step s = exec i s)
    ∧ (readyRow s = none →
        (∀ i, timersDue s = [i] → step s = exec i s)
        ∧ (timersDue s = [] → step s = .next { s with now := s.now + 1 }))

/-- Every command runs to a next state: it never stops. It leaves the queue alone, nothing that it handed over
waits, time does not go back, and nothing that was sent is unsent. -/
def Obligations.EveryCommandCompletes : Prop :=
  ∀ (i : Instr) (s : State), ∃ t, exec i s = .next t ∧ t.pending = s.pending ∧ t.handed = []
    ∧ s.now ≤ t.now ∧ s.out <+: t.out ∧ s.hif.nextId ≤ t.hif.nextId

/-- The record that a well-formed host command is written as reads back as that command, every field at every value (section
12.4). The 16 bytes of a completion record and of an event record of every kind, field by field, and the codes of the
enumerations that records hold (R186, section 12.5). -/
def Obligations.RecordRoundTrip : Prop :=
  (∀ (i : Instr) (r : CommandRecord), i.wellFormed = true → encodeRecord i = some r → decodeRecord r = some i)
  ∧ (∀ (h : Handle) (phase : Bool) (st : Status) (w1 w2 : Word), laidOut (completionBytes h phase st w1 w2) 16
      [(0, 4, h.tag.toNat), (4, 1, h.ring % 4 + (if phase then 128 else 0)), (5, 1, st.code), (6, 2, h.index),
        (8, 4, w1.toNat), (12, 4, w2.toNat)])
  ∧ (∀ (fsn : Fsn) (phase : Bool) (e : Event),
      let report := fun (r : WalkReport) =>
        r.outcome.code + 2 ^ 3 * r.warnings + 2 ^ 9 * r.count + 2 ^ 16 * r.generation.toNat
      let body : Nat × List (Nat × Nat × Nat) := match e with
        | .presenceUp => (1, [])
        | .presenceDown => (2, [])
        | .sessionChanged new old cause q => (3, [(1, 1, new.code), (2, 1, old.code), (3, 1, cause.code), (8, 1, q.code)])
        | .formatLocked g => (4, [(1, 3, g.rate), (8, 8, g.ht + 2 ^ 13 * g.ha + 2 ^ 26 * g.vt + 2 ^ 38 * g.va
            + (if g.interlaced then 2 ^ 50 else 0) + 2 ^ 56 * g.code)])
        | .formatLost code cause => (5, [(1, 1, code), (2, 1, cause.code)])
        | .walkStarted kind starter generation => (6, [(1, 1, kind.code), (2, 1, starter.code), (8, 2, generation.toNat)])
        | .walkDone kind starter r => (7, [(1, 1, kind.code), (2, 1, starter.code), (8, 4, report r), (12, 4, r.check.toNat)])
        | .tileNotice i kind arg serial => (8, [(1, 1, i), (2, 1, kind.toNat), (3, 1, arg.toNat), (8, 6, serial.toNat)])
        | .tileSuspect i miss serial => (9, [(1, 1, i), (2, 1, miss), (8, 6, serial.toNat)])
        | .tileRecovered i miss serial => (10, [(1, 1, i), (2, 1, miss), (8, 6, serial.toNat)])
        | .capacityShort skipped factor needed d slots => (11, [(1, 1, if skipped then 1 else 0), (2, 1, factor),
            (3, 1, needed), (8, 4, d), (12, 4, slots)])
        | .cadenceChanged old new mode d => (12, [(1, 1, old), (2, 1, new), (3, 1, mode.code), (8, 4, d)])
        | .audioOverflow audio channels rate => (13, [(1, 1, audio.code), (2, 1, channels), (8, 4, rate)])
        | .audioRateMismatch left declared measured => (14, [(1, 1, left.code), (8, 4, declared), (12, 4, measured)])
        | .audioRateRestored declared measured => (15, [(8, 4, declared), (12, 4, measured)])
        | .eventOverrun n => (16, [(8, 4, n)])
      laidOut (eventBytes fsn phase e) 16
        ([(0, 1, body.1 + (if phase then 128 else 0)), (4, 4, fsn.toNat)] ++ body.2) ∧ e.kind = body.1)
  ∧ [Status.ok, .truncated, .busy, .badParam, .unknownCommand, .wrongRing, .exists_, .notReady, .aborted, .linkDown,
      .targetGone, .expired, .cancelled, .notDelivered, .noResponse, .superseded, .tooLate, .notFound, .hostReadError,
      .hostWriteError, .descriptorBad, .trainingFailed, .noTermination, .rootDenied].map Status.code = List.range 24
  ∧ [SessionState.detached, .settling, .waiting, .walking, .ready, .training, .carrying, .quiet, .faulted].map
      SessionState.code = List.range 9
  ∧ [SessionCause.presenceDetected, .presenceStable, .presenceLost, .walkBegin, .walkEnd, .hostStart, .hostStop, .linkLocked,
      .trainingTimeout, .termination, .rootCheck, .rootLost, .rootDenied, .quietEnter, .quietLeave].map
      SessionCause.code = List.range 15
  ∧ (∀ q : QuietSet, q.code = (if q.host then 1 else 0) + (if q.format then 2 else 0) + (if q.cadence then 4 else 0))
  ∧ [LossCause.changed, .invalid, .noSignal, .inputMode].map LossCause.code = List.range 4
  ∧ [WalkKind.full, .refresh].map WalkKind.code = List.range 2
  ∧ [WalkStarter.enumerate, .autoEnum, .autoRefresh, .apply].map WalkStarter.code = List.range 4
  ∧ [WalkOutcome.ok, .depthLimit, .countLimit, .noRoot, .aborted, .linkDown].map WalkOutcome.code = List.range 6
  ∧ [CadenceMode.auto, .floor, .fixed].map CadenceMode.code = List.range 3
  ∧ [AudioState.off, .filling, .flowing, .halted].map AudioState.code = List.range 4

/-- The take of a record runs the row of the command that the record spells (R177; log entry 1). A code that names no
command completes with UNKNOWN_COMMAND, a known command on another ring than its own with WRONG_RING, both at once and
with both result words 0; nothing but the take and the completion happens (R177). -/
def Obligations.CommandTakes : Prop :=
  (∀ (i : Instr) (r : CommandRecord) (s : State), decodeRecord r = some i →
    exec (.commandTake (some r)) s = exec i s)
  ∧ (∀ (s : State) (r : Nat) (g : Ring) (c : RecordRing), s.Fetching r g c →
    (∀ rec : CommandRecord, decodeRecord rec = none →
      exec (.commandTake (some rec)) s = .next
        ((s.taken r g (recordTag rec)).completed c (s.takenAs r g (recordTag rec)) .unknownCommand 0 0))
    ∧ (∀ (i : Instr) (ring : Nat) (tag : HostTag), hostCommand i = some (ring, tag) → ring ≠ r →
      exec i s = .next ((s.taken r g tag).completed c (s.takenAs r g tag) .wrongRing 0 0)))

/-! ### What every step keeps -/

/-- R7: the lanes are on in TRAINING, CARRYING and QUIET and off in every other state; every step keeps it. -/
def Obligations.LanesFollowSession : Prop :=
  ∀ s t : State, s.lanesAgree → step s = .next t → t.lanesAgree

/-- Every step keeps what the session never contradicts: R2, R8, R11, R12. -/
def Obligations.SessionStaysShaped : Prop :=
  ∀ s t : State, s.sessionShaped → step s = .next t → t.sessionShaped

/-- Every factor held is 1, 2 or 4, and every step keeps it (R103, R108). Every step keeps the awaiting-ack list
at 16 packets at most, the pool at 64 buffers with the fetch from DISPATCH, and the FIFO at 8192 groups (R127,
R128, R149), and the plan of the frame in progress within the slots of its frame (R110 to R113). -/
def Obligations.BoundsStayKept : Prop :=
  (∀ s t : State, s.factorsLegal → step s = .next t → t.factorsLegal)
  ∧ (∀ s t : State, step s = .next t →
      (s.awaitingBounded → t.awaitingBounded) ∧ (s.poolBounded → t.poolBounded) ∧ (s.fifoBounded → t.fifoBounded)
      ∧ (s.planFits → t.planFits))

/-- Every step keeps the 64 entries of the roster, a VACANT one with the values of a VACANT entry (R60). -/
def Obligations.RosterStaysShaped : Prop :=
  ∀ s t : State, s.rosterShaped → step s = .next t → t.rosterShaped

/-- R176: commands taken and not completed plus completion records written and not released never exceed the
completion ring's size minus one, and every step keeps it; so with the event ring and its records (R180). -/
def Obligations.RecordRingsStayKept : Prop :=
  ∀ s t : State, step s = .next t → (s.creditsKept → t.creditsKept) ∧ (s.eventsKept → t.eventsKept)

/-- The machine right after reset has what every step keeps. -/
def Obligations.ResetHoldsInvariants : Prop :=
  State.reset.lanesAgree ∧ State.reset.sessionShaped ∧ State.reset.factorsLegal ∧ State.reset.rosterShaped
    ∧ State.reset.awaitingBounded ∧ State.reset.poolBounded ∧ State.reset.fifoBounded ∧ State.reset.creditsKept
    ∧ State.reset.eventsKept ∧ State.reset.planFits

/-! ### Resets (R184, R185 and the reset rules of the chapters) -/

/-- R185: the function reset and the power-on reset put every block to its reset values, and no command in
flight receives a completion; the lanes, if they were on, go off. The power-on reset also resets the PCIe
configuration space. What is not a block's state stays: the time, the pins, what was sent (log entry 6). A copy to host
memory in progress leaves the part of its buffer that it has written, which is a free value (log entry 8). The reset values
of the chapter heads, block by block. -/
def Obligations.FullResets : Prop :=
  (∀ s : State, ∃ t,
      exec .functionReset s = .next t
      ∧ exec .powerOnReset s = .next { t with pins := { s.pins with msiEnable := false } }
      ∧ t.ses = Ses.reset ∧ t.fmon = Fmon.reset s.now ∧ t.sbc = Sbc.reset ∧ t.rwk = Rwk.reset ∧ t.dcr = Dcr.reset
      ∧ t.bss = Bss.reset ∧ t.stt = Stt.reset ∧ t.apq = Apq.reset ∧ t.ain = Ain.reset ∧ t.pxp = Pxp.reset
      ∧ t.hif = Hif.reset s.hif.nextId ∧ t.pins = s.pins ∧ t.now = s.now
      ∧ t.out = s.out ++ s.stoppedWrites ++ (if s.ses.lanes then [.lanes false] else []))
  ∧ ((State.reset.ses.session = .detached ∧ State.reset.ses.lanes = false ∧ State.reset.ses.quiet = ⟨false, false, false⟩
      ∧ State.reset.ses.autoEnum = true ∧ State.reset.ses.autoRefresh = true ∧ State.reset.ses.autoQuiet = true
      ∧ State.reset.ses.linkFrames = 0 ∧ State.reset.ses.cursor = 63 ∧ State.reset.ses.lastTerm = false)
    ∧ (State.reset.fmon.monitor = .noSignal ∧ State.reset.fmon.flyPeriod = 450000 ∧ State.reset.fmon.fsn = 0
      ∧ State.reset.fmon.geometry = ⟨1, 2200, 1920, 1125, 1080, false, 60000, 0⟩
      ∧ State.reset.fmon.loadable = List.replicate 8 none)
    ∧ (State.reset.sbc.channel = .free ∧ State.reset.sbc.nextSeq = 0 ∧ State.reset.sbc.poll = .idle)
    ∧ (State.reset.rwk.roster = List.replicate 64 Entry.vacant ∧ State.reset.rwk.generation = 0
      ∧ State.reset.rwk.denyList = [] ∧ State.reset.rwk.walking = false)
    ∧ (State.reset.dcr.cache = [] ∧ State.reset.dcr.queue = [])
    ∧ (State.reset.bss.mode = .auto ∧ State.reset.bss.factor = 1 ∧ State.reset.bss.reserve = 8
      ∧ State.reset.bss.announced = none ∧ State.reset.bss.plan = none)
    ∧ (State.reset.stt.entries.length = 16 ∧ State.reset.apq.starve = 0 ∧ poolFree State.reset.apq = 64)
    ∧ (State.reset.ain.audio = .off ∧ State.reset.ain.fifo = [])
    ∧ (State.reset.pxp.mode = .p24s ∧ State.reset.pxp.method = .repeated ∧ State.reset.pxp.range = .full
      ∧ State.reset.pxp.transform = ⟨[4096, 0, 0, 0, 4096, 0, 0, 0, 4096], [0, 0, 0]⟩
      ∧ State.reset.pxp.fill = ⟨0, 0, 0⟩)
    ∧ (State.reset.hif.state = .disabled ∧ State.reset.hif.enable = false ∧ State.reset.hif.overrun = 0
      ∧ State.reset.hif.comp = none ∧ State.reset.hif.event = none ∧ takenCount State.reset.hif = 0))

/-- The interface reset resets HIF, and every other block by its own rule; PE_RST# acts so and also resets the PCIe
configuration space. A copy to host memory in progress stops, and the part of its buffer already written stays: how
much of it is a free value (log entry 8). A READ-BLOCK in flight goes on, its outcome unwanted (R184, R86, R99, R125,
R145). -/
def Obligations.InterfaceResets : Prop :=
  ∀ s : State, s.handed = [] → ∃ t,
    exec .ifReset s = .next t
    ∧ exec .peRst s = .next { t with pins := { s.pins with msiEnable := false } }
    ∧ t.hif = Hif.reset s.hif.nextId
    ∧ t.ses = s.ses ∧ t.fmon = s.fmon ∧ t.bss = s.bss ∧ t.ain = s.ain ∧ t.pxp = s.pxp
    ∧ t.pins = s.pins ∧ t.now = s.now ∧ t.out = s.out ++ s.stoppedWrites
    ∧ t.choices = s.choices + (copiesRunning s).length
    ∧ t.rwk = { s.rwk with denyWork := [], denyReading := false, copies := [] }
    ∧ t.stt = { s.stt with work := [], reading := false }
    ∧ t.apq.fetching = [] ∧ t.apq.urgent = [] ∧ t.apq.normal = [] ∧ t.apq.bulk = [] ∧ t.apq.awaiting = []
    ∧ t.apq.starve = 0
    ∧ t.dcr.queue = [] ∧ t.dcr.context = none ∧ t.dcr.copying = none
    ∧ t.dcr.removal = none
    ∧ t.dcr.cache = s.dcr.cache.filter (fun e => e.valid && !decide (s.dcr.removal = some e.serial))
    ∧ t.sbc.inFlight = s.sbc.inFlight.map (fun x => if x.requester = .dr then { x with orphan := true } else x)
    ∧ t.sbc.channel = s.sbc.channel ∧ t.sbc.nextSeq = s.sbc.nextSeq ∧ t.sbc.acReq = none ∧ t.sbc.drReq = none
    ∧ t.sbc.wkReq = s.sbc.wkReq ∧ t.sbc.lcReq = s.sbc.lcReq ∧ t.sbc.apReq = s.sbc.apReq

/-! ### The register window and the bootstrap (sections 11.1, 11.2) -/

/-- ENABLE from 0 to 1 in DISABLED starts the bootstrap read, unless the bootstrap address is not a multiple of
32, which sets the config-error flag; in another state, or with a read in progress, it alters the bit. ENABLE
from 1 to 0 takes RUNNING to DRAINING and else alters the bit (R168). DRAINING with the taken count at 0 becomes
DISABLED, and the rings and the overrun count are forgotten, at the same moment where the count is 0 already; with a
command in flight it stays, and the row DRAIN_COMPLETE is the moment at which the last one has gone (R170; that the
row is the part's own next step is log entry 2). -/
def Obligations.EnableAndDraining : Prop :=
  (∀ s : State, s.handed = [] →
      (s.hif.enable = false →
        (s.hif.state = .disabled → s.hif.bootReading = false →
          ((bootAddress s.hif).toNat % 32 = 0 →
            exec .enableSet s = .next { s with
              hif := { s.hif with enable := true, configError := false, bootReading := true }
              out := s.out ++ [.hostRead (bootAddress s.hif) 32] })
          ∧ ((bootAddress s.hif).toNat % 32 ≠ 0 →
            exec .enableSet s = .next { s with hif := { s.hif with enable := true, configError := true } }))
        ∧ ((s.hif.state ≠ .disabled ∨ s.hif.bootReading = true) →
            exec .enableSet s = .next { s with hif := { s.hif with enable := true } }))
      ∧ (s.hif.enable = true →
        (s.hif.state = .running → takenCount s.hif ≠ 0 →
          exec .enableClear s = .next { s with hif := { s.hif with enable := false, state := .draining } })
        ∧ (s.hif.state = .running → takenCount s.hif = 0 →
          exec .enableClear s = .next { s with hif := { s.hif with
            enable := false, state := .disabled, rings := [none, none, none], comp := none, event := none
            overrun := 0 } })
        ∧ (s.hif.state ≠ .running →
          exec .enableClear s = .next { s with hif := { s.hif with enable := false } })))
  ∧ (∀ s : State, s.handed = [] → s.hif.state = .draining →
      (takenCount s.hif = 0 → exec .drainComplete s = .next { s with hif := { s.hif with
        state := .disabled, rings := [none, none, none], comp := none, event := none, overrun := 0 } })
      ∧ (takenCount s.hif ≠ 0 → exec .drainComplete s = .next s))

/-- The end of the bootstrap read acts with ENABLE as it then stands: a valid record takes the state to RUNNING
with CONTROL and the completion ring set up, or leaves it as it is with ENABLE clear; an invalid one sets the
config-error flag; a failed read is fatal (R168, R169). What a bootstrap record gives: CONTROL empty at its base
and size, and the completion ring at index 0 with phase 1. It is valid exactly when both sizes are powers of two
from 16 to 1024 and both bases multiples of 64 (R169). -/
def Obligations.Bootstrap : Prop :=
  (∀ s : State, s.handed = [] → s.hif.bootReading = true → s.hif.state = .disabled →
      (∀ (rec : BootRecord) (g : Ring) (c : RecordRing), bootRings rec = some (g, c) →
        (s.hif.enable = true → exec (.bootstrapReadEnd (some rec)) s = .next { s with hif := { s.hif with
          bootReading := false, state := .running, rings := [some g, none, none], comp := some c, lastRing := 2
          fetch := none, inFlight := [], event := none, overrun := 0 } })
        ∧ (s.hif.enable = false →
          exec (.bootstrapReadEnd (some rec)) s = .next { s with hif := { s.hif with bootReading := false } }))
      ∧ (∀ rec : BootRecord, bootRings rec = none →
        exec (.bootstrapReadEnd (some rec)) s =
          .next { s with hif := { s.hif with bootReading := false, configError := true } })
      ∧ exec (.bootstrapReadEnd none) s =
          .next ({ s with hif := { s.hif with bootReading := false } }.fatalNow .bootRead))
  ∧ (∀ (rec : BootRecord),
      let b0 : Addr := rec.extractLsb' 0 64
      let n0 := (rec.extractLsb' 64 16).toNat
      let b1 : Addr := rec.extractLsb' 128 64
      let n1 := (rec.extractLsb' 192 16).toNat
      (powerSize 1024 n0 ∧ powerSize 1024 n1 ∧ b0.toNat % 64 = 0 ∧ b1.toNat % 64 = 0 →
        bootRings rec = some (⟨b0, n0, 0, 0⟩, ⟨b1, n1, 0, true, 0⟩))
      ∧ (¬ (powerSize 1024 n0 ∧ powerSize 1024 n1 ∧ b0.toNat % 64 = 0 ∧ b1.toNat % 64 = 0) → bootRings rec = none))

/-- The registers that hold what is written: BOOT_LO and BOOT_HI keep it, IDENT and STATUS ignore it, IRQ_EN keeps
it and brings an MSI where CAUSE is not empty, CAUSE loses the bits written as 1; and what a read of each
register returns: CONTROL with the reset bits 0, STATUS with HIF's state, the fatal cause, the config-error flag, the
session state, PRES and TERM, CAUSE with its three bits (R171, R181, sections 11.2 and 12.2). -/
def Obligations.RegisterWrites : Prop :=
  ∀ (s : State) (v : Word), s.handed = [] →
    exec (.registerWrite .bootLo v) s = .next { s with hif := { s.hif with bootLo := v } }
    ∧ exec (.registerWrite .bootHi v) s = .next { s with hif := { s.hif with bootHi := v } }
    ∧ exec (.registerWrite .ident v) s = .next s
    ∧ exec (.registerWrite .status v) s = .next s
    ∧ readRegister { s with hif := { s.hif with bootLo := v } } 0x10 = some v
    ∧ readRegister { s with hif := { s.hif with bootHi := v } } 0x14 = some v
    ∧ readRegister s 0x00 = some 0x2610
    ∧ readRegister s 0x04 = some (BitVec.ofNat 32 (bitAt 0 s.hif.enable + bitAt 1 s.hif.irqEn))
    ∧ readRegister s 0x08 = some (BitVec.ofNat 32 (s.hif.state.code + 2 ^ 4 * s.hif.fatalCause.code
        + bitAt 7 s.hif.configError + 2 ^ 8 * s.ses.session.code + bitAt 12 s.ses.presence + bitAt 13 s.ses.lastTerm))
    ∧ readRegister s 0x0C = some (BitVec.ofNat 32
        (bitAt 0 s.hif.causeCompletion + bitAt 1 s.hif.causeEvent + bitAt 2 s.hif.causeFatal))
    ∧ readRegister s 0x18 = some s.hif.producerReg ∧ readRegister s 0x1C = some s.hif.consumerReg
    ∧ exec (.irqEn false) s = .next { s with hif := { s.hif with irqEn := false } }
    ∧ exec (.irqEn true) s = .next { s with
        hif := { s.hif with irqEn := true }
        out := s.out ++ (if s.hif.irqEn = false ∧ s.pins.msiEnable = true
          ∧ (s.hif.causeCompletion = true ∨ s.hif.causeEvent = true ∨ s.hif.causeFatal = true) then [.msi] else []) }
    ∧ exec (.cause v) s = .next { s with hif := { s.hif with
        causeCompletion := s.hif.causeCompletion && !v.getLsbD 0
        causeEvent := s.hif.causeEvent && !v.getLsbD 1
        causeFatal := s.hif.causeFatal && !v.getLsbD 2 } }

/-- A write to PRODUCER in RUNNING or DRAINING that names a present ring and an index below its size moves the
ring's producer index; another write is ignored. That a read of the register returns the
value of an ignored write too is the model's choice (R172; log entry 17). A write to
CONSUMER naming the completion ring moves the host consumer index forward to an index that lies up to the write
index, and is ignored otherwise; naming the event ring it does the same, and EVENT_OVERRUN goes into the first
place freed if events were lost; with the ring absent, or outside RUNNING and DRAINING, only the value that a read returns
changes (R178, R180; log entry 17). -/
def Obligations.IndexWrites : Prop :=
  (∀ (s : State) (ring : BitVec 2) (index : BitVec 10), s.handed = [] →
      let v := word (index.toNat + 2 ^ 16 * ring.toNat)
      (∀ g, writesRecords s.hif = true → ringAt s.hif ring.toNat = some g → index.toNat < g.size →
        exec (.producer ring index) s = .next { s with hif := { s.hif with
          producerReg := v, rings := s.hif.rings.set ring.toNat (some { g with prod := index.toNat }) } })
      ∧ ((writesRecords s.hif = false ∨ ringAt s.hif ring.toNat = none
          ∨ ∃ g, ringAt s.hif ring.toNat = some g ∧ g.size ≤ index.toNat) →
        exec (.producer ring index) s = .next { s with hif := { s.hif with producerReg := v } }))
  ∧ (∀ (s : State) (index : BitVec 10), s.handed = [] →
      ((writesRecords s.hif = false ∨ s.hif.comp = none) → exec (.completionRelease index) s =
        .next { s with hif := { s.hif with consumerReg := word index.toNat } })
      ∧ ((writesRecords s.hif = false ∨ s.hif.event = none) → exec (.eventRelease index) s =
        .next { s with hif := { s.hif with consumerReg := word (index.toNat + 2 ^ 16) } }))
  ∧ (∀ (s : State) (index : BitVec 10) (r : RecordRing), s.handed = [] → writesRecords s.hif = true →
      let good := index.toNat < r.size ∧ (index.toNat + r.size - r.host) % r.size ≤ (r.write + r.size - r.host) % r.size
      let w0 := word index.toNat
      let w1 := word (index.toNat + 2 ^ 16)
      let r1 : RecordRing := { r with host := index.toNat }
      let s1 : State := { s with hif := { s.hif with consumerReg := w1, event := some r1 } }
      (s.hif.comp = some r →
        (good → exec (.completionRelease index) s = .next { s with hif := { s.hif with
          consumerReg := w0, comp := some r1 } })
        ∧ (¬ good → exec (.completionRelease index) s = .next { s with hif := { s.hif with consumerReg := w0 } }))
      ∧ (s.hif.event = some r →
        (good → (s.hif.overrun = 0 ∨ index.toNat = r.host) → exec (.eventRelease index) s = .next s1)
        ∧ (good → 0 < s.hif.overrun → index.toNat ≠ r.host → r.inRange →
          exec (.eventRelease index) s = .next { s with
            hif := { s.hif with consumerReg := w1, event := some r1.advance, overrun := 0, causeEvent := true }
            out := s.out ++ .hostWrite r1.slot (eventBytes s.fmon.fsn r1.phase (.eventOverrun s.hif.overrun))
              :: s.msiDue })
        ∧ (¬ good → exec (.eventRelease index) s = .next { s with hif := { s.hif with consumerReg := w1 } })))

/-! ### Events (R180) -/

/-- The three cases of R180 for an event posted to HIF: dropped uncounted where nothing is written, no event ring is
configured or the mask bit is clear; counted where the ring holds size − 1 unreleased records; else written at
the write index, EVENT_OVERRUN before it if events were lost. CONFIGURE-EVENTS sets up an event ring that starts empty, or
with the keep-ring flag the mask alone; the overrun count is kept (R179), and EVENT_OVERRUN tells
of it just before the next event written, not at the take of CONFIGURE-EVENTS (log entry 16). Mask bits
that no event kind has are ignored, and are 0 in the second result word (R186). -/
def Obligations.EventRing : Prop :=
  (∀ (s : State) (e : Event) (r : RecordRing),
    ((writesRecords s.hif = false ∨ s.hif.event = none ∨ s.hif.mask.getLsbD e.kind = false) → writeEvent e s = s)
    ∧ (writesRecords s.hif = true → s.hif.event = some r → s.hif.mask.getLsbD e.kind = true →
      (r.unreleased = r.size - 1 →
        writeEvent e s = { s with hif := { s.hif with overrun := min wordMax (s.hif.overrun + 1) } })
      ∧ (r.unreleased < r.size - 1 → s.hif.overrun = 0 →
        writeEvent e s = { s with
          hif := { s.hif with event := some r.advance, causeEvent := true }
          out := s.out ++ .hostWrite r.slot (eventBytes s.fmon.fsn r.phase e) :: s.msiDue })
      ∧ (r.unreleased < r.size - 1 → 0 < s.hif.overrun →
        writeEvent e s = writeEvent e { s with
          hif := { s.hif with event := some r.advance, causeEvent := true, overrun := 0 }
          out := s.out ++ .hostWrite r.slot (eventBytes s.fmon.fsn r.phase (.eventOverrun s.hif.overrun))
            :: s.msiDue })))
  ∧ (∀ (s : State) (g : Ring) (c : RecordRing) (tag : HostTag) (base : Addr) (size : Half) (mask : Word),
    s.Fetching controlRing g c →
    let h := s.takenAs controlRing g tag
    let s1 := s.taken controlRing g tag
    let good := powerSize 256 size.toNat ∧ base.toNat % 64 = 0
    let kinds : Word := BitVec.ofNat 32 (((List.range 17).tail.map (2 ^ ·)).sum)
    let placed := mask &&& kinds
    (s.hif.event = none → exec (.configureEvents tag base size true mask) s =
      .next (s1.completed c h .notReady 0 0))
    ∧ (∀ r, s.hif.event = some r → exec (.configureEvents tag base size true mask) s =
      .next ({ s1 with hif := { s1.hif with mask := placed } }.completed c h .ok (word r.size) placed))
    ∧ (¬ good → exec (.configureEvents tag base size false mask) s = .next (s1.completed c h .badParam 0 0))
    ∧ (good → exec (.configureEvents tag base size false mask) s =
      .next ({ s1 with hif := { s1.hif with
        event := some ⟨base, size.toNat, 0, true, 0⟩, mask := placed } }.completed c h .ok (word size.toNat) placed)))

/-! ### Command rings (sections 11.3 to 11.7) -/

/-- The fetch arbiter serves the first eligible ring after the last ring served, while HIF is RUNNING with no fetch in
progress and a credit free; a ring is eligible that is present and not empty, DISPATCH only while the pool has a
free buffer. Otherwise nothing is fetched (R175). A failed fetch or record write takes HIF to FATAL with its cause; a
second failure leaves the first cause in place (R182). That a record whose write fails counts as written, with the write
index, CAUSE and the credit as they stand after it, is the model's choice (log entry 19). -/
def Obligations.FetchesAndFailures : Prop :=
  (∀ s : State, s.handed = [] →
    let ok := fun r => ∃ g, ringAt s.hif r = some g ∧ g.prod ≠ g.cons ∧ (r = dispatchRing → 0 < poolFree s.apq)
    let a := (s.hif.lastRing + 1) % 3
    let b := (s.hif.lastRing + 2) % 3
    let c := s.hif.lastRing % 3
    (s.hif.state = .running → s.hif.fetch = none → 0 < freeCredits s.hif →
      ∀ (r : Nat) (g : Ring), ringAt s.hif r = some g → ok r →
        (r = a ∨ (r = b ∧ ¬ ok a) ∨ (r = c ∧ ¬ ok a ∧ ¬ ok b)) →
        exec .fetchBegin s = .next { s with
          hif := { s.hif with fetch := some r, lastRing := r }
          out := s.out ++ [.hostRead (g.base + BitVec.ofNat 64 (64 * g.cons)) 64] })
    ∧ ((s.hif.state ≠ .running ∨ s.hif.fetch.isSome = true ∨ freeCredits s.hif = 0
        ∨ (¬ ok a ∧ ¬ ok b ∧ ¬ ok c)) → exec .fetchBegin s = .next s))
  ∧ (∀ s : State, s.handed = [] →
    (writesRecords s.hif = true →
      (s.hif.fetch = some controlRing → exec (.commandTake none) s = .next (s.fatalNow .ctrlFetch))
      ∧ (s.hif.fetch = some streamRing → exec (.commandTake none) s = .next (s.fatalNow .streamFetch))
      ∧ (s.hif.fetch = some dispatchRing → exec (.commandTake none) s = .next (s.fatalNow .dispatchFetch))
      ∧ (s.hif.comp.isSome = true →
        exec (.recordWriteFailure .completion) s = .next (s.fatalNow .completionWrite))
      ∧ (s.hif.event.isSome = true → exec (.recordWriteFailure .event) s = .next (s.fatalNow .eventWrite)))
    ∧ (s.hif.state = .fatal → ∀ k,
        exec (.recordWriteFailure k) s = .next s ∧ exec (.commandTake none) s = .next s))

/-- CREATE-RING checks the ring id, then whether the ring is present, then size and base, and else makes the
ring present and empty (R173). DESTROY-RING forgets ring 1 or 2 unless a command from it is still in flight, and
reports the consumer index at which the ring stopped (R174). -/
def Obligations.RingCommands : Prop :=
  (∀ (s : State) (g : Ring) (c : RecordRing) (tag : HostTag) (id : Byte) (base : Addr) (size : Half),
      s.Fetching controlRing g c →
      let h := s.takenAs controlRing g tag
      let s1 := s.taken controlRing g tag
      let answers := fun st => exec (.createRing tag id base size) s = .next (s1.completed c h st 0 0)
      let good := powerSize 1024 size.toNat ∧ base.toNat % 64 = 0
      (2 < id.toNat → answers .badParam)
      ∧ (id.toNat ≤ 2 → (ringAt s1.hif id.toNat).isSome = true → answers .exists_)
      ∧ (id.toNat ≤ 2 → ringAt s1.hif id.toNat = none → ¬ good → answers .badParam)
      ∧ (id.toNat ≤ 2 → ringAt s1.hif id.toNat = none → good →
        exec (.createRing tag id base size) s =
          .next ({ s1 with hif := { s1.hif with
            rings := s1.hif.rings.set id.toNat (some ⟨base, size.toNat, 0, 0⟩) } }.completed c h .ok
              (word id.toNat) (word size.toNat))))
  ∧ (∀ (s : State) (g : Ring) (c : RecordRing) (tag : HostTag) (id : Byte), s.Fetching controlRing g c →
      let h := s.takenAs controlRing g tag
      let s1 := s.taken controlRing g tag
      let answers := fun st => exec (.destroyRing tag id) s = .next (s1.completed c h st 0 0)
      ((id = 0 ∨ 2 < id.toNat) → answers .badParam)
      ∧ (id ≠ 0 → id.toNat ≤ 2 →
        (ringAt s.hif id.toNat = none → answers .notFound)
        ∧ (∀ x, ringAt s.hif id.toNat = some x →
          ((∃ k ∈ s.hif.inFlight, k.ring = id.toNat) → answers .busy)
          ∧ ((∀ k ∈ s.hif.inFlight, k.ring ≠ id.toNat) →
            exec (.destroyRing tag id) s =
              .next ({ s1 with hif := { s1.hif with rings := s1.hif.rings.set id.toNat none } }.completed c h .ok
                (word id.toNat) (word x.cons))))))

/-- The 64 bytes of the status record, field by field (section 12.6). READ-STATUS fixes them at the take and completes when they are written, with the
FSN and the free credits in them, or with HOST_WRITE_ERROR (R183). A good copy is one write at its end, and a failed one
has written a part of the record from its start, which is a free value (log entry 8); the result words of
HOST_WRITE_ERROR, 0 and 0, are log entry 40's. -/
def Obligations.StatusReads : Prop :=
  ∀ s : State,
    let plan : List (Nat × Nat × Nat) := match s.bss.plan with
      | none => []
      | some p => [(20, 4, p.fsn.toNat), (24, 4, p.slots), (28, 1, p.factor), (29, 1, p.skipped.length),
        (30, 1, if p.quiet then 1 else 0), (32, 2, (p.standing.map (·.2)).sum), (34, 2, p.audioPackets),
        (36, 2, p.addressed.length), (38, 2, (p.addressed.map (·.slots)).sum)]
    let credits := match s.hif.comp with
      | none => 0
      | some c => c.size - 1 - (s.hif.inFlight.length + (if s.hif.fetch.isSome then 1 else 0))
        - (c.write + c.size - c.host) % c.size
    let held := s.apq.fetching.length + (classPackets s.apq).length + s.apq.awaiting.length
    laidOut (statusBytes s) 64 ([(0, 4, s.fmon.fsn.toNat), (4, 1, s.ses.session.code), (5, 1, s.ses.quiet.code),
      (6, 1, s.fmon.monitor.code), (7, 1, s.fmon.geometry.code), (8, 1, s.bss.mode.code), (9, 1, s.bss.factor),
      (10, 1, s.ain.audio.code), (12, 2, s.ain.fifo.length), (14, 2, s.rwk.generation.toNat),
      (16, 1, s.rwk.roster.countP (fun e => decide (e.state = .active ∨ e.state = .denied))), (17, 1, 64 - held),
      (18, 1, s.apq.awaiting.length), (40, 2, credits), (44, 4, s.hif.overrun)] ++ plan)
    ∧ [MonitorState.noSignal, .acquiring, .locked].map MonitorState.code = List.range 3
    ∧ (∀ (g : Ring) (c : RecordRing) (tag : HostTag) (addr : Addr) (len : Word), s.Fetching controlRing g c →
      let h := s.takenAs controlRing g tag
      let s1 := s.taken controlRing g tag
      (len.toNat < 64 → exec (.readStatus tag addr len) s = .next (s1.completed c h .badParam 0 0))
      ∧ (64 ≤ len.toNat → exec (.readStatus tag addr len) s = .next { s1 with hif := { s1.hif with
          copies := s1.hif.copies ++ [⟨h, addr, statusBytes s1, s1.fmon.fsn, word (freeCredits s1.hif)⟩] } }))
    ∧ (∀ (n : Nat) (c : RecordRing) (k : Copy), s.hif.copies[n]? = some k → s.Pending k.handle c →
      exec (.statusCopyEnd n true) s = .next ({ s with
        hif := { s.hif with copies := s.hif.copies.eraseIdx n }
        out := s.out ++ [Output.hostWrite k.addr k.image] }.completed c k.handle .ok k.word1 k.word2)
      ∧ exec (.statusCopyEnd n false) s = .next ({ s with
        hif := { s.hif with copies := s.hif.copies.eraseIdx n }
        out := s.out ++ [Output.hostWrite k.addr (partWritten s.choices k.image)], choices := s.choices + 1
        }.completed c k.handle .hostWriteError 0 0))

/-! ### The link session (section 1) -/

/-- SET-SESSION writes the three flags in every session state and reports them as they were and as they are;
clearing AUTO_QUIET removes FORMAT (R17, R20). QUIET and RESUME: refused outside CARRYING and QUIET, done at
once where HOST already stands so, else they change the set at the take and wait for the next frame start (R16).
-/
def Obligations.SessionCommands : Prop :=
  (∀ (s : State) (g : Ring) (c : RecordRing) (tag : HostTag) (e r q : Bool), s.Fetching controlRing g c →
      let s1 := s.taken controlRing g tag
      exec (.setSession tag e r q) s =
        .next ({ s1 with ses := { s1.ses with
            autoEnum := e, autoRefresh := r, autoQuiet := q
            quiet := ⟨s.ses.quiet.host, s.ses.quiet.format && !(s.ses.autoQuiet && !q), s.ses.quiet.cadence⟩
          } }.completed c (s.takenAs controlRing g tag) .ok
          (word (bitAt 0 s.ses.autoEnum + bitAt 1 s.ses.autoRefresh + bitAt 2 s.ses.autoQuiet))
          (word (bitAt 0 e + bitAt 1 r + bitAt 2 q))))
  ∧ (∀ (s : State) (g : Ring) (c : RecordRing) (tag : HostTag), s.Fetching controlRing g c →
      let h := s.takenAs controlRing g tag
      let s1 := s.taken controlRing g tag
      let at_ := fun st => s1.completed c h st s.fmon.fsn (word s.ses.quiet.code)
      let set := fun on => { s1 with ses := { s1.ses with
        quiet := ⟨on, s.ses.quiet.format, s.ses.quiet.cadence⟩
        pendingQuiet := s.ses.pendingQuiet ++ [⟨on, h⟩] } }
      (s.ses.session ≠ .carrying → s.ses.session ≠ .quiet →
        exec (.quiet tag) s = .next (at_ .notReady) ∧ exec (.resume tag) s = .next (at_ .notReady))
      ∧ (s.ses.session = .carrying ∨ s.ses.session = .quiet →
        (s.ses.quiet.host = true →
          exec (.quiet tag) s = .next (at_ .ok) ∧ exec (.resume tag) s = .next (set false))
        ∧ (s.ses.quiet.host = false →
          exec (.quiet tag) s = .next (set true) ∧ exec (.resume tag) s = .next (at_ .ok))))

/-- START-LINK: the four checks in their order, each refusal at the take with the FSN and 0; else the lanes go on,
the counts are 0, and the session is TRAINING with the command held (R8). -/
def Obligations.LinkStart : Prop :=
  ∀ (s : State) (g : Ring) (c : RecordRing) (tag : HostTag), s.Fetching controlRing g c → s.lanesAgree →
    let h := s.takenAs controlRing g tag
    let s1 := s.taken controlRing g tag
    let refused := fun st => exec (.startLink tag) s = .next (s1.completed c h st s.fmon.fsn 0)
    let up := s.ses.session = .ready ∨ s.ses.session = .faulted
    (¬ up → refused .notReady)
    ∧ (up → s.rwk.walking = true → refused .busy)
    ∧ (up → s.rwk.walking = false →
      ((entryAt s 0).state = .denied → refused .rootDenied)
      ∧ ((entryAt s 0).state = .vacant ∨ (entryAt s 0).state = .lost → refused .notReady)
      ∧ ((entryAt s 0).state = .active → s.ses.lastTerm = false → refused .noTermination)
      ∧ ((entryAt s 0).state = .active → s.ses.lastTerm = true →
        exec (.startLink tag) s =
          .next (writeEvent (.sessionChanged .training s.ses.session .hostStart s.ses.quiet) { s1 with
            ses := { s1.ses with
              session := .training, lanes := true, startLink := some h, trainCount := 0, termLoss := 0
              lockSeen := false }
            out := s1.out ++ [.lanes true] })))

/-- STOP-LINK by the session state at the take: nothing in DETACHED and SETTLING (NOT_READY) and in WAITING and
READY (OK); from TRAINING, CARRYING, QUIET and FAULTED to READY with the lanes off, a START-LINK in flight
ABORTED; its first word is the session state before it (R11). STOP-LINK in WALKING aborts the full walk: every
entry VACANT, the generation one higher, the walk reported as ABORTED, the walker's waiting request withdrawn,
the session in WAITING, and after SESSION_CHANGED an ENUMERATE completed with ABORTED or, for another starter, WALK_DONE (R11,
R78, R80). That STOP-LINK's completion is written before the event of the same moment in the other states is log entry 10,
and that a link check whose request waits stays waiting, its result unwanted, log entry 31. -/
def Obligations.LinkStop : Prop :=
  (∀ (s : State) (g : Ring) (c : RecordRing) (tag : HostTag), s.Fetching controlRing g c → s.lanesAgree →
      let h := s.takenAs controlRing g tag
      let s1 := s.taken controlRing g tag
      let old := s.ses.session
      let w := word old.code
      let q : QuietSet := ⟨false, s.ses.quiet.format, false⟩
      let event := Event.sessionChanged .ready old .hostStop q
      let stale := s.ses.linkCheck.map (fun k => { k with stale := true })
      (old = .detached ∨ old = .settling → exec (.stopLink tag) s = .next (s1.completed c h .notReady w 0))
      ∧ (old = .waiting ∨ old = .ready → exec (.stopLink tag) s = .next (s1.completed c h .ok w 0))
      ∧ (old = .carrying ∨ old = .quiet → exec (.stopLink tag) s =
          .next (writeEvent event ({ s1 with
            ses := { s1.ses with
              session := .ready, lanes := false, quiet := q, linkCheck := stale, termLoss := 0 }
            out := s1.out ++ [Output.lanes false] }.completed c h .ok w 0)))
      ∧ (old = .faulted → exec (.stopLink tag) s =
          .next (writeEvent event ({ s1 with
            ses := { s1.ses with session := .ready, quiet := q, termLoss := 0 } }.completed c h .ok w 0)))
      ∧ (∀ k, old = .training → s.ses.startLink = some k → k ∈ s.hif.inFlight → exec (.stopLink tag) s =
          .next (writeEvent event (({ s1 with
            ses := { s1.ses with
              session := .ready, lanes := false, quiet := q, linkCheck := stale, termLoss := 0, startLink := none }
            out := s1.out ++ [Output.lanes false] }.completed c k .aborted s.fmon.fsn
              (word s.ses.trainCount)).completed c.advance h .ok w 0)))
      ∧ (old = .training → (∀ k, s.ses.startLink = some k → k ∉ s.hif.inFlight ∧ k ≠ h) → exec (.stopLink tag) s =
          .next (writeEvent event ({ s1 with
            ses := { s1.ses with
              session := .ready, lanes := false, quiet := q, linkCheck := stale, termLoss := 0, startLink := none }
            out := s1.out ++ [Output.lanes false] }.completed c h .ok w 0))))
  ∧ (∀ (s : State) (g : Ring) (c : RecordRing) (tag : HostTag), s.Fetching controlRing g c →
      s.ses.session = .walking → s.rwk.walking = true → s.rwk.kind = .full →
      ∃ t, exec (.stopLink tag) s = .next t ∧ t.ses.session = .waiting ∧ t.rwk.walking = false
        ∧ t.rwk.roster = s.rwk.roster.map (fun _ => Entry.vacant) ∧ t.rwk.generation = s.rwk.generation + 1
        ∧ t.rwk.check = 0 ∧ t.rwk.stack = [] ∧ t.sbc.wkReq = none
        ∧ t.rwk.lastWalk = some ⟨.full, s.rwk.starter, .aborted, s.rwk.warnings, s.rwk.generation + 1⟩
        ∧ (s.rwk.starter = .enumerate → t.rwk.enumerate = none)
        ∧ ((s.takenAs controlRing g tag :: s.heldHandles).Nodup →
          s.completes t (s.takenAs controlRing g tag) .ok (word 3) 0 = true
          ∧ ∀ k, s.rwk.starter = .enumerate → s.rwk.enumerate = some k → k ∈ s.hif.inFlight → s.completes t k .aborted
            (word (4 + 2 ^ 3 * s.rwk.warnings + 2 ^ 16 * (s.rwk.generation + 1).toNat)) 0 = true)
        ∧ (s.listens 3 = true →
          let changed := Event.sessionChanged .waiting .walking .hostStop ⟨false, s.ses.quiet.format, false⟩
          let ended := Event.walkDone .full s.rwk.starter ⟨.aborted, 0, s.rwk.warnings, s.rwk.generation + 1, 0⟩
          let place := fun (record : Bool → List Byte) => (s.sentTo t).findIdx (fun o =>
            o.isWriteOf (record true) || o.isWriteOf (record false))
          let session := place (fun b => eventBytes t.fmon.fsn b changed)
          s.reports t changed = true
          ∧ (s.rwk.starter ≠ .enumerate → s.listens 7 = true → s.reports t ended = true
            ∧ session < place (fun b => eventBytes t.fmon.fsn b ended))
          ∧ (∀ k, s.rwk.starter = .enumerate → s.rwk.enumerate = some k → k ∈ s.hif.inFlight →
            (s.takenAs controlRing g tag :: s.heldHandles).Nodup →
            session < place (fun b => completionBytes k b .aborted
              (word (4 + 2 ^ 3 * s.rwk.warnings + 2 ^ 16 * (s.rwk.generation + 1).toNat)) 0)))
        ∧ t.fmon = s.fmon ∧ t.bss = s.bss ∧ t.stt = s.stt ∧ t.ain = s.ain ∧ t.pxp = s.pxp)

/-- TL_PRES: going low starts the glitch filter's count while the filtered presence is asserted; coming back high
within it has no effect; high while the presence is negated is a rise, which takes DETACHED to SETTLING with the
settling timer from 0 (R1, R4). The settling timer at 200 ms: PRESENCE_UP and then WAITING; with AUTO_ENUM set a full walk
starts at once, which makes the roster VACANT and asks for RELEASE-ALL, once a transaction of the walker still in flight
has ended (R4, R5, R51, R64, R66). -/
def Obligations.PresenceRises : Prop :=
  (∀ s : State, s.handed = [] → s.lanesAgree →
    (s.ses.presence = true → s.ses.glitch = none → exec (.tlPresLow false) s = .next { s with
      pins := { s.pins with pres := false }, ses := { s.ses with glitch := some s.now } })
    ∧ (s.ses.presence = false ∨ s.ses.glitch ≠ none →
      exec (.tlPresLow false) s = .next { s with pins := { s.pins with pres := false } })
    ∧ (s.ses.presence = true → exec (.tlPresLow true) s = .next { s with
      pins := { s.pins with pres := true }, ses := { s.ses with glitch := none } })
    ∧ (s.ses.presence = true → exec .presenceDetected s = .next { s with pins := { s.pins with pres := true } })
    ∧ (s.ses.presence = false → s.ses.session = .detached →
      exec .presenceDetected s =
        .next (writeEvent (.sessionChanged .settling .detached .presenceDetected s.ses.quiet) { s with
          pins := { s.pins with pres := true }
          ses := { s.ses with
            session := .settling, presence := true, glitch := none, settle := some s.now, termLoss := 0 } })
      ∧ exec (.tlPresLow true) s = exec .presenceDetected s))
  ∧ (∀ (s : State) (t0 : Nat), s.handed = [] → s.lanesAgree → s.ses.session = .settling → s.ses.settle = some t0 →
    let q : QuietSet := ⟨false, s.ses.quiet.format, false⟩
    (s.ses.autoEnum = false → exec .presenceStable s =
      .next (writeEvent (.sessionChanged .waiting .settling .presenceStable q) (writeEvent .presenceUp { s with
        now := max s.now (t0 + 5400000)
        ses := { s.ses with session := .waiting, settle := none, quiet := q, termLoss := 0 } })))
    ∧ (s.ses.autoEnum = true → ∃ t, exec .presenceStable s = .next t ∧ t.now = max s.now (t0 + 5400000)
      ∧ t.ses.session = .walking ∧ t.ses.settle = none ∧ t.ses.quiet = q
      ∧ t.rwk.walking = true ∧ t.rwk.kind = .full ∧ t.rwk.starter = .autoEnum ∧ t.rwk.wait = some .release
      ∧ t.rwk.roster = s.rwk.roster.map (fun _ => Entry.vacant) ∧ t.rwk.generation = s.rwk.generation
      ∧ (flightIs .wk s = false → t.sbc.wkReq = some ⟨0, .releaseAll, []⟩)
      ∧ (flightIs .wk s = true → t.sbc.deferred = some ⟨0, .releaseAll, []⟩)
      ∧ t.sbc.lcReq = none ∧ t.sbc.channel = s.sbc.channel
      ∧ t.fmon = s.fmon ∧ t.bss = s.bss ∧ t.stt = s.stt ∧ t.ain = s.ain ∧ t.pxp = s.pxp))

/-- A low level of 2 ms on TL_PRES tears the attachment down in every block that has part in it and in no other
(R1, R21, R58, R84, R98, R142). PRESENCE_DOWN is posted from WAITING and the states after it, SESSION_CHANGED to DETACHED with
cause PRESENCE_LOST, and WALK_DONE with LINK_DOWN, no tiles and the check value 0 for a walk that ENUMERATE has not started (R21, R84).
Every SEND at rest, the START-LINK, the ENUMERATE of the walk and every READ-DESCRIPTOR but those of the copying group complete with
LINK_DOWN (R8, R21, R84, R98, R142); that of START-LINK carries the training frame count from before the drop, which sets the
count to 0 (the model's reading of R21: log entry 30). -/
def Obligations.PresenceDrop : Prop :=
  ∀ (s : State) (t0 : Nat), s.ses.presence = true → s.ses.glitch = some t0 →
    ∃ t, exec .presenceLost s = .next t ∧ t.now = max s.now (t0 + 54000)
      ∧ t.ses.session = .detached ∧ t.ses.lanes = false ∧ t.ses.presence = false ∧ t.ses.glitch = none
      ∧ t.ses.startLink = none ∧ t.ses.linkCheck = none ∧ t.ses.linkFrames = 0 ∧ t.ses.trainCount = 0
      ∧ t.ses.termLoss = 0 ∧ t.ses.lockSeen = false ∧ t.ses.cursor = 63
      ∧ t.ses.quiet = ⟨false, s.ses.quiet.format, false⟩ ∧ t.ses.pendingQuiet = s.ses.pendingQuiet
      ∧ t.ses.autoEnum = s.ses.autoEnum ∧ t.ses.autoRefresh = s.ses.autoRefresh ∧ t.ses.autoQuiet = s.ses.autoQuiet
      ∧ t.sbc = { Sbc.reset with nextSeq := s.sbc.nextSeq }
      ∧ t.rwk.roster = s.rwk.roster.map (fun e =>
          if e.state = .active ∨ e.state = .denied then { e with state := .lost, lostGen := s.rwk.generation } else e)
      ∧ t.rwk.generation = s.rwk.generation + 1 ∧ t.rwk.walking = false ∧ t.rwk.stack = [] ∧ t.rwk.check = 0
      ∧ t.rwk.denyList = s.rwk.denyList
      ∧ t.apq.urgent = [] ∧ t.apq.normal = [] ∧ t.apq.bulk = [] ∧ t.apq.awaiting = [] ∧ t.apq.starve = 0
      ∧ t.apq.acPacket = none ∧ t.apq.held = none ∧ t.apq.fetching = s.apq.marked .linkDown
      ∧ (s.handed = [] → s.heldHandles.Nodup →
        (∀ q ∈ s.apq.resting, s.canComplete q.handle →
          s.completes t q.handle .linkDown (placedWord q) (sendWord q) = true)
        ∧ (∀ k, s.ses.startLink = some k → s.canComplete k →
          s.completes t k .linkDown s.fmon.fsn (word s.ses.trainCount) = true)
        ∧ (∀ k, s.rwk.walking = true → s.rwk.starter = .enumerate → s.rwk.enumerate = some k → s.canComplete k →
          s.completes t k .linkDown (word (5 + 2 ^ 3 * s.rwk.warnings + 2 ^ 16 * (s.rwk.generation + 1).toNat)) 0 = true)
        ∧ (∀ q ∈ s.dcr.queue, q.group = false → s.canComplete q.handle → s.completes t q.handle .linkDown 0 0 = true))
      ∧ (s.handed = [] → s.ses.session ≠ .detached →
        (s.ses.session ≠ .settling → s.listens 2 = true → s.reports t .presenceDown = true)
        ∧ (s.listens 3 = true → s.reports t (.sessionChanged .detached s.ses.session .presenceLost
          ⟨false, s.ses.quiet.format, false⟩) = true)
        ∧ (s.rwk.walking = true → s.rwk.starter ≠ .enumerate → s.listens 7 = true →
          s.reports t (.walkDone s.rwk.kind s.rwk.starter ⟨.linkDown, 0, s.rwk.warnings, s.rwk.generation + 1, 0⟩) = true))
      ∧ t.dcr.queue = s.dcr.queue.filter (·.group) ∧ t.dcr.context = none ∧ t.dcr.held = none
      ∧ t.fmon = s.fmon ∧ t.bss = s.bss ∧ t.stt = s.stt ∧ t.ain = s.ain ∧ t.pxp = s.pxp

/-- The limits as rows of their own (the model's reading: log entry 5). A termination-loss count that reaches 2
in CARRYING or QUIET takes the session to FAULTED, and in TRAINING to READY with the START-LINK in flight completed with
NO_TERMINATION; a training frame count that reaches 60 takes it to READY
and completes the START-LINK with TRAINING_FAILED; the lanes go off each time (R9, R12). With the lock-seen flag set the lock takes it to
CARRYING or QUIET instead (R9, step 2 before step 3). In each, the completion before the event (log
entry 10) and a link check waiting or in flight left so with its result unwanted (log entry 31). The lower-fits count
reaching 16 as a row of its own (log entry 5): the row is the frame start that the monitor state lets come next, the
flywheel's in NO_SIGNAL, else a first-field boundary's, where that frame start decides a fall, and does nothing where it
does not; so the factor falls or is announced at a frame start (R105, R107, R108), in TRAINING too. It does
for every state with a needed factor, from the demand after the pending records, below the one in force, and the count at 15.
What the frame start completes: the second word of SET-AUDIO for the format off is log entry 41's, and that of a QUIET or RESUME that
waited log entry 30's. The third equal measurement in a row as a
row of its own (log entry 5): the same frame start where the measurement that it closes locks the monitor, and nothing where none does;
LOCKED, the reference classified, its frame period the flywheel's, FORMAT_LOCKED posted, all as part of it (R33). The code error count reaching 4 as a row of its own (log entry 5): the open measurement is marked
invalid, once for each input frame (R31, R161). -/
def Obligations.LimitRows : Prop :=
  (∀ s : State, s.handed = [] → s.lanesAgree →
      let stale := s.ses.linkCheck.map (fun k => { k with stale := true })
      (s.ses.session = .carrying ∨ s.ses.session = .quiet → 1 ≤ s.ses.termLoss →
        exec .termination s =
          .next (writeEvent (.sessionChanged .faulted s.ses.session .termination s.ses.quiet) { s with
            ses := { s.ses with session := .faulted, lanes := false, linkCheck := stale, termLoss := 0 }
            out := s.out ++ [.lanes false] }))
      ∧ (s.ses.session = .training → 1 ≤ s.ses.termLoss →
        let q : QuietSet := ⟨false, s.ses.quiet.format, false⟩
        let event := Event.sessionChanged .ready .training .termination q
        let off : State := { s with
          ses := { s.ses with
            session := .ready, lanes := false, quiet := q, linkCheck := stale, termLoss := 0, startLink := none }
          out := s.out ++ [Output.lanes false] }
        (∀ k c, s.ses.startLink = some k → s.Pending k c → exec .termination s =
          .next (writeEvent event (off.completed c k .noTermination s.fmon.fsn (word s.ses.trainCount))))
        ∧ ((∀ k ∈ s.ses.startLink, k ∉ s.hif.inFlight) → exec .termination s = .next (writeEvent event off)))
      ∧ (∀ k c, s.ses.session = .training → 59 ≤ s.ses.trainCount → s.ses.lockSeen = true → s.ses.startLink = some k →
        s.Pending k c →
        let reached : SessionState := if s.ses.quiet = ⟨false, false, false⟩ then .carrying else .quiet
        exec .trainingTimeout s =
          .next (writeEvent (.sessionChanged reached .training .linkLocked s.ses.quiet) ({ s with
            ses := { s.ses with session := reached, linkCheck := stale, startLink := none, linkFrames := 0, cursor := 63 }
            rwk := { s.rwk with roster := if (entryAt s 0).isActive
              then s.rwk.roster.modify 0 (fun e => { e with miss := 0 }) else s.rwk.roster }
            }.completed c k .ok s.fmon.fsn (word s.ses.trainCount))))
      ∧ (∀ k c, s.ses.session = .training → 59 ≤ s.ses.trainCount → s.ses.lockSeen = false → s.ses.startLink = some k →
        s.Pending k c →
        let q : QuietSet := ⟨false, s.ses.quiet.format, false⟩
        exec .trainingTimeout s =
          .next (writeEvent (.sessionChanged .ready .training .trainingTimeout q) ({ s with
            ses := { s.ses with
              session := .ready, lanes := false, quiet := q, linkCheck := stale, termLoss := 0, trainCount := 60
              startLink := none }
            out := s.out ++ [Output.lanes false] }.completed c k .trainingFailed s.fmon.fsn (word 60)))))
  ∧ (∀ s : State, s.handed = [] →
      let falls := fun (t : State) => s.bss.mode ≠ .fixed ∧ s.bss.pending = none ∧ s.bss.announced = none
        ∧ 15 ≤ s.bss.lowerFits ∧ t.fmon.fsn = s.fmon.fsn + 1 ∧ isCandidate t.fmon.geometry s.bss.factor = true
        ∧ t.bss.announced.getD t.bss.factor < s.bss.factor
      let locks := fun (t : State) => s.fmon.monitor = .acquiring ∧ t.fmon.monitor = .locked
      let agrees := fun (row : Instr) => ∀ t, exec row s = .next t →
        (falls t → exec .lowerFitsExpiry s = .next t) ∧ (¬ falls t → exec .lowerFitsExpiry s = .next s)
        ∧ (locks t → exec .formatLocked s = .next t) ∧ (¬ locks t → exec .formatLocked s = .next s)
      (s.fmon.monitor = .noSignal → agrees (.flywheelStart s.pins.term))
      ∧ (∀ f, s.fmon.monitor ≠ .noSignal → s.fmon.boundaryDue = some f →
        agrees (.inputBoundary (.code 0 f) s.pins.term))
      ∧ (∀ b, s.fmon.monitor ≠ .noSignal → s.fmon.boundaryDue = none → boundaryOf b s = (some .line, s) →
        agrees (.inputBoundary b s.pins.term)))
  ∧ (∀ s : State, s.handed = [] → s.fmon.monitor ≠ .noSignal → s.fmon.boundaryDue = none →
      ∃ t, exec .lowerFitsExpiry s = .next t ∧ (t = s ∨
        (s.FrameOpened t s.pins.term ∧ s.bss.mode ≠ .fixed ∧ 15 ≤ s.bss.lowerFits ∧ t.bss.lowerFits = 0
          ∧ t.fmon.activity = some s.now ∧ t.fmon.prevAlign = some .line
          ∧ t.bss.announced.getD t.bss.factor < s.bss.factor)))
  ∧ (∀ s : State, s.handed = [] →
      let g := s.fmon.geometry
      let entries := s.stt.entries.map (fun e =>
        match e.pending with
        | some p => (p.enabled, p.payload.length)
        | none => (e.enabled, e.payload.length))
      let format := match s.ain.pending with
        | some p => p.format
        | none => s.ain.format
      let d := ((entries.filter (·.1)).map (fun e => slotsFor e.2)).sum + audioPart format g.rate + s.bss.reserve
      let needed := neededFactor s.bss g d
      let keepsGeometry := s.fmon.monitor = .locked ∨ s.fmon.equalCount < 2 ∨ s.fmon.measuring = none
      let comes := s.fmon.boundaryDue = none ∨ (s.pxp.mode.embedded = true ∧ s.fmon.boundaryDue = some false)
      s.bss.mode ≠ .fixed → s.bss.pending = none → s.bss.announced = none → 15 ≤ s.bss.lowerFits →
      isCandidate g s.bss.factor = true → needed < s.bss.factor →
      s.fmon.monitor = .noSignal ∨ (keepsGeometry ∧ comes) →
      ∃ t, exec .lowerFitsExpiry s = .next t ∧ s.FrameOpened t s.pins.term ∧ t.bss.lowerFits = 0
        ∧ (s.ses.session.lanesOn = true → t.bss.factor = s.bss.factor ∧ t.bss.announced = some needed)
        ∧ (s.ses.session.lanesOn = false → t.bss.factor = needed ∧ t.bss.announced = none))
  ∧ (∀ (s : State) (r : Measurement) (o : OpenMeasurement), s.handed = [] → s.fmon.monitor = .acquiring →
      s.fmon.reference = some r → 2 ≤ s.fmon.equalCount → s.fmon.measuring = some o →
      let m := o.endLine.record s.fmon s.pxp.mode s.now
      measurementValid o.endLine m = true → m.equals r = true →
      s.fmon.boundaryDue = none ∨ (s.pxp.mode.embedded = true ∧ s.fmon.boundaryDue = some false) →
      ∃ t, exec .formatLocked s = .next t ∧ s.FrameOpened t s.pins.term
        ∧ t.fmon.monitor = .locked ∧ t.fmon.equalCount = 3 ∧ t.fmon.reference = some r
        ∧ t.fmon.geometry = classify s.fmon r ∧ t.fmon.flyPeriod = r.period ∧ t.fmon.measuring = some (openAt s.now)
        ∧ t.ses.formatDrop = true
        ∧ (s.listens 4 = true → s.reports t (.formatLocked (classify s.fmon r)) = true))
  ∧ (∀ (s : State) (o : OpenMeasurement), s.handed = [] → s.fmon.measuring = some o → 3 ≤ s.pxp.codeErrors →
      s.pxp.errorReported = false →
      exec .codeErrorLimit s = .next { s with
        pxp := { s.pxp with codeErrors := max 4 s.pxp.codeErrors, errorReported := true }
        fmon := { s.fmon with measuring := some { o with invalid := true } } })

/-! ### Frame starts (sections 1.3 to 1.6, 2.3, 6.8) -/

/-- In NO_SIGNAL the flywheel issues the frame starts, one flywheel period apart; the current geometry stays
(R27, R29). 100 ms without a boundary: NO_SIGNAL, the measurement and the run given up, and a frame start from
the flywheel at the same moment; a format that was locked is lost, FORMAT_LOST with cause NO_SIGNAL being posted with
its code, and with AUTO_QUIET the frame has the FORMAT reason (R17, R25, R40). A loss report of an input mode change is posted at
the frame start with cause INPUT_MODE, whatever issues it (R35, in FrameOpened). The second word of SET-AUDIO's completion for the format off is log entry 41's,
and that of a QUIET or RESUME that waited, the set after the work of SES, log entry 30's. -/
def Obligations.FlywheelFrames : Prop :=
  (∀ (s : State) (term : Bool), s.handed = [] → s.fmon.monitor = .noSignal →
      ∃ t, exec (.flywheelStart term) s = .next t ∧ s.FrameOpened t term
        ∧ t.now = max s.now (s.fmon.lastFly + s.fmon.flyPeriod) ∧ t.fmon.lastFly = t.now
        ∧ t.fmon.monitor = .noSignal ∧ t.fmon.geometry = s.fmon.geometry ∧ t.fmon.flyPeriod = s.fmon.flyPeriod
        ∧ t.fmon.measuring = s.fmon.measuring)
  ∧ (∀ (s : State) (term : Bool) (a : Nat), s.handed = [] → s.fmon.monitor ≠ .noSignal → s.fmon.activity = some a →
      ∃ t, exec (.activityTimeout term) s = .next t ∧ s.FrameOpened t term
        ∧ t.now = max s.now (a + 2700000) ∧ t.fmon.lastFly = t.now ∧ t.fmon.flyRunning = true
        ∧ t.fmon.monitor = .noSignal ∧ t.fmon.measuring = none ∧ t.fmon.reference = none ∧ t.fmon.equalCount = 0
        ∧ t.fmon.prevAlign = none ∧ t.fmon.geometry = s.fmon.geometry
        ∧ (s.fmon.monitor = .locked → s.ses.autoQuiet = true → t.ses.quiet.format = true)
        ∧ (s.fmon.monitor = .locked → s.listens 5 = true →
          s.reports t (.formatLost s.fmon.geometry.code .noSignal) = true))

/-- What is an input boundary, and with which alignment (R23): in the separate-sync modes the edge of PX_VS into
its active level once a complete cycle has taught it, LINE within a quarter of the previous line after a PX_HS
leading edge, and with a free alignment while no line is known (the model's choice: log entry 12); the first two
edges complete no cycle and only count, and the edge that ends the first cycle is no boundary (log entry 21); in the
embedded-code modes the code that set the vertical-blank flag, LINE for field flag 0. An
edge that is none leaves the level it teaches and no more. What a boundary does (R24, R26, R28, R30). In
ACQUIRING and LOCKED a first-field boundary is a frame start that closes the open measurement and opens one, and
a second-field boundary marks the open measurement interlaced. From NO_SIGNAL it enters ACQUIRING with a
measurement open, and is a frame start if a quarter of the flywheel period has passed. A frame start at
a boundary posts the loss report of an input mode change, FORMAT_LOST with cause INPUT_MODE (R35, in FrameOpened). s0 is the state in which
the boundary is recognised. The second word of SET-AUDIO's completion for the format off is log entry 41's,
and that of a QUIET or RESUME that waited, the set after the work of SES, log entry 30's. -/
def Obligations.InputBoundaries : Prop :=
  (∀ (s : State) (term : Bool) (elapsed high low offset : Nat) (edge : Level) (field : Bool), s.handed = [] →
      let l : Level := if high < low then .high else .low
      let s0 : State := { s with now := s.now + elapsed, fmon := { s.fmon with vLevel := some l } }
      (s.pxp.mode.embedded = false → s.fmon.vEdges < 2 →
        exec (.inputBoundary (.sync elapsed edge high low offset) term) s =
          .next { s with now := s.now + elapsed, fmon := { s.fmon with vEdges := s.fmon.vEdges + 1 } })
      ∧ (s.pxp.mode.embedded = false → 2 ≤ s.fmon.vEdges →
        (s.fmon.vLevel ≠ none → edge = l → ∀ n, s.fmon.prevLine = some n →
          boundaryOf (.sync elapsed edge high low offset) s = (some (if offset * 4 ≤ n then .line else .mid), s0))
        ∧ (s.fmon.vLevel ≠ none → edge = l → s.fmon.prevLine = none →
          ∃ a, boundaryOf (.sync elapsed edge high low offset) s = (some a, { s0 with choices := s.choices + 1 }))
        ∧ (s.fmon.vLevel = none ∨ edge ≠ l →
          exec (.inputBoundary (.sync elapsed edge high low offset) term) s = .next s0))
      ∧ (s.pxp.mode.embedded = true → s.fmon.boundaryDue = some field →
        boundaryOf (.code elapsed field) s = (some (if field then .mid else .line),
          { s with now := s.now + elapsed, fmon := { s.fmon with boundaryDue := none } })))
  ∧ (∀ (s : State) (i : BoundaryInput) (term : Bool) (a : Machine.Alignment) (s0 : State), s.handed = [] → boundaryOf i s = (some a, s0) →
      let second := a = .mid ∧ s.fmon.prevAlign = some .line
      (s.fmon.monitor ≠ .noSignal → ¬ second →
        ∃ t, exec (.inputBoundary i term) s = .next t ∧ s.FrameOpened t term ∧ t.now = s0.now
          ∧ t.fmon.monitor ≠ .noSignal ∧ t.fmon.prevAlign = some a ∧ t.fmon.activity = some s0.now
          ∧ t.fmon.measuring = some (openAt s0.now) ∧ t.pxp.codeErrors = 0)
      ∧ (s.fmon.monitor ≠ .noSignal → second →
        exec (.inputBoundary i term) s = .next { s0 with fmon := { s0.fmon with
          prevAlign := some a, activity := some s0.now
          measuring := s.fmon.measuring.map (fun o => { o with second := true }) } })
      ∧ (s.fmon.monitor = .noSignal → s.fmon.flyPeriod ≤ 4 * (s0.now - s.fmon.lastFly) →
        ∃ t, exec (.inputBoundary i term) s = .next t ∧ s.FrameOpened t term ∧ t.now = s0.now
          ∧ t.fmon.monitor = .acquiring ∧ t.fmon.flyRunning = false ∧ t.fmon.activity = some s0.now
          ∧ t.fmon.measuring = some (openAt s0.now) ∧ t.fmon.geometry = s.fmon.geometry)
      ∧ (s.fmon.monitor = .noSignal → 4 * (s0.now - s.fmon.lastFly) < s.fmon.flyPeriod →
        exec (.inputBoundary i term) s = .next { s0 with
          fmon := { s0.fmon with
            monitor := .acquiring, flyRunning := false, prevAlign := some a, activity := some s0.now
            measuring := some (openAt s0.now) }
          pxp := { s.pxp with codeErrors := 0, errorReported := false } }))

/-- The session at a frame start in CARRYING or QUIET: the second false sample of TL_TERM in a row takes it to
FAULTED with the counter kept and the lanes off; else the link frame counter increments and the session is
CARRYING exactly with an empty quiet reason set (R2, R10, R12, R15). Where the counter has become a multiple of 8, no walk
runs and no check is waiting or in flight, the next ACTIVE index after the cursor, in index order with wrap, becomes the
cursor and is asked with LINK-CHECK; else the cursor stays (R18). -/
def Obligations.CarriedFrames : Prop :=
  ∀ (i : Instr) (s t : State) (term : Bool), frameRow i = some term → exec i s = .next t → t.fmon.fsn ≠ s.fmon.fsn →
    s.ses.session = .carrying ∨ s.ses.session = .quiet →
    (term = false → 1 ≤ s.ses.termLoss →
      t.ses.session = .faulted ∧ t.ses.lanes = false ∧ t.ses.termLoss = 0 ∧ t.ses.linkFrames = s.ses.linkFrames)
    ∧ (term = true ∨ s.ses.termLoss = 0 →
      t.ses.linkFrames = s.ses.linkFrames + 1
      ∧ t.ses.session = (if t.ses.quiet = ⟨false, false, false⟩ then .carrying else .quiet)
      ∧ t.ses.termLoss = (if term then 0 else 1)
      ∧ (let target := ((activeIndices s).filter (fun j => decide (s.ses.cursor < j)) ++ activeIndices s).head?
        let due := t.ses.linkFrames.toNat % 8 = 0 ∧ s.rwk.walking = false ∧ s.ses.linkCheck = none
        (∀ j, due → s.ses.presence = true → target = some j → t.ses.cursor = j
          ∧ t.ses.linkCheck = some ⟨j, (entryAt s j).serial, t.ses.linkFrames, false, false⟩
          ∧ (flightIs .lc s = false → t.sbc.lcReq = some ⟨BitVec.ofNat 8 (j + 1), .linkCheck, []⟩)
          ∧ (flightIs .lc s = true → t.sbc.deferred = some ⟨BitVec.ofNat 8 (j + 1), .linkCheck, []⟩))
        ∧ (¬ due ∨ target = none → t.ses.cursor = s.ses.cursor ∧ t.ses.linkCheck = s.ses.linkCheck)))

/-- The session at a frame start in TRAINING, in every cadence mode (R9): a termination loss ends it in READY; a change of
the factor that is announced, or that takes effect in another way than announced, starts training again, the frame count 0,
no lock seen and a link check's result unwanted (log entry 31); a lock seen takes it to CARRYING, or to QUIET with a
reason, with the counter at 0 and the cursor at 63; else the training frame count increments, 60 ends it in READY, and every
fourth frame asks the root for a LINK-CHECK. -/
def Obligations.TrainingFrames : Prop :=
  ∀ (i : Instr) (s t : State) (term : Bool), frameRow i = some term → exec i s = .next t → t.fmon.fsn ≠ s.fmon.fsn →
    s.ses.session = .training →
    let loss := term = false ∧ 1 ≤ s.ses.termLoss
    let again := s.restarts t = true
    (loss → t.ses.session = .ready ∧ t.ses.lanes = false ∧ t.ses.startLink = none)
    ∧ (¬ loss → again → t.ses.session = .training ∧ t.ses.trainCount = 0 ∧ t.ses.lockSeen = false
      ∧ t.ses.startLink = s.ses.startLink ∧ t.sbc.lcReq = s.sbc.lcReq
      ∧ t.ses.linkCheck = s.ses.linkCheck.map (fun k => { k with stale := true }))
    ∧ (¬ loss → ¬ again → s.ses.lockSeen = true →
      t.ses.session = (if t.ses.quiet = ⟨false, false, false⟩ then .carrying else .quiet)
      ∧ t.ses.linkFrames = 0 ∧ t.ses.cursor = 63 ∧ t.ses.startLink = none)
    ∧ (¬ loss → ¬ again → s.ses.lockSeen = false →
      (59 ≤ s.ses.trainCount → t.ses.session = .ready ∧ t.ses.lanes = false ∧ t.ses.startLink = none)
      ∧ (s.ses.trainCount < 59 → t.ses.session = .training ∧ t.ses.trainCount = s.ses.trainCount + 1
        ∧ t.ses.startLink = s.ses.startLink
        ∧ ((s.ses.trainCount + 1) % 4 = 0 → s.ses.linkCheck = none → s.ses.presence = true →
          (flightIs .lc s = false → t.sbc.lcReq = some ⟨1, .linkCheck, []⟩)
          ∧ (flightIs .lc s = true → t.sbc.deferred = some ⟨1, .linkCheck, []⟩))))

/-- FORMAT and TALLY are built anew at every frame start from the state that the frame begins with (R117, R118). -/
def Obligations.FixedEntriesBuilt : Prop :=
  ∀ (i : Instr) (s t : State) (term : Bool), frameRow i = some term → exec i s = .next t → t.fmon.fsn ≠ s.fmon.fsn →
    2 ≤ s.stt.entries.length →
    (t.stt.entries[0]?).map (·.payload) = some
      (leBytes 1 t.fmon.geometry.code
        ++ leBytes 1 (bitAt 0 t.fmon.geometry.interlaced + bitAt 1 (decide (t.ses.session = .quiet))
          + bitAt 2 (decide (t.pxp.range = .narrow)) + bitAt 3 t.ain.format.isSome)
        ++ beBytes 2 t.fmon.geometry.ha ++ beBytes 2 t.fmon.geometry.va ++ leBytes 1 t.bss.factor
        ++ leBytes 1 (t.bss.announced.getD 0) ++ beBytes 4 ((t.ain.format.map (·.rate)).getD 0)
        ++ leBytes 1 ((t.ain.format.map (·.channels)).getD 0) ++ [0, 0, 0])
    ∧ (t.stt.entries[1]?).map (·.payload) = some
      (beBytes 4 t.ses.linkFrames.toNat ++ beBytes 2 t.rwk.generation.toNat)

/-- A frame start with an announced factor. It takes effect there if it and the factor in force are candidates; else the
needed factor takes its place (R107, R108). A frame that carries then is quiet for the CADENCE reason (R15). CADENCE_CHANGED
tells of it, also where the needed factor is the one in force (log entry 23), and CAPACITY_SHORT of a due entry that the plan skips,
with the needed factor computed anew there (R106, R107; log entry 41). -/
def Obligations.AnnouncedFactor : Prop :=
  ∀ (i : Instr) (s t : State) (term : Bool) (f : Nat), frameRow i = some term → exec i s = .next t →
    t.fmon.fsn ≠ s.fmon.fsn → s.settledHands → s.bss.announced = some f →
    (∀ e ∈ s.stt.entries.take 2, e.pending = none ∧ slotsFor e.payload.length = 1) →
    let g := t.fmon.geometry
    let d := demand t
    let needed := neededFactor t.bss g d
    let now := if isCandidate g s.bss.factor = true ∧ isCandidate g f = true then f else needed
    let skips := t.bss.plan.any (fun p => !p.skipped.isEmpty) = true
    t.bss.factor = now ∧ t.bss.announced = none ∧ t.bss.lowerFits = 0
      ∧ t.bss.shortfall = (s.bss.shortfall || decide skips)
      ∧ (s.listens 12 = true → s.reports t (.cadenceChanged s.bss.factor now t.bss.mode d) = true)
      ∧ (s.bss.shortfall = false → skips → s.listens 11 = true →
        s.reports t (.capacityShort true now needed d (capacity g needed)) = true)
      ∧ (t.ses.session = .carrying ∨ t.ses.session = .quiet → t.ses.session = .quiet ∧ t.ses.quiet.cadence = true)

/-- The cadence decision of a frame start without an announced factor, d being the demand after the pending records and
entries 0 and 1 of the standing table one slot each (R102). With the factor in force a candidate: a needed factor above it,
or in FIXED another one, decides a change and sets the lower-fits count to 0; an equal one sets it to 0; a smaller one counts, and
decides the change at 16; a pending record makes the count 0 before (R105, R109). A change is announced while the lanes are
on and takes effect at once while they are off (R107, R108). With the factor in force no candidate the needed one takes its
place at once, and a frame that carries then is quiet for the CADENCE reason (R108, R15). The shortfall flag and
CAPACITY_SHORT: a demand above the capacity at the needed factor, or a due entry that the plan skips, sets the flag and is
reported where it was clear; a demand that fits with nothing skipped clears it (R106). CADENCE_CHANGED comes with every
change of the factor in force. -/
def Obligations.CadenceDecisions : Prop :=
  ∀ (i : Instr) (s t : State) (term : Bool), frameRow i = some term → exec i s = .next t → t.fmon.fsn ≠ s.fmon.fsn →
    s.settledHands → s.bss.announced = none →
    (∀ e ∈ s.stt.entries.take 2, e.pending = none ∧ slotsFor e.payload.length = 1) →
    let g := t.fmon.geometry
    let d := ((t.stt.entries.filter (·.enabled)).map (fun e => slotsFor e.payload.length)).sum
      + (match t.ain.format with
        | none => 0
        | some a => ceilDiv (ceilDiv (a.rate * 1000) g.rate) (if a.channels = 2 then 4 else 1) + 1)
      + t.bss.reserve
    let needed := neededFactor t.bss g d
    let old := s.bss.factor
    let count := if s.bss.pending.isSome then 0 else s.bss.lowerFits
    let changes := if t.bss.mode = .fixed then needed ≠ old else old < needed ∨ (needed < old ∧ 15 ≤ count)
    let up := s.ses.session.lanesOn = true
    let fits := d ≤ capacity g needed
    let skips := t.bss.plan.any (fun p => !p.skipped.isEmpty) = true
    let changed := Event.cadenceChanged old needed t.bss.mode d
    (isCandidate g old = true →
      (changes → up → t.bss.factor = old ∧ t.bss.announced = some needed ∧ t.bss.lowerFits = 0)
      ∧ (changes → ¬ up → t.bss.factor = needed ∧ t.bss.announced = none ∧ t.bss.lowerFits = 0
        ∧ (s.listens 12 = true → s.reports t changed = true))
      ∧ (¬ changes → t.bss.factor = old ∧ t.bss.announced = none
        ∧ t.bss.lowerFits = (if t.bss.mode ≠ .fixed ∧ needed < old then count + 1 else 0))
      ∧ t.bss.shortfall = decide (¬ fits ∨ skips)
      ∧ (s.bss.shortfall = false → s.listens 11 = true →
        (¬ fits → s.reports t (.capacityShort false t.bss.factor needed d (capacity g needed)) = true)
        ∧ (fits → skips → s.reports t (.capacityShort true t.bss.factor needed d (capacity g needed)) = true)))
    ∧ (isCandidate g old = false → t.bss.factor = needed ∧ t.bss.announced = none ∧ t.bss.lowerFits = 0
      ∧ (s.listens 12 = true → s.reports t changed = true)
      ∧ (s.ses.session = .carrying ∨ s.ses.session = .quiet → t.ses.session = .carrying ∨ t.ses.session = .quiet →
        t.ses.session = .quiet ∧ t.ses.quiet.cadence = true)
      ∧ t.bss.shortfall = (s.bss.shortfall || decide skips))

/-! ### Capacity and the factor (sections 6.2 to 6.4) -/

/-- R101: the capacity of a frame at a factor, a negative floor counting as 0, never falls when the factor rises,
and the plan of a frame has the capacity of the geometry and the factor in force after its frame start. -/
def Obligations.CapacityOfFrames : Prop :=
  (∀ (g : Geometry) (f : Nat), g.ha ≤ g.ht → g.va ≤ g.vt →
    (capacity g f : Int) = g.va * min 8 (max 0 ((((g.ht - g.ha) * f - 24 : Int)) / 32))
      + (g.vt - g.va) * min 8 (max 0 (((g.ht * f - 24 : Int)) / 32)))
  ∧ (∀ (g : Geometry) (f f' : Nat), f ≤ f' → capacity g f ≤ capacity g f')
  ∧ (∀ (i : Instr) (s t : State) (term : Bool), frameRow i = some term → exec i s = .next t →
      t.fmon.fsn ≠ s.fmon.fsn → t.bss.plan.map (·.slots) = some (capacity t.fmon.geometry t.bss.factor))

/-- The plan of a frame. A packet of n slots goes to the least position at or after the cursor from which n slots lie on one
line, and does not fit where there is none (R100; that the lines of vertical blanking come first is log entry 14). The
first stage places the entries due, in index order, from position 0, and lists those that do not fit as skipped (R110, R115).
The second gives audio the least of what the FIFO offers, the audio part of the demand and the free slots; groups handed over
leave the FIFO, which is emptied outside CARRYING and by a new format; FILLING becomes FLOWING with 32 groups present
(R111, R148, R151, R152). The link frame carries the standing packets, then the audio packets, then those of the third stage
(R113, R116, R152). -/
def Obligations.FramePlans : Prop :=
  (∀ (g : Geometry) (f c n p : Nat), 1 ≤ n → (placeAt g f c n = some p ↔
    c ≤ p ∧ onOneLine g f p n = true ∧ ∀ q, c ≤ q → q < p → onOneLine g f q n = false))
  ∧ (∀ (i : Instr) (s t : State) (term : Bool), frameRow i = some term → exec i s = .next t → t.fmon.fsn ≠ s.fmon.fsn →
    ∃ p, t.bss.plan = some p ∧
      let g := t.fmon.geometry
      let stage := layStanding g t.bss.factor 0 t.dueSlots
      let gpp := fun (a : AudioFormat) => if a.channels = 2 then 4 else 1
      let carrying := t.ses.session = .carrying ∧ s.ain.pending = none
      let groups := if carrying then s.ain.fifo else []
      let flows : AudioState := if s.ain.audio = .filling ∧ 32 ≤ groups.length then .flowing else s.ain.audio
      let packetOf := fun (x : Nat × Nat) =>
        let en := t.stt.entries.getD x.1 StandingEntry.empty
        packetBytes .standing t.fmon.fsn (BitVec.ofNat 8 x.1) en.kind en.version en.payload
      p.standing = stage.2.1 ∧ p.skipped = stage.2.2
      ∧ (∀ a, s.ain.format = some a → carrying →
        p.audioPackets = min (if flows = .flowing then groups.length / gpp a else 0)
          (min (ceilDiv (ceilDiv (a.rate * 1000) g.rate) (gpp a) + 1) (capacity g t.bss.factor - stage.1))
        ∧ p.audioGroups = p.audioPackets * gpp a ∧ t.ain.fifo = groups.drop (p.audioPackets * gpp a)
        ∧ (t.ses.lanes = true → ((s.packetsTo t).drop p.standing.length).take p.audioPackets
          = (List.range p.audioPackets).map (fun k => packetBytes .audio t.fmon.fsn (BitVec.ofNat 8 (gpp a))
              (BitVec.ofNat 8 a.channels) (BitVec.ofNat 8 a.wordLength)
              (((groups.drop (k * gpp a)).take (gpp a)).flatten.flatMap (fun x => beBytes 3 x.toNat)))))
      ∧ (¬ carrying ∨ s.ain.format = none → p.audioPackets = 0 ∧ p.audioGroups = 0 ∧ t.ain.fifo = groups)
      ∧ (s.ain.pending = none → t.ain.audio
        = (if ¬ carrying ∧ s.ain.audio = .flowing then .filling else flows))
      ∧ (t.ses.lanes = true → t.ses.session = .carrying ∨ t.ses.session = .quiet →
        (s.packetsTo t).take p.standing.length = p.standing.map packetOf
        ∧ (s.packetsTo t).length = p.standing.length + p.audioPackets + p.addressed.length))

/-- The third stage. Packets whose deadline has passed leave their queues first, with EXPIRED (R130). Where the session
carries, no walk runs and slots are free (R112), the class heads leave in order: URGENT, NORMAL, BULK, the BULK head
before them all where the starvation count is 8 (R131). A head whose target is gone completes with TARGET_GONE; a class
stops at a head that does not fit, that needs a seventeenth place in the awaiting-ack list, or at the end of the free slots
(R132). A packet placed takes the frame's FSN and one attempt more; without acknowledgement it completes with OK, else it joins
the awaiting-ack list, with a tag of its entry's own count the first time (R134, R82). The starvation count is 0 after a BULK
packet placed or an empty BULK queue, else one more, at most 8 (R133). The due marks follow (R135). -/
def Obligations.PacketSelection : Prop :=
  ∀ (i : Instr) (s t : State) (term : Bool), frameRow i = some term → exec i s = .next t → t.fmon.fsn ≠ s.fmon.fsn →
    s.settledHands → s.ses.presence = true → ∀ p, t.bss.plan = some p →
    let g := t.fmon.geometry
    let f := t.bss.factor
    let now := t.fmon.fsn
    let c0 := (layStanding g f 0 t.dueSlots).1 + p.audioPackets
    let carries := t.ses.session = .carrying ∨ t.ses.session = .quiet
    let selects := carries ∧ s.rwk.walking = false ∧ c0 < capacity g f
    let live := fun (ps : List Packet) => ps.filter (fun q => !q.late now)
    let left := fun (ps qs : List Packet) => (live ps).take ((live ps).length - qs.length)
    let there := fun (q : Packet) => q.target = .broadcast ∨
      ((entryAt s q.target.index).state = .active ∧ q.target = .tile q.target.index (entryAt s q.target.index).serial)
    let placed := fun (ps qs : List Packet) => (left ps qs).filter (fun q => decide (there q))
    let u := placed s.apq.urgent t.apq.urgent
    let n := placed s.apq.normal t.apq.normal
    let b := placed s.apq.bulk t.apq.bulk
    let starving := s.apq.starve = 8 ∧ live s.apq.bulk ≠ []
    let b1 := if starving then b.take 1 else []
    let order := b1 ++ u ++ n ++ b.drop b1.length
    let cursor := fun (k : Nat) => layAll g f c0 ((order.take k).map (fun q => slotsFor q.len))
    let acks := fun (k : Nat) => s.apq.awaiting.length + ((order.take k).filter (·.ack)).length
    let fits := fun (k : Nat) (q : Packet) => (placeAt g f (cursor k) (slotsFor q.len)).isSome = true
      ∧ (q.ack = true → acks k < 16)
    let stops := fun (k : Nat) (qs : List Packet) => ∀ q ∈ qs.head?, capacity g f ≤ cursor k ∨ (there q ∧ ¬ fits k q)
    let fresh := fun (j : Nat) (q : Packet) => q.ack && q.tag.isNone && decide (q.target ≠ .broadcast ∧ q.target.index = j)
    let count := fun (j k : Nat) => BitVec.ofNat 8 ((order.take k).filter (fresh j)).length
    let after := fun (k : Nat) (q : Packet) =>
      { q with
        attempts := q.attempts + 1, placed := some now, due := false
        tag := if fresh q.target.index q then some ((entryAt s q.target.index).nextTag + count q.target.index k) else q.tag }
    let marked := s.apq.awaiting.map (fun q => { q with due := q.due || q.placed.any (fun x => reached now (x + 2)) })
    (s.frameHandles.Nodup → ∀ q ∈ classPackets s.apq, q.late now = true → s.canComplete q.handle →
      s.completes t q.handle .expired (placedWord q) (sendWord q) = true)
    ∧ (¬ selects → t.apq.urgent = live s.apq.urgent ∧ t.apq.normal = live s.apq.normal ∧ t.apq.bulk = live s.apq.bulk
      ∧ t.apq.awaiting = marked ∧ t.apq.starve = s.apq.starve ∧ p.addressed = [])
    ∧ (selects →
      t.apq.urgent <:+ live s.apq.urgent ∧ t.apq.normal <:+ live s.apq.normal ∧ t.apq.bulk <:+ live s.apq.bulk
      ∧ (∀ k q, order[k]? = some q → fits k q)
      ∧ stops (b1 ++ u).length t.apq.urgent ∧ stops (b1 ++ u ++ n).length t.apq.normal
      ∧ stops (if starving ∧ b1 = [] then 0 else order.length) t.apq.bulk
      ∧ p.addressed = order.map (fun q => ⟨q.target.address, slotsFor q.len⟩)
      ∧ t.apq.starve = (if live s.apq.bulk = [] ∨ b ≠ [] then 0 else min 8 (s.apq.starve + 1))
      ∧ t.apq.awaiting = marked ++ (order.mapIdx after).filter (·.ack)
      ∧ (∀ j < s.rwk.roster.length, (entryAt t j).nextTag = (entryAt s j).nextTag + count j order.length)
      ∧ (t.ses.lanes = true → (s.packetsTo t).drop (p.standing.length + p.audioPackets)
        = (order.mapIdx after).map (fun q => packetBytes .addressed now q.target.address (if q.tag.isSome then 1 else 0)
            (q.tag.getD 0) q.payload))
      ∧ (s.frameHandles.Nodup →
        (∀ q ∈ left s.apq.urgent t.apq.urgent ++ left s.apq.normal t.apq.normal ++ left s.apq.bulk t.apq.bulk,
          ¬ there q → s.canComplete q.handle → s.completes t q.handle .targetGone (placedWord q) (sendWord q) = true)
        ∧ (∀ q ∈ order.mapIdx after, q.ack = false → s.canComplete q.handle →
          s.completes t q.handle .ok now (sendWord q) = true)))

/-- The needed factor is a candidate; in AUTO it is the smallest candidate that has room for the demand, or the
largest candidate; in FLOOR the greater of that and the host factor reduced to the largest candidate; in FIXED the
host factor, so reduced if it is no candidate (R103, R104). -/
def Obligations.NeededFactor : Prop :=
  ∀ (b : Bss) (g : Geometry) (d : Nat), isCandidate g 1 = true → factorLegal b.hostFactor →
    let cand := fun f => factorLegal f ∧ isCandidate g f = true
    let largest := fun m => cand m ∧ ∀ f, cand f → f ≤ m
    let isAuto := fun n => (cand n ∧ d ≤ capacity g n ∧ ∀ f, cand f → d ≤ capacity g f → n ≤ f)
      ∨ ((∀ f, cand f → capacity g f < d) ∧ largest n)
    cand (neededFactor b g d)
    ∧ (b.mode = .auto → isAuto (neededFactor b g d))
    ∧ (b.mode = .floor → ∃ n m, isAuto n ∧ largest m ∧ neededFactor b g d = max n (min b.hostFactor m))
    ∧ (b.mode = .fixed → (cand b.hostFactor → neededFactor b g d = b.hostFactor)
        ∧ (isCandidate g b.hostFactor = false → largest (neededFactor b g d)))

/-! ### The video input (sections 2.4 to 2.9, 10) -/

/-- When a completed measurement is valid (R31), when two are equal (R32), the measured rate, and when an entry of the table fits
a measurement (R37). Classification chooses the first present entry that fits, and code 0 with the measurement's own numbers if
none does (R37, R39). A measurement judged in ACQUIRING and in LOCKED (R31, R32, R34): in ACQUIRING with no reference
a valid one becomes the reference with count 1; valid and equal to the
reference it counts, or locks at the third, or changes nothing in LOCKED; valid and different it starts a new
run; invalid it leaves no reference; in LOCKED the last two post FORMAT_LOST. -/
def Obligations.MeasurementsAndFormats : Prop :=
  (∀ (o : OpenMeasurement) (m : Measurement), measurementValid o m = true ↔
      o.invalid = false ∧ o.differed = false ∧ 0 < m.ha ∧ 0 < m.va ∧ m.ha < m.ht ∧ m.va < m.vt ∧ m.ht ≤ 8191 ∧ m.vt ≤ 4095
        ∧ m.ht * m.vt * 27000000 ≤ 300000000 * m.period ∧ measuredRate m.period ≤ 240000)
  ∧ (∀ p : Nat, 0 < p → 27000000000 * 2 < (2 * measuredRate p + 1) * p
      ∧ (2 * measuredRate p) * p ≤ 27000000000 * 2 + p)
  ∧ (∀ m r : Measurement, m.equals r = true ↔
      m.ht = r.ht ∧ m.ha = r.ha ∧ m.vt = r.vt ∧ m.va = r.va ∧ m.interlaced = r.interlaced ∧ m.hPol = r.hPol
        ∧ m.vPol = r.vPol ∧ ((m.period : Int) - r.period).natAbs * 200 ≤ r.period)
  ∧ (∀ (e : FormatEntry) (m : Measurement), e.fits m = true ↔
      e.ht = m.ht ∧ e.ha = m.ha ∧ e.vt = m.vt ∧ e.va = m.va ∧ e.interlaced = m.interlaced
        ∧ ((measuredRate m.period : Int) - e.rate).natAbs * 200 ≤ e.rate)
  ∧ (∀ (f : Fmon) (m : Measurement),
      (∀ (k : Nat) (e : FormatEntry), (formatTable f)[k]? = some (some e) → e.fits m = true →
        (∀ j < k, ∀ e', (formatTable f)[j]? = some (some e') → e'.fits m = false) →
        classify f m = ⟨k + 1, e.ht, e.ha, e.vt, e.va, e.interlaced, e.rate, 0⟩)
      ∧ ((∀ (k : Nat) (e : FormatEntry), (formatTable f)[k]? = some (some e) → e.fits m = false) →
        classify f m = ⟨0, m.ht, m.ha, m.vt, m.va, m.interlaced, measuredRate m.period, m.period⟩))
  ∧ (∀ (s : State) (m : Measurement),
      let run : State := { s with fmon := { s.fmon with monitor := .acquiring, reference := some m, equalCount := 1 } }
      let none_ : State := { s with fmon := { s.fmon with monitor := .acquiring, reference := none, equalCount := 0 } }
      (s.fmon.monitor = .acquiring →
        (s.fmon.reference = none → judgeMeasurement m true s = run)
        ∧ (∀ r, s.fmon.reference = some r →
          (m.equals r = true → s.fmon.equalCount < 2 → judgeMeasurement m true s =
            { s with fmon := { s.fmon with equalCount := s.fmon.equalCount + 1 } })
          ∧ (m.equals r = true → 2 ≤ s.fmon.equalCount → (judgeMeasurement m true s).fmon.monitor = .locked
            ∧ (judgeMeasurement m true s).fmon.geometry = classify s.fmon r)
          ∧ (m.equals r = false → judgeMeasurement m true s = run))
        ∧ judgeMeasurement m false s = none_)
      ∧ (s.fmon.monitor = .locked →
        (∀ r, s.fmon.reference = some r →
          (m.equals r = true → judgeMeasurement m true s = s)
          ∧ (m.equals r = false → judgeMeasurement m true s = postLost .changed run))
        ∧ judgeMeasurement m false s = postLost .invalid none_))

/-- LOAD-FORMAT-ENTRY: its checks, the entry written or cleared, and in LOCKED the reference classified again, which
posts FORMAT_LOCKED where the code changes (R38), the event written before the completion, in the order in which FMON hands
them over (log entry 10). The words of BAD_PARAM, 0 and 0, are log entry 40's. SET-PIXEL-INPUT puts the mode and the chroma method in force at the take; PXP waits for a line, and FMON gives up
its measurement and run and learns anew, a lock lost being reported at the next frame start, and what came before in a run of the present line being
discarded (R35, R158). That learning anew forgets the last code's flag, a boundary due and the periods since the codes, and
keeps the previous line's length, is the model's choice (log entry 21), and so is that a line in progress goes on between separate-sync
modes and ends with an embedded-code mode, and that the code error count stays (log entry 43). -/
def Obligations.InputCommands : Prop :=
  (∀ (s : State) (g : Ring) (c : RecordRing) (tag : HostTag) (code : Byte) (clear il : Bool) (ht ha vt va : Half)
    (rate : Word), s.Fetching controlRing g c →
    let h := s.takenAs controlRing g tag
    let s1 := s.taken controlRing g tag
    let run := exec (.loadFormatEntry tag code clear il ht ha vt va rate) s
    let good := 25 ≤ code.toNat ∧ code.toNat ≤ 32 ∧ (clear = true ∨
      (2 ≤ ht.toNat ∧ ht.toNat ≤ 8191 ∧ 2 ≤ vt.toNat ∧ vt.toNat ≤ 4095 ∧ 1 ≤ ha.toNat ∧ ha.toNat < ht.toNat
        ∧ 1 ≤ va.toNat ∧ va.toNat < vt.toNat ∧ 12000 ≤ rate.toNat ∧ rate.toNat ≤ 240000
        ∧ ht.toNat * vt.toNat * rate.toNat ≤ 300000000 * 1000))
    let entry : Option FormatEntry :=
      if clear then none else some ⟨ht.toNat, ha.toNat, vt.toNat, va.toNat, il, rate.toNat⟩
    let f1 : Fmon := { s1.fmon with loadable := s1.fmon.loadable.set (code.toNat - 25) entry }
    (¬ good → run = .next (s1.completed c h .badParam 0 0))
    ∧ (good → s.fmon.monitor ≠ .locked →
      run = .next ({ s1 with fmon := f1 }.completed c h .ok (word code.toNat) (word s.fmon.geometry.code)))
    ∧ (∀ r, good → s.fmon.monitor = .locked → s.fmon.reference = some r →
      let g1 := classify f1 r
      (g1.code = s.fmon.geometry.code →
        run = .next ({ s1 with fmon := f1 }.completed c h .ok (word code.toNat) (word s.fmon.geometry.code)))
      ∧ (g1.code ≠ s.fmon.geometry.code →
        run = .next ((writeEvent (.formatLocked g1) { s1 with
          fmon := { f1 with geometry := g1 }
          ses := { s1.ses with formatDrop := true } }).completed c h .ok (word code.toNat) (word g1.code)))))
  ∧ (∀ (s : State) (g : Ring) (c : RecordRing) (tag : HostTag) (mode method : Byte), s.Fetching streamRing g c →
    let h := s.takenAs streamRing g tag
    let s1 := s.taken streamRing g tag
    let run := exec (.setPixelInput tag mode method) s
    (modeOf mode = none ∨ methodOf method = none → run = .next (s1.completed c h .badParam 0 0))
    ∧ (∀ m k, modeOf mode = some m → methodOf method = some k →
      let learned : Fmon := { s1.fmon with
        prevAlign := none, hLevel := none, vLevel := none, codeV := none, boundaryDue := none, sinceLine := none
        sinceSav := none, vEdges := 0, hEdges := 0 }
      let p1 : Pxp := { s1.pxp with
        mode := m, method := k, active := false, pictureMark := false, pixelCount := 0, run := []
        lineOpen := s.pxp.lineOpen && !m.embedded, lastFlag := none, cut := true }
      let w := word (mode.toNat + 2 ^ 8 * method.toNat)
      (s.fmon.monitor = .noSignal →
        run = .next ({ s1 with pxp := p1, fmon := learned }.completed c h .ok s.fmon.fsn w))
      ∧ (s.fmon.monitor ≠ .noSignal →
        run = .next ({ s1 with
          pxp := p1
          fmon := { learned with
            monitor := .acquiring, measuring := none, reference := none, equalCount := 0, activity := some s.now
            lossReport := s.fmon.lossReport || decide (s.fmon.monitor = MonitorState.locked) }
          }.completed c h .ok s.fmon.fsn w))))

/-- An edge of PX_HS and the end of an assertion of PX_DE in the separate-sync modes (R30, R31, R158, R159). The first two edges of
PX_HS complete no cycle and only count, and the edge that completes the first cycle starts no line (log entry 21); an edge into
the active level that a cycle has taught starts one: FMON counts it; the pixel periods since the line start before, counted from edge
to edge, also where the active level has changed since, are the length of the line before, which has none where no line start came
before (log entry 21); the pixel periods of PX_DE in that line become its active pixels, and two different lengths mark the
measurement. A line start within an assertion
ends its run there, and what follows begins the next line; while no level is known, an edge between two assertions is
taken to part their lines (log entry 11). The first pixels of a line are one active line
more, also where the opening boundary fell among them (log entry 21). PXP has one run and one picture line for each line,
counted at the first end of its run, the count stopping at 4095 (log entry 32): a further assertion lengthens what that line
shows. Words before the last SET-PIXEL-INPUT among them are discarded, those before the last frame start are no pixels of the
frame, and the chroma pairs count from the first word kept (log entry 43). -/
def Obligations.LinesAndRuns : Prop :=
  ∀ (s : State) (level : Level) (high low : Nat) (w : PixelWords), s.handed = [] → s.pxp.mode.embedded = false →
    let l : Level := if high < low then .high else .low
    let n := s.fmon.sinceLine.map (fun k => k + (if level = .high then low else high))
    let old := if s.pxp.cut then w.old else 0
    let early := if s.pxp.newFrame then w.early else 0
    let periods := w.words.length - old
    let ended := fun (o : OpenMeasurement) =>
      if o.lineHa = 0 then o else { o with
        ha := some (o.ha.getD o.lineHa), lineHa := 0
        differed := o.differed || decide (o.ha.getD o.lineHa ≠ o.lineHa) }
    let measured := fun (o : OpenMeasurement) =>
      { o with va := if 0 < periods ∧ o.lineHa = 0 then o.va + 1 else o.va, lineHa := o.lineHa + periods }
    let line := fun (o : OpenMeasurement) => { ended o with
      vt := o.vt + 1, ht := if o.ht.isSome then o.ht else n
      differed := (ended o).differed || decide (o.ht.isSome ∧ n.isSome ∧ o.ht ≠ n) }
    let run := s.pxp.run ++ w.words.drop (max old early)
    let seen : State := if w.words = [] then { s with pxp := { s.pxp with cut := false, newFrame := false } } else { s with
      fmon := { s.fmon with measuring := s.fmon.measuring.map measured }
      pxp := { s.pxp with
        run := run, pixelCount := min 8191 run.length, cut := false, newFrame := false } }
    let shown := ((runPixels s.pxp.mode s.pxp.method run).take s.fmon.geometry.ha).map
      (transformPixel s.pxp.transform s.pxp.range)
    let picture :=
      if s.pxp.lineOpen then
        if s.pxp.source = .input ∧ s.pxp.picture.length = s.pxp.lineCount then s.pxp.picture.dropLast ++ [shown]
        else s.pxp.picture
      else if s.pxp.source = .input ∧ s.pxp.lineCount < s.fmon.geometry.va then s.pxp.picture ++ [shown]
      else s.pxp.picture
    let lines := if s.pxp.lineOpen then s.pxp.lineCount else min 4095 (s.pxp.lineCount + 1)
    let fresh : Pxp := { seen.pxp with run := [], pixelCount := 0, lineOpen := false }
    let parted : State := if w.words = [] ∧ s.fmon.hLevel = none then { seen with
      fmon := { s.fmon with measuring := s.fmon.measuring.map ended }, pxp := fresh } else seen
    (w.words ≠ [] → exec (.activeRunEnd w) s = .next { seen with pxp := { seen.pxp with
      picture := picture, lineCount := lines, pixelCount := 0, lineOpen := true } })
    ∧ (s.fmon.hEdges < 2 → exec (.lineStart ⟨level, w⟩ high low) s = .next { parted with fmon := { parted.fmon with
      hEdges := s.fmon.hEdges + 1 } })
    ∧ (2 ≤ s.fmon.hEdges → s.fmon.hLevel = none ∨ level ≠ l →
      exec (.lineStart ⟨level, w⟩ high low) s = .next { parted with fmon := { parted.fmon with
        hLevel := some l, sinceLine := n } })
    ∧ (2 ≤ s.fmon.hEdges → s.fmon.hLevel ≠ none → level = l →
      let started : Fmon := { seen.fmon with
        hLevel := some l, prevLine := if n.isSome then n else s.fmon.prevLine, sinceLine := some 0
        measuring := seen.fmon.measuring.map line }
      (w.words = [] → exec (.lineStart ⟨level, w⟩ high low) s = .next { seen with fmon := started, pxp := fresh })
      ∧ (w.words ≠ [] → exec (.lineStart ⟨level, w⟩ high low) s = .next { seen with
        fmon := started, pxp := { fresh with picture := picture, lineCount := lines } }))

/-- A flag word that differs from a pattern in at most one bit decodes or corrects to that pattern's flags, and
one that differs from every pattern in two bits or more is uncorrectable (R160, R161). A timing code is a luma word of all
ones, two of zeros and the flag word; the first one in the words is found, the words before it being content (R160). What
the row does with words whose only code is at their end: a start-of-active code begins an active line, counted where V is clear (log
entry 21: at that code), an end-of-active code starts a line for FMON, with the pixel periods since the last such code as its length and
those between the codes, which no code's own periods are, as its active pixels, and ends PXP's active line, whose picture
the frame takes while it shows the input, the line count stopping at 4095 (log entry 32); words from before the last
SET-PIXEL-INPUT are discarded, and those from before the last frame start are no pixels of the frame (R158, R159); a flag word of
all ones waits as the possible first word of the next code; a run left open goes on at a start-of-active code (log entry 43); a code with V set after one with V
clear makes a boundary; an uncorrectable code counts while a measurement is open, up to 255, and the fourth marks it
invalid (R23, R30, R159 to R161). -/
def Obligations.TimingCodes : Prop :=
  (∀ b : Byte, (∀ c : CodeFlags, popCount 8 (b ^^^ c.pattern) ≤ 1 → decodeFlags b = some c)
      ∧ ((∀ c : CodeFlags, 2 ≤ popCount 8 (b ^^^ c.pattern)) → decodeFlags b = none))
  ∧ (∀ (mode : InputMode) (ws : List Sample),
      let width := if mode = .c20e then 10 else 8
      let luma := fun k => (ws[k]?.map (fun w => w.rising.toNat / 2 ^ width % 2 ^ width)).getD 1
      let code := fun k => k + 3 < ws.length ∧ luma k = 2 ^ width - 1 ∧ luma (k + 1) = 0 ∧ luma (k + 2) = 0
      let found := firstCode mode ws
      (∀ flag, found.2 = some flag → found.1 = ws.take found.1.length ∧ code found.1.length
        ∧ flag = BitVec.ofNat 10 (luma (found.1.length + 3)) ∧ ∀ k < found.1.length, ¬ code k)
      ∧ (found.2 = none → found.1 = ws ∧ ∀ k < ws.length, ¬ code k))
  ∧ (∀ (s : State) (w : PixelWords) (last : Sample) (flag : BitVec 10), s.handed = [] →
      s.pxp.mode.embedded = true →
      let old := if s.pxp.cut then w.old else 0
      let early := if s.pxp.newFrame then w.early else 0
      let held := s.pxp.lastFlag.toList
      let ws := held ++ (w.words ++ [last]).drop old
      let n := ws.length - 4
      let content := if s.pxp.active && s.pxp.pictureMark then (ws.take n).drop (held.length + (early - old)) else []
      firstCode s.pxp.mode ws = (ws.take n, some flag) →
      (∀ c, decodeFlags (flagByte s.pxp.mode flag) = some c →
        ∃ t, exec (.timingCode w last) s = .next t ∧ t.out = s.out ∧ t.ses = s.ses ∧ t.fmon.fsn = s.fmon.fsn
          ∧ t.pxp.lastFlag = none ∧ t.pxp.cut = false ∧ t.pxp.newFrame = false
          ∧ t.fmon.codeV = some c.v ∧ t.pxp.active = !c.h ∧ t.pxp.pictureMark = (!c.h && !c.v)
          ∧ (s.fmon.codeV = some false → c.v = true → t.fmon.boundaryDue = some c.f)
          ∧ (s.fmon.codeV ≠ some false ∨ c.v = false → t.fmon.boundaryDue = s.fmon.boundaryDue)
          ∧ (c.h = true → s.pxp.pictureMark = true →
            t.pxp.lineCount = min 4095 (s.pxp.lineCount + 1) ∧ t.pxp.run = []
            ∧ t.pxp.picture = s.pxp.picture ++ (if s.pxp.source = .input ∧ s.pxp.lineCount < s.fmon.geometry.va then
              [((runPixels s.pxp.mode s.pxp.method (s.pxp.run ++ content)).take s.fmon.geometry.ha).map
                (transformPixel s.pxp.transform s.pxp.range)] else []))
          ∧ (c.h = false → t.pxp.run = s.pxp.run ++ content ∧ t.pxp.lineCount = s.pxp.lineCount)
          ∧ t.fmon.sinceLine = (if c.h then some 4 else s.fmon.sinceLine.map (· + n + 4))
          ∧ t.fmon.sinceSav = (if c.h || c.v then none else some 0)
          ∧ (∀ o, s.fmon.measuring = some o → o.lineHa = 0 → ∃ o1, t.fmon.measuring = some o1
            ∧ o1.vt = o.vt + bitAt 0 c.h ∧ o1.va = o.va + bitAt 0 (!c.h && !c.v)
            ∧ (c.h = false → o1.ht = o.ht ∧ o1.ha = o.ha ∧ o1.differed = o.differed)
            ∧ (c.h = true →
              let ht := s.fmon.sinceLine.map (· + n)
              let ha := s.fmon.sinceSav.map (· + n)
              o1.ht = (if o.ht.isSome then o.ht else ht) ∧ o1.ha = (if o.ha.isSome then o.ha else ha)
              ∧ o1.differed = (o.differed || ht.any (fun p => o.ht.any (· ≠ p)) || ha.any (fun p => o.ha.any (· ≠ p))))))
      ∧ (decodeFlags (flagByte s.pxp.mode flag) = none →
        let ones := flag = BitVec.ofNat 10 (lumaOnes s.pxp.mode)
        let passed := n + (if ones then 3 else 4)
        ∃ t, exec (.timingCode w last) s = .next t ∧ t.out = s.out ∧ t.ses = s.ses
          ∧ t.fmon.codeV = s.fmon.codeV ∧ t.pxp.active = s.pxp.active ∧ t.pxp.pictureMark = s.pxp.pictureMark
          ∧ t.pxp.run = s.pxp.run ++ content ∧ t.pxp.cut = false ∧ t.pxp.newFrame = false
          ∧ t.pxp.lastFlag = (if ones then some last else none)
          ∧ t.fmon.sinceLine = s.fmon.sinceLine.map (· + passed) ∧ t.fmon.sinceSav = s.fmon.sinceSav.map (· + passed)
          ∧ (s.fmon.measuring = none → t.pxp.codeErrors = s.pxp.codeErrors)
          ∧ (∀ o, s.fmon.measuring = some o → t.pxp.codeErrors = min 255 (s.pxp.codeErrors + 1)
            ∧ (3 ≤ s.pxp.codeErrors → s.pxp.errorReported = false →
              t.pxp.errorReported = true ∧ t.fmon.measuring = some { o with invalid := true }))))

/-- R163: each output channel is the sum of products rounded to the nearest, halves up, plus the offset, clamped to
the output range. The identity transform passes a ten-bit value unchanged under FULL, and under NARROW takes it
to 64 to 940; the fill colour is clamped alone. -/
def Obligations.ColourPath : Prop :=
  (∀ (t : Transform) (r : OutputRange) (p : Pixel) (j : Nat),
    let x := t.coeffs.getD (3 * j) 0 * p.c0 + t.coeffs.getD (3 * j + 1) 0 * p.c1 + t.coeffs.getD (3 * j + 2) 0 * p.c2
    let y := (x + 2048).fdiv 4096 + t.offsets.getD j 0
    let lo : Int := if r = .narrow then 64 else 0
    let hi : Int := if r = .narrow then 940 else 1023
    (channelOut t r p j : Int) = max lo (min hi y))
  ∧ (∀ p : Pixel, p.c0 ≤ 1023 → p.c1 ≤ 1023 → p.c2 ≤ 1023 →
    transformPixel Transform.identity .full p = p
    ∧ transformPixel Transform.identity .narrow p =
      ⟨max 64 (min 940 p.c0), max 64 (min 940 p.c1), max 64 (min 940 p.c2)⟩
    ∧ clampFill .full p = p
    ∧ clampFill .narrow p = ⟨max 64 (min 940 p.c0), max 64 (min 940 p.c1), max 64 (min 940 p.c2)⟩)

/-! ### Pending records of the stream ring (R109, R147, R164, R165) -/

/-- SET-CADENCE, SET-AUDIO, LOAD-TRANSFORM and SET-FILL with bad parameters complete with BAD_PARAM; else they
become the pending record, which the next frame start applies. A pending record gives way to a newer one, and
the command that carried it completes with SUPERSEDED (R109, R147, R164, R165). -/
def Obligations.PendingRecords : Prop :=
  (∀ (s : State) (g : Ring) (c : RecordRing) (tag : HostTag), s.Fetching streamRing g c →
      let h := s.takenAs streamRing g tag
      let s1 := s.taken streamRing g tag
      let bad : Result := .next (s1.completed c h .badParam 0 0)
      (∀ mode factor reserve,
        (cadenceModeOf mode = none ∨ ¬ (factor = 1 ∨ factor = 2 ∨ factor = 4) ∨ 64 < reserve.toNat →
          exec (.setCadence tag mode factor reserve) s = bad)
        ∧ (∀ m, cadenceModeOf mode = some m → factor = 1 ∨ factor = 2 ∨ factor = 4 → reserve.toNat ≤ 64 →
          s.bss.pending = none → exec (.setCadence tag mode factor reserve) s =
            .next { s1 with bss := { s1.bss with pending := some ⟨m, factor.toNat, reserve.toNat, h⟩ } }))
      ∧ (∀ channels wl rate,
        (audioFormatOf channels wl rate = none → exec (.setAudio tag channels wl rate) s = bad)
        ∧ (∀ f, audioFormatOf channels wl rate = some f → s.ain.pending = none →
          exec (.setAudio tag channels wl rate) s =
            .next { s1 with ain := { s1.ain with pending := some ⟨f, h⟩ } }))
      ∧ (∀ (coeffs offsets : List Half) range,
        (rangeOf range = none ∨ (∃ o ∈ offsets, o.toInt < -2048 ∨ 2047 < o.toInt) →
          exec (.loadTransform tag coeffs offsets range) s = bad)
        ∧ (∀ r, rangeOf range = some r → (∀ o ∈ offsets, -2048 ≤ o.toInt ∧ o.toInt ≤ 2047) →
          s.pxp.pendingTransform = none → exec (.loadTransform tag coeffs offsets range) s =
            .next { s1 with pxp := { s1.pxp with
              pendingTransform := some ⟨⟨coeffs.map BitVec.toInt, offsets.map BitVec.toInt⟩, r, h⟩ } }))
      ∧ (∀ c0 c1 c2 : Half,
        (1023 < c0.toNat ∨ 1023 < c1.toNat ∨ 1023 < c2.toNat → exec (.setFill tag c0 c1 c2) s = bad)
        ∧ (c0.toNat ≤ 1023 → c1.toNat ≤ 1023 → c2.toNat ≤ 1023 → s.pxp.pendingFill = none →
          exec (.setFill tag c0 c1 c2) s =
            .next { s1 with pxp := { s1.pxp with
              pendingFill := some ⟨⟨c0.toNat, c1.toNat, c2.toNat⟩, h⟩ } })))
  ∧ (∀ (s : State) (g : Ring) (c : RecordRing) (tag : HostTag), s.Fetching streamRing g c →
      let h := s.takenAs streamRing g tag
      let s1 := s.taken streamRing g tag
      (∀ mode factor reserve m p, cadenceModeOf mode = some m → factor = 1 ∨ factor = 2 ∨ factor = 4 →
        reserve.toNat ≤ 64 → s.bss.pending = some p → p.handle ∈ s.hif.inFlight →
        exec (.setCadence tag mode factor reserve) s =
          .next ({ s1 with bss := { s1.bss with
            pending := some ⟨m, factor.toNat, reserve.toNat, h⟩ } }.completed c p.handle .superseded 0 0))
      ∧ (∀ channels wl rate f p, audioFormatOf channels wl rate = some f → s.ain.pending = some p →
        p.handle ∈ s.hif.inFlight → exec (.setAudio tag channels wl rate) s =
          .next ({ s1 with ain := { s1.ain with pending := some ⟨f, h⟩ } }.completed c p.handle .superseded 0 0))
      ∧ (∀ (coeffs offsets : List Half) range r p, rangeOf range = some r →
        (∀ o ∈ offsets, -2048 ≤ o.toInt ∧ o.toInt ≤ 2047) → s.pxp.pendingTransform = some p →
        p.handle ∈ s.hif.inFlight → exec (.loadTransform tag coeffs offsets range) s =
          .next ({ s1 with pxp := { s1.pxp with
            pendingTransform := some ⟨⟨coeffs.map BitVec.toInt, offsets.map BitVec.toInt⟩, r, h⟩
            } }.completed c p.handle .superseded 0 0))
      ∧ (∀ (c0 c1 c2 : Half) p, c0.toNat ≤ 1023 → c1.toNat ≤ 1023 → c2.toNat ≤ 1023 → s.pxp.pendingFill = some p →
        p.handle ∈ s.hif.inFlight → exec (.setFill tag c0 c1 c2) s =
          .next ({ s1 with pxp := { s1.pxp with
            pendingFill := some ⟨⟨c0.toNat, c1.toNat, c2.toNat⟩, h⟩ } }.completed c p.handle .superseded 0 0)))


/-! ### The sideband (section 3) -/

/-- SIDEBAND_GRANT while the channel is FREE: during a walk the walker's request alone; else DR at aging count 8, else
the first of LC, AP, AC, DR. A grant takes the next sequence number and sends attempt 1; the response timer starts,
for RELEASE-ALL the quiet timer (R42, R45, R46, R52, R53). That
both timers start at the moment of sending is log entry 35. -/
def Obligations.SidebandGrants : Prop :=
  ∀ s : State, s.handed = [] →
    let b := s.sbc
    let older := if b.drReq.isSome then min 8 (b.aging + 1) else b.aging
    let serves := fun (r : Requester) (aging : Nat) => ∀ q, requestOf b r = some q → q.kind ≠ .releaseAll →
      exec .sidebandGrant s = .next { s with
        sbc := { setRequest r none b with
          nextSeq := b.nextSeq + 1, aging := aging, channel := .attempt, inFlight := some ⟨r, q, b.nextSeq, 1, none, false⟩
          respTimer := some s.now, quietTimer := none, lateFrame := false }
        out := s.out ++ [.sideband (requestFrame q b.nextSeq)] }
    let nothing := exec .sidebandGrant s = .next s
    (b.channel ≠ .free → nothing)
    ∧ (b.channel = .free → s.rwk.walking = true →
      (b.wkReq = none → nothing) ∧ serves .wk b.aging
      ∧ (b.wkReq = some ⟨0, .releaseAll, []⟩ → exec .sidebandGrant s = .next { s with
          sbc := { b with
            wkReq := none, nextSeq := b.nextSeq + 1, channel := .releaseQuiet
            inFlight := some ⟨.wk, ⟨0, .releaseAll, []⟩, b.nextSeq, 1, none, false⟩
            respTimer := none, quietTimer := some s.now, lateFrame := false }
          out := s.out ++ [.sideband (requestFrame ⟨0, .releaseAll, []⟩ b.nextSeq)] }))
    ∧ (b.channel = .free → s.rwk.walking = false →
      (b.drReq.isSome = true → 8 ≤ b.aging → serves .dr 0)
      ∧ (b.drReq = none ∨ b.aging < 8 →
        serves .lc older
        ∧ (b.lcReq = none → serves .ap older)
        ∧ (b.lcReq = none → b.apReq = none → serves .ac older)
        ∧ (b.lcReq = none → b.apReq = none → b.acReq = none → serves .dr 0)
        ∧ (b.lcReq = none → b.apReq = none → b.acReq = none → b.drReq = none → nothing)))

/-- What ends an attempt before the third without a response: a frame whose check or length fails, or 2 ms without a
frame; the same frame is sent again at once and the kind of failure kept. A frame for another transaction changes
nothing, and a frame that is arriving at 2 ms is waited for (R43, R44): if it is the response, the attempt succeeds with it as with one
in time, and at the end of any other frame, a foreign one too, the attempt fails by timeout, its kind NO_RESPONSE (R44). The response timer of the frame sent again starts at the moment of sending (log entry 35).
A response that a tile frames as the data sheet gives it is accepted, and the same frame with any one byte changed
is a frame whose check or length fails (R43, R187, R188). -/
def Obligations.SidebandFrames : Prop :=
  (∀ (s : State) (x : Transaction), s.handed = [] → s.sbc.channel = .attempt → s.sbc.inFlight = some x →
    x.request.kind ≠ .releaseAll → s.sbc.lateFrame = false →
    let again := fun (k : FailKind) (at_ : Nat) => Host.Outcome.next { s with
      now := at_
      sbc := { s.sbc with
        inFlight := some { x with attempt := x.attempt + 1, lastFailure := some k }
        respTimer := some at_, quietTimer := none }
      out := s.out ++ [Output.sideband (requestFrame x.request x.seq)] }
    (∀ f, judgeFrame x f = .bad → x.attempt < 3 → exec (.sidebandFrameReceived f) s = again .badCheck s.now)
    ∧ (∀ f, judgeFrame x f = .discard → exec (.sidebandFrameReceived f) s = .next s)
    ∧ (∀ t0, s.sbc.respTimer = some t0 →
      (x.attempt < 3 → exec (.attemptTimeout false) s = again .noResponse (max s.now (t0 + 54000)))
      ∧ exec (.attemptTimeout true) s = .next { s with
        now := max s.now (t0 + 54000), sbc := { s.sbc with lateFrame := true } }))
  ∧ (∀ (s : State) (x : Transaction) (t0 : Nat), s.handed = [] → s.sbc.channel = .attempt → s.sbc.inFlight = some x →
    s.sbc.respTimer = some t0 → t0 + 54000 ≤ s.now → s.sbc.lateFrame = true →
    let inTime : State := { s with sbc := { s.sbc with lateFrame := false } }
    (∀ f ack d, judgeFrame x f = .accept ack d →
      exec (.sidebandFrameReceived f) s = exec (.sidebandFrameReceived f) inTime)
    ∧ (∀ f, judgeFrame x f = .bad ∨ judgeFrame x f = .discard →
      exec (.sidebandFrameReceived f) s = exec (.attemptTimeout false) inTime)
    ∧ (∀ arriving, exec (.attemptTimeout arriving) s = .next s))
  ∧ (∀ (x : Transaction) (ack : Bool) (data : List Byte),
    data.length = (if ack then ackLength x.request.kind else 0) →
    let f := responseFrame (responseSource x.request) x.seq ack data
    judgeFrame x f = .accept ack data
    ∧ ∀ (k : Nat) (b : Byte), (∃ c, f[k]? = some c ∧ c ≠ b) → judgeFrame x (f.set k b) = .bad)

/-- The outcome of a LINK-CHECK, with nothing else waiting for the channel. In TRAINING the lock flag sets lock-seen (R9;
any byte other than 0: log entry 41);
in CARRYING or QUIET a tally that lags by 0 to 2 clears the entry's miss count and suspect flag, with TILE_RECOVERED where
the flag was set (its miss count 0: log entry 41), and another tally, NAK, and the third attempt that fails, by its check or by
timeout, are misses: the third miss sets the flag and posts TILE_SUSPECT, and at the root takes the session to FAULTED, and
a further one changes nothing (R19, R44, R45). For an entry that is no longer ACTIVE with the serial of the check, for a stale
check, and in TRAINING for every outcome but a response, the outcome is discarded (R9, R19). So is every outcome that arrives
during a walk, which does not touch the roster; the channel then goes to the walker (R19, R53, R81). The time of the third
attempt's end rests on log entry 35. -/
def Obligations.LinkChecks : Prop :=
  ∀ (s : State) (x : Transaction) (k : LinkCheck), s.handed = [] → s.sbc.channel = .attempt →
    s.sbc.inFlight = some x → x.requester = .lc → x.request.kind = .linkCheck →
    s.ses.linkCheck = some k →
    let free := fun (now : Nat) => { s with
      now := now, sbc := s.sbc.freed, ses := { s.ses with linkCheck := none } }
    let e := entryAt s k.index
    let carries := s.ses.session = .carrying ∨ s.ses.session = .quiet
    let judged := k.stale = false ∧ k.training = false ∧ carries ∧ e.state = .active ∧ e.serial = k.serial
    let set := fun (now : Nat) (f : Entry → Entry) => { free now with rwk := { s.rwk with
      roster := s.rwk.roster.modify k.index f } }
    let third := fun now => set now (fun e => { e with miss := 3, suspect := true })
    let suspect := Event.tileSuspect k.index 3 k.serial
    let misses := fun (run : Result) (now : Nat) =>
      (judged → e.miss < 2 → run = .next (set now (fun e => { e with miss := e.miss + 1 })))
      ∧ (judged → e.miss = 2 → k.index ≠ 0 → run = .next (writeEvent suspect (third now)))
      ∧ (judged → e.miss = 2 → k.index = 0 → s.lanesAgree → run = .next
        (writeEvent (.sessionChanged .faulted s.ses.session .rootCheck s.ses.quiet) (writeEvent suspect
          { third now with
            ses := { s.ses with linkCheck := none, session := .faulted, lanes := false, termLoss := 0 }
            out := s.out ++ [.lanes false] })))
      ∧ (judged → 3 ≤ e.miss → run = .next (free now))
      ∧ (k.stale = true ∨ k.training = true ∨ ¬ carries ∨ e.state ≠ .active ∨ e.serial ≠ k.serial →
        run = .next (free now))
    (s.rwk.walking = false → s.sbc.idleRequests → (∀ f d, judgeFrame x f = .accept true d →
      let run := exec (.sidebandFrameReceived f) s
      (k.training = true → k.stale = false → run = .next { free s.now with ses := { s.ses with
        linkCheck := none
        lockSeen := s.ses.lockSeen || (decide (s.ses.session = .training) && checkLock d) } })
      ∧ (judged → (k.c - checkTally d).toNat ≤ 2 →
        let pass := set s.now (fun e => { e with miss := 0, suspect := false })
        run = .next (if e.suspect then writeEvent (.tileRecovered k.index 0 k.serial) pass else pass))
      ∧ (k.training = false → 2 < (k.c - checkTally d).toNat → misses run s.now)
      ∧ (k.stale = true ∨ (k.training = false ∧ ¬ judged) → run = .next (free s.now)))
    ∧ s.attemptFails x misses)
    ∧ (s.rwk.walking = true → s.sbc.deferred = none → s.ses.session ≠ .training →
      let discarded := fun (run : Result) (now : Nat) =>
        run = .next ({ s with ses := { s.ses with linkCheck := none } }.channelToWalker now)
      (∀ f d, judgeFrame x f = .accept true d → discarded (exec (.sidebandFrameReceived f) s) s.now)
      ∧ s.attemptFails x discarded)

/-- SB_ATTN# and the poll: asserted while the poll is IDLE, the presence is asserted and no walk runs, it begins a round
with a GET-NOTICE for the lowest ACTIVE index, or the holdoff with none ACTIVE; released while that request waits,
it ends the round; the holdoff ends after 100 ms, and with the line asserted then a round begins as at an assertion (R55, R56). A GET-NOTICE of a
new round that has to wait for the end of the poll's own unwanted transaction waits as deferred, and a release of SB_ATTN# withdraws
it so too (R51; log entry 42). The outcome of a GET-NOTICE, with nothing else waiting for the
channel: a notice is reported with TILE_NOTICE, and every other outcome holds none (R56, R57); then, with the line
asserted, the next ACTIVE index is asked, after the last one a new round begins if the round found a notice and else the holdoff, and
with the line released the poll is IDLE (R56). A DOWNSTREAM_CHANGED notice under AUTO_REFRESH in READY, CARRYING or QUIET
starts a refresh walk, which ends the round (R57, R55). A GET-NOTICE whose round a walk has ended, its outcome arriving during the walk or after it, leaves its
index and a notice found behind, reports the notice, and starts no request and no walk (R55 to R57; during the walk the channel goes to
the walker, R53; that no test of the line is made then, and that TILE_NOTICE carries the serial at the transaction's end, is log entry
41). The timer of the request sent and the time of the third attempt's end (R44) rest on log entry 35. -/
def Obligations.AttentionPoll : Prop :=
  (∀ s : State, s.handed = [] →
    let low : State := { s with pins := { s.pins with attn := true } }
    let waits := s.sbc.apReq.isSome = true ∨ (flightIs .ap s = true ∧ s.sbc.deferred.isSome = true)
    (s.pins.attn = false → s.sbc.poll = .idle → s.ses.presence = true → s.rwk.walking = false →
      (∀ i is, activeIndices s = i :: is →
        let request : Request := ⟨BitVec.ofNat 8 (i + 1), .getNotice, []⟩
        let b := { s.sbc with noticeFound := false, pollCursor := none, poll := .round }
        (flightIs .ap s = false → exec .attentionAsserted s = .next { low with sbc := { b with apReq := some request } })
        ∧ (flightIs .ap s = true →
          exec .attentionAsserted s = .next { low with sbc := { b with deferred := some request } }))
      ∧ (activeIndices s = [] → exec .attentionAsserted s = .next { low with sbc := { s.sbc with
        noticeFound := false, pollCursor := none, poll := .holdoff, holdoff := some s.now } }))
    ∧ (s.pins.attn = false → (s.sbc.poll ≠ .idle ∨ s.ses.presence = false ∨ s.rwk.walking = true) →
      exec .attentionAsserted s = .next low)
    ∧ (s.pins.attn = true → exec .attentionAsserted s = .next s)
    ∧ (s.sbc.poll = .round → waits → exec .attentionReleased s = .next { s with
        pins := { s.pins with attn := false }
        sbc := { s.sbc with
          poll := .idle, apReq := none, deferred := if flightIs .ap s then none else s.sbc.deferred } })
    ∧ (s.sbc.poll ≠ .round ∨ ¬ waits → exec .attentionReleased s =
        .next { s with pins := { s.pins with attn := false } })
    ∧ (∀ t0, s.sbc.poll = .holdoff → s.sbc.holdoff = some t0 → s.pins.attn = false →
      exec .holdoffExpiry s = .next { s with
        now := max s.now (t0 + 2700000), sbc := { s.sbc with poll := .idle, holdoff := none } })
    ∧ (∀ t0, s.sbc.poll = .holdoff → s.sbc.holdoff = some t0 → s.pins.attn = true →
      let now := max s.now (t0 + 2700000)
      let b := { s.sbc with noticeFound := false, pollCursor := none }
      let run := exec .holdoffExpiry s
      (s.ses.presence = false ∨ s.rwk.walking = true → run = .next { s with
        now := now, sbc := { s.sbc with poll := .idle, holdoff := none } })
      ∧ (s.ses.presence = true → s.rwk.walking = false →
        (∀ i is, activeIndices s = i :: is →
          let request : Request := ⟨BitVec.ofNat 8 (i + 1), .getNotice, []⟩
          let r := { b with poll := .round, holdoff := none }
          (flightIs .ap s = false → run = .next { s with now := now, sbc := { r with apReq := some request } })
          ∧ (flightIs .ap s = true → run = .next { s with now := now, sbc := { r with deferred := some request } }))
        ∧ (activeIndices s = [] → run = .next { s with now := now, sbc := { b with holdoff := some now } }))))
  ∧ (∀ (s : State) (x : Transaction) (i : Nat), s.handed = [] → s.sbc.channel = .attempt → s.sbc.inFlight = some x →
    x.requester = .ap → x.request = ⟨BitVec.ofNat 8 (i + 1), .getNotice, []⟩ → i < 64 →
    (s.rwk.walking = true → s.sbc.deferred = none → x.orphan = true ∨ s.sbc.poll ≠ .round →
      let asked := fun (found : Bool) => { s with sbc := { s.sbc with pollCursor := some i, noticeFound := found } }
      let none_ := fun (run : Result) (now : Nat) => run = .next ((asked s.sbc.noticeFound).channelToWalker now)
      (∀ f d, judgeFrame x f = .accept true d →
        let run := exec (.sidebandFrameReceived f) s
        (d.getD 0 0 = 0 → none_ run s.now)
        ∧ (d.getD 0 0 ≠ 0 → run = .next (writeEvent (.tileNotice i (d.getD 0 0) (d.getD 1 0) (entryAt s i).serial)
          ((asked true).channelToWalker s.now))))
      ∧ s.attemptFails x none_)
    ∧ (s.sbc.idleRequests → s.rwk.walking = false → s.ses.presence = true →
    let after := (activeIndices s).filter (fun k => decide (i < k))
    let goesOn := fun (s : State) (run : Result) (told : State → State) (found : Bool) =>
      let b := { s.sbc.freed with pollCursor := some i, noticeFound := found }
      let asks := fun (b : Sbc) (k : Nat) => told ({ s with sbc := { b with poll := .round } }.requesterSends .ap
        ⟨BitVec.ofNat 8 (k + 1), .getNotice, []⟩)
      (s.pins.attn = false → run = .next (told { s with sbc := { b with poll := .idle } }))
      ∧ (∀ k ks, s.pins.attn = true → after = k :: ks → run = .next (asks b k))
      ∧ (∀ k ks, s.pins.attn = true → after = [] → found = true → activeIndices s = k :: ks →
        run = .next (asks { b with noticeFound := false, pollCursor := none } k))
      ∧ (s.pins.attn = true → after = [] → found = false → run = .next (told { s with sbc := { b with
        poll := .holdoff, holdoff := some s.now } }))
    let noNotice := fun (run : Result) (now : Nat) =>
      let s : State := { s with now := now }
      (x.orphan = false → s.sbc.poll = .round → goesOn s run id s.sbc.noticeFound)
      ∧ (x.orphan = true → run = .next { s with sbc := { s.sbc.freed with pollCursor := some i } })
    (∀ f d, judgeFrame x f = .accept true d →
      let run := exec (.sidebandFrameReceived f) s
      let told := writeEvent (.tileNotice i (d.getD 0 0) (d.getD 1 0) (entryAt s i).serial)
      let walks := d.getD 0 0 = 1 ∧ s.ses.autoRefresh = true
        ∧ (s.ses.session = .ready ∨ s.ses.session = .carrying ∨ s.ses.session = .quiet)
      (d.getD 0 0 = 0 → noNotice run s.now)
      ∧ (d.getD 0 0 ≠ 0 → ¬ walks → (x.orphan = false → s.sbc.poll = .round → goesOn s run told true)
        ∧ (x.orphan = true →
          run = .next (told { s with sbc := { s.sbc.freed with pollCursor := some i, noticeFound := true } })))
      ∧ (walks → s.sbc.poll = .round → ∃ t, run = .next t ∧ t.rwk.walking = true ∧ t.rwk.kind = .refresh
        ∧ t.rwk.starter = .autoRefresh ∧ t.ses.session = s.ses.session ∧ t.sbc.poll = .idle ∧ t.sbc.apReq = none
        ∧ t.sbc.inFlight.map (·.requester) = some .wk
        ∧ (s.listens 8 = true →
          s.reports t (.tileNotice i (d.getD 0 0) (d.getD 1 0) (entryAt s i).serial) = true)
        ∧ (s.listens 6 = true →
          s.reports t (.walkStarted .refresh .autoRefresh s.rwk.generation) = true)))
    ∧ s.attemptFails x noNotice))

/-! ### The roster and walks (section 4) -/

/-- ENUMERATE: the kind, the session state, the walk in progress, in this order; FULL takes the session to WALKING, makes
the roster VACANT and asks for RELEASE-ALL; REFRESH keeps the session and the entries and asks the root for VERIFY,
or with entry 0 VACANT the own port for PROBE; a request waits for the end of a transaction of the walker that is still in
flight from a walk before (R5, R51, R64 to R66, R71). The words of a refusal, 0 and 0, are log entry 40's. -/
def Obligations.EnumerateStarts : Prop :=
  ∀ (s : State) (g : Ring) (c : RecordRing) (tag : HostTag) (kind : Byte), s.Fetching controlRing g c →
    let h := s.takenAs controlRing g tag
    let run := exec (.enumerate tag kind) s
    let refused := fun st => run = .next ((s.taken controlRing g tag).completed c h st 0 0)
    let full := s.ses.session = .waiting ∨ s.ses.session = .ready
    let refresh := s.ses.session = .ready ∨ s.ses.session = .carrying ∨ s.ses.session = .quiet
    let started := fun (t : State) => t.rwk.walking = true ∧ t.rwk.starter = .enumerate ∧ t.rwk.enumerate = some h
      ∧ t.rwk.stack = [] ∧ t.rwk.warnings = 0 ∧ t.rwk.depthMark = false ∧ t.rwk.countMark = false
      ∧ t.rwk.generation = s.rwk.generation ∧ t.sbc.lcReq = none ∧ t.sbc.poll ≠ .round
      ∧ t.fmon = s.fmon ∧ t.bss = s.bss ∧ t.stt = s.stt ∧ t.ain = s.ain ∧ t.pxp = s.pxp ∧ t.dcr = s.dcr
    let asked := fun (t : State) (w : WalkWait) (q : Request) => t.rwk.wait = some w
      ∧ (flightIs .wk s = false → t.sbc.wkReq = some q) ∧ (flightIs .wk s = true → t.sbc.deferred = some q)
    (2 ≤ kind.toNat → refused .badParam)
    ∧ (kind = 0 → ¬ full → refused .notReady) ∧ (kind = 1 → ¬ refresh → refused .notReady)
    ∧ (kind = 0 → full → s.rwk.walking = true → refused .busy)
    ∧ (kind = 1 → refresh → s.rwk.walking = true → refused .busy)
    ∧ (kind = 0 → full → s.rwk.walking = false → ∃ t, run = .next t ∧ started t ∧ t.rwk.kind = .full
      ∧ t.ses.session = .walking ∧ t.rwk.roster = s.rwk.roster.map (fun _ => Entry.vacant)
      ∧ asked t .release ⟨0, .releaseAll, []⟩)
    ∧ (kind = 1 → refresh → s.rwk.walking = false → ∃ t, run = .next t ∧ started t ∧ t.rwk.kind = .refresh
      ∧ t.ses.session = s.ses.session ∧ t.apq = s.apq
      ∧ t.rwk.roster = s.rwk.roster.map (fun e => { e with verified := false })
      ∧ ((entryAt s 0).state = .vacant → asked t .rootProbe ⟨0x7F, .probe, []⟩)
      ∧ ((entryAt s 0).state ≠ .vacant → asked t .rootVerify ⟨1, .verify, []⟩))

/-- Steps of a walk while the walker holds the channel (R45, R53, R67, R68, R75, R78): the quiet time ends and PROBE is
sent to the own port; a root that answers is sent ASSIGN; a root admitted without a twin is entered at index 0, and nowhere else
is the roster changed: entry 0 is written anew, in a refresh walk too, and the children of its old tile keep their parent index (the
model's reading of R76: log entry 9). A root with ports is
pushed and its ports are explored, while one without ports ends a full walk in READY with its serial's CRC-32 as the check
value; a root that does not answer, refuses or answers badly ends the walk with NO_ROOT, a full one in WAITING, and an ASSIGN of the
root that fails does so too, with one warning (log entry 24). After CLOSE, whatever its outcome, the port loop goes on with the tile on top of the stack: it
opens the next port with a tile behind it, passes over the unconnected ones, and goes back to the parent after the last; an OPEN that
succeeds is followed by VERIFY of the known child or by PROBE, and one that fails by a warning and the next port, with no CLOSE. Every walk's
end raises the generation, keeps the record of the walk, and with several tiles has the CRC-32 over the ACTIVE serials in index
order as the check value; the ENUMERATE completes or WALK_DONE is posted, with the count of tiles (R61, R78, R79). The
timers of the requests sent and the time of the third attempt's end are log entry 35's. -/
def Obligations.WalkSteps : Prop :=
  ∀ (s : State) (x : Transaction), s.WalkerWaits x →
    (∀ t0, s.sbc.channel = .releaseQuiet → s.sbc.quietTimer = some t0 → s.rwk.wait = some .release →
      exec .releaseQuietEnd s = .next (s.walkerSends (max s.now (t0 + 135000)) .rootProbe ⟨0x7F, .probe, []⟩))
    ∧ (s.sbc.channel = .attempt → ∀ f d, judgeFrame x f = .accept true d →
      let run := exec (.sidebandFrameReceived f) s
      (s.rwk.wait = some .rootProbe → run = .next (s.walkerSends s.now (.rootAssign (probeOf d))
        ⟨0x7F, .assign, 1 :: beBytes 6 (probeOf d).serial.toNat⟩))
      ∧ (∀ p, s.rwk.wait = some (.rootAssign p) → s.rwk.kind = .full → s.rwk.stack = [] →
        s.rwk.roster = List.replicate 64 Entry.vacant → p.ports = 0 → p.serial ∉ s.rwk.denyList →
        s.rwk.depthMark = false → s.rwk.countMark = false →
        ∃ t, run = .next t ∧ t.rwk.walking = false ∧ t.ses.session = .ready
          ∧ t.rwk.roster = ⟨.active, p.serial, none, 0, 1, 0, p.present, p.stamp, 0, false, 0, 0, true⟩
            :: List.replicate 63 Entry.vacant
          ∧ t.rwk.generation = s.rwk.generation + 1 ∧ t.rwk.check = crc32 (beBytes 6 p.serial.toNat)
          ∧ t.rwk.lastWalk = some ⟨.full, s.rwk.starter, .ok, s.rwk.warnings, s.rwk.generation + 1⟩)
      ∧ (∀ p, s.rwk.wait = some (.rootAssign p) → s.rwk.roster.length = 64 → p.serial ∉ s.rwk.denyList →
        (∀ e ∈ s.rwk.roster.tail, e.state = .vacant ∨ e.serial ≠ p.serial) →
        let root : Entry := ⟨.active, p.serial, none, 0, 1, p.ports, p.present, p.stamp, 0, false, 0, 0, true⟩
        State.entryDone { s with rwk := { s.rwk with roster := s.rwk.roster.set 0 root } } s.now 0 true run)
      ∧ (∀ t0 p0 rest, s.rwk.wait = some .close → s.rwk.stack = (t0, p0) :: rest → s.walkGoesOn s.now t0 p0 rest run)
      ∧ (s.rwk.wait = some (.openPort none) → run = .next (s.walkerSends s.now .portProbe ⟨0x7F, .probe, []⟩))
      ∧ (∀ c, s.rwk.wait = some (.openPort (some c)) →
        run = .next (s.walkerSends s.now (.childVerify c) ⟨BitVec.ofNat 8 (c + 1), .verify, []⟩))
      ∧ (∀ t0 p0, s.rwk.wait = some .close → s.rwk.stack = [(t0, p0)] → (entryAt s t0).ports ≤ p0 →
        classPackets s.apq = [] → s.apq.awaiting = [] → s.dcr.held = none →
        let count := s.rwk.roster.countP (fun e => decide (e.state = .active ∨ e.state = .denied))
        ∃ t, run = .next t ∧ t.rwk.walking = false
          ∧ (∀ k, s.rwk.starter = .enumerate → s.rwk.enumerate = some k → s.canComplete k →
            s.completes t k .ok (word (s.walkOutcome.code + 2 ^ 3 * s.rwk.warnings + 2 ^ 9 * count
              + 2 ^ 16 * (s.rwk.generation + 1).toNat)) s.rosterCheck = true)
          ∧ (s.rwk.starter ≠ .enumerate → s.listens 7 = true → s.reports t (.walkDone s.rwk.kind s.rwk.starter
            ⟨s.walkOutcome, count, s.rwk.warnings, s.rwk.generation + 1, s.rosterCheck⟩) = true)))
    ∧ (s.sbc.channel = .attempt → s.attemptFails x (fun run now =>
      let warned : State := { s with rwk := { s.rwk with warnings := min 63 (s.rwk.warnings + 1) } }
      (s.rwk.wait = some .rootProbe → s.walkEnds now run)
      ∧ (∀ p, s.rwk.wait = some (.rootAssign p) → warned.walkEnds now run)
      ∧ (∀ t0 p0 rest, s.rwk.stack = (t0, p0) :: rest →
        (s.rwk.wait = some .close → s.walkGoesOn now t0 p0 rest run)
        ∧ (∀ c, s.rwk.wait = some (.openPort c) → warned.walkGoesOn now t0 (p0 + 1) rest run))))

/-- Steps that only a refresh walk has (R71 to R74, R77). The known child of a port is an entry of that place, one ACTIVE or
DENIED before one LOST. VERIFY of the root or of the known child with the entry's serial confirms the entry: mask, stamp and depth
follow the response, and a tile that was LOST or DENIED and is not denied any more is unblanked; one that the deny list names becomes
DENIED, its descendants LOST, and is blanked; a tile that was ACTIVE and stays so is pushed, and its ports are explored at its new depth;
without ports, or still DENIED, it is followed by CLOSE below the root and ends the walk at the root. Another serial, NAK or a third attempt
that fails: the entry and its descendants become LOST, and PROBE is sent there. A root lost or denied in CARRYING or QUIET takes the session to FAULTED. Entries at a port now empty that the walk has not verified
become LOST with their descendants. The timers are log entry 35's. -/
def Obligations.RefreshWalks : Prop :=
  (∀ (s : State) (port index c : Nat), s.rwk.kind = .refresh → knownChild index port s = some c →
    (entryAt s c).state ≠ .vacant ∧ (entryAt s c).parent = some index ∧ (entryAt s c).port = port
      ∧ ((entryAt s c).state = .lost →
        ∀ e ∈ s.rwk.roster, e.state = .active ∨ e.state = .denied → ¬ (e.parent = some index ∧ e.port = port)))
  ∧ (∀ (s : State) (x : Transaction), s.WalkerWaits x → s.sbc.channel = .attempt → s.rwk.kind = .refresh →
    let r := s.rwk.roster
    let carries := s.ses.session = .carrying ∨ s.ses.session = .quiet
    let lose := fun (e : Entry) => if e.state = .active ∨ e.state = .denied then
      { e with state := .lost, lostGen := s.rwk.generation } else e
    let below := fun (i : Nat) (j : Nat) => isBelow r i 64 j
    let without := fun (i : Nat) => r.mapIdx (fun j e => if j = i ∨ below i j = true then lose e else e)
    let rootLost := fun (run : Result) (now : Nat) =>
      (¬ carries ∨ (entryAt s 0).isHeld = false → run = .next ({ s with rwk := { s.rwk with
        roster := without 0 } }.walkerSends now .rootProbe ⟨0x7F, .probe, []⟩))
      ∧ (carries → (entryAt s 0).isHeld = true → ∃ t, run = .next t ∧ t.ses.session = .faulted ∧ t.ses.lanes = false
        ∧ t.rwk.roster = without 0 ∧ t.rwk.walking = true ∧ t.rwk.wait = some .rootProbe
        ∧ (s.listens 3 = true →
          s.reports t (.sessionChanged .faulted s.ses.session .rootLost s.ses.quiet) = true))
    let childLost := fun (c : Nat) (run : Result) (now : Nat) => run = .next ({ s with rwk := { s.rwk with
      roster := without c } }.walkerSends now .portProbe ⟨0x7F, .probe, []⟩)
    let confirmed := fun (i depth : Nat) (st : EntryState) (d : List Byte) =>
      { entryAt s i with
        state := st, verified := true, miss := 0, depth := depth, stamp := verifyStamp d
        present := BitVec.ofNat 8 ((verifyMask d).toNat % 2 ^ (entryAt s i).ports) }
    let denied := fun (i depth : Nat) (d : List Byte) => (r.set i (confirmed i depth .denied d)).mapIdx
      (fun j e => if below i j = true then lose e else e)
    let blank := fun (i : Nat) (on : Byte) => Request.mk (BitVec.ofNat 8 (i + 1)) .blank [on]
    let old := fun (i : Nat) => (entryAt s i).state
    (s.rwk.wait = some .rootVerify → s.attemptFails x rootLost
      ∧ (∀ f d, judgeFrame x f = .accept true d →
        let run := exec (.sidebandFrameReceived f) s
        let s1 : State := { s with rwk := { s.rwk with roster := r.set 0 (confirmed 0 1 .active d) } }
        let listed := (entryAt s 0).serial ∈ s.rwk.denyList
        (verifySerial d ≠ (entryAt s 0).serial → rootLost run s.now)
        ∧ (verifySerial d = (entryAt s 0).serial → old 0 ≠ .vacant →
          (¬ listed → old 0 = .active → s1.entryDone s.now 0 true run)
          ∧ (¬ listed → old 0 = .lost ∨ old 0 = .denied → run = .next (s1.walkerSends s.now (.blank 0 true) (blank 0 0)))
          ∧ (listed → old 0 = .denied →
            State.entryDone { s with rwk := { s.rwk with roster := r.set 0 (confirmed 0 1 .denied d) } } s.now 0 true run)
          ∧ (listed → old 0 = .active ∨ old 0 = .lost →
            (¬ carries → run = .next ({ s with rwk := { s.rwk with roster := denied 0 1 d } }.walkerSends s.now
              (.blank 0 true) (blank 0 1)))
            ∧ (carries → ∃ t, run = .next t ∧ t.ses.session = .faulted ∧ t.rwk.roster = denied 0 1 d
              ∧ t.rwk.wait = some (.blank 0 true)
              ∧ (s.listens 3 = true →
                s.reports t (.sessionChanged .faulted s.ses.session .rootDenied s.ses.quiet) = true))))))
    ∧ (∀ c t0 p0 rest, s.rwk.wait = some (.childVerify c) → s.rwk.stack = (t0, p0) :: rest → old c ≠ .vacant →
      s.attemptFails x (childLost c)
      ∧ (∀ f d, judgeFrame x f = .accept true d →
        let run := exec (.sidebandFrameReceived f) s
        let depth := (entryAt s t0).depth + 1
        let s1 : State := { s with rwk := { s.rwk with roster := r.set c (confirmed c depth .active d) } }
        let listed := (entryAt s c).serial ∈ s.rwk.denyList
        (verifySerial d ≠ (entryAt s c).serial → childLost c run s.now)
        ∧ (verifySerial d = (entryAt s c).serial →
          (¬ listed → old c = .active → s1.entryDone s.now c false run)
          ∧ (¬ listed → old c = .lost ∨ old c = .denied →
            run = .next (s1.walkerSends s.now (.blank c false) (blank c 0)))
          ∧ (listed → old c = .denied →
            State.entryDone { s with rwk := { s.rwk with roster := r.set c (confirmed c depth .denied d) } } s.now c false run)
          ∧ (listed → old c = .active ∨ old c = .lost → run = .next ({ s with rwk := { s.rwk with
            roster := denied c depth d } }.walkerSends s.now (.blank c false) (blank c 1))))))
    ∧ (∀ t0 p0 t1 p1 rest f d, judgeFrame x f = .accept true d → s.rwk.wait = some .close →
      s.rwk.stack = (t0, p0) :: (t1, p1) :: rest → p0 + 1 = (entryAt s t0).ports →
      (entryAt s t0).present.getLsbD p0 = false →
      let gone := fun (i : Nat) => (entryAt s i).state ≠ .vacant ∧ (entryAt s i).parent = some t0
        ∧ (entryAt s i).port = p0 ∧ (entryAt s i).verified = false
      exec (.sidebandFrameReceived f) s = .next ({ s with rwk := { s.rwk with
        stack := (t1, p1 + 1) :: rest
        roster := r.mapIdx (fun j e =>
          if ∃ i ∈ List.range r.length, gone i ∧ (j = i ∨ below i j = true) then lose e else e) } }.walkerSends s.now .close
            ⟨BitVec.ofNat 8 (t1 + 1), .close, [BitVec.ofNat 8 p1]⟩)))

/-- What a walk makes of the tiles that it finds. PROBE behind a port: a serial that the walk has verified already is a duplicate,
which gets a warning and CLOSE; else the entry with the serial, else the lowest VACANT one, else in a refresh walk the LOST one whose
lost generation lies furthest behind, the lowest of equals, is given with ASSIGN; with none of them the count limit's mark is set and the
open ports are closed from the top down (R70, R75). After ASSIGN the entry has the tile's values and its place, an entry reused
from another place being vacated first and its children orphaned (R75, R77; its lost generation stays: log entry 25), an ASSIGN that fails is one warning (log entry 24), and so is a PROBE that no tile answers well;
an ACTIVE tile with ports is pushed and explored at its depth, and CLOSE follows for one without (R68, R73). A tile
that the deny list names is DENIED and blanked, at the root too, a tile found again with its descendants LOST; after BLANK a DENIED tile
is not explored and an ACTIVE one is, and a BLANK that fails is a warning (R62). At the root another entry with the serial becomes VACANT, its descendants LOST, its children
orphaned, and the children of entry 0 itself, which is written anew, keep their parent index (R76; log entry 9). A tile at depth 7 has no port opened, and the depth limit's mark is set (R69). The timers are log entry 35's. -/
def Obligations.WalkAdmissions : Prop :=
  ∀ (s : State) (x : Transaction), s.WalkerWaits x → s.sbc.channel = .attempt → s.rwk.roster.length = 64 →
    let r := s.rwk.roster
    let lose := fun (e : Entry) => if e.state = .active ∨ e.state = .denied then
      { e with state := .lost, lostGen := s.rwk.generation } else e
    let held := fun (e : Entry) => e.state = .active ∨ e.state = .denied
    let tile := fun (e : Entry) (st : EntryState) (p : Probe) (parent : Option Nat) (port depth : Nat) =>
      { e with
        state := st, serial := p.serial, parent := parent, port := port, depth := depth, ports := p.ports
        present := p.present, stamp := p.stamp, miss := 0, verified := true }
    let withRoster := fun (r1 : List Entry) => ({ s with rwk := { s.rwk with roster := r1 } } : State)
    let warned := min 63 (s.rwk.warnings + 1)
    let close := fun (i port : Nat) => Request.mk (BitVec.ofNat 8 (i + 1)) .close [BitVec.ofNat 8 port]
    let blank := fun (i : Nat) (on : Byte) => Request.mk (BitVec.ofNat 8 (i + 1)) .blank [on]
    let closes := fun (s1 : State) (w : WalkWait) (t0 p0 : Nat) (rest : List (Nat × Nat)) =>
      Host.Outcome.next ({ s1 with rwk := { s1.rwk with stack := (t0, p0 + 1) :: rest }
        }.walkerSends s.now w (close t0 p0))
    (∀ t0 p0 rest f d, judgeFrame x f = .accept true d → s.rwk.stack = (t0, p0) :: rest →
      let run := exec (.sidebandFrameReceived f) s
      let p := probeOf d
      let same := fun (e : Entry) => decide (e.state ≠ .vacant) && decide (e.serial = p.serial)
      let assigns := fun (i : Nat) (reuse : Bool) => Host.Outcome.next (s.walkerSends s.now (.portAssign i reuse p)
        ⟨0x7F, .assign, BitVec.ofNat 8 (i + 1) :: beBytes 6 p.serial.toNat⟩)
      let age := fun (e : Entry) => (s.rwk.generation - e.lostGen).toNat
      let oldest := fun (i : Nat) => (entryAt s i).state = .lost ∧ ∀ j < 64, (entryAt s j).state = .lost →
        age (entryAt s j) < age (entryAt s i) ∨ (age (entryAt s j) = age (entryAt s i) ∧ i ≤ j)
      (s.rwk.wait = some .portProbe →
        (∀ i, r.findIdx? same = some i →
          ((∃ e ∈ r, same e = true ∧ e.verified = true) → run = closes { s with rwk := { s.rwk with
            warnings := warned } } .close t0 p0 rest)
          ∧ ((∀ e ∈ r, same e = true → e.verified = false) → run = assigns i true))
        ∧ (r.findIdx? same = none →
          (∀ i, r.findIdx? (fun e => decide (e.state = .vacant)) = some i → run = assigns i false)
          ∧ (r.findIdx? (fun e => decide (e.state = .vacant)) = none →
            (∀ i < 64, s.rwk.kind = .refresh → oldest i → run = assigns i false)
            ∧ (s.rwk.kind = .full ∨ (∀ e ∈ r, e.state ≠ .lost) → run = .next ({ s with rwk := { s.rwk with
              countMark := true } }.walkerSends s.now (.limitClose rest) (close t0 p0))))))
      ∧ (∀ i reuse p, s.rwk.wait = some (.portAssign i reuse p) → i < 64 →
        let e := entryAt s i
        let depth := (entryAt s t0).depth + 1
        let listed := p.serial ∈ s.rwk.denyList
        let cleared := (r.set i Entry.vacant).map (fun e => if e.parent = some i then { e with parent := none } else e)
        let found := fun (st : EntryState) => r.set i (tile e st p (some t0) p0 depth)
        (reuse = true → e.state = .active → ¬ listed → (withRoster (found .active)).entryDone s.now i false run)
        ∧ (reuse = true → e.state = .lost ∨ e.state = .denied → ¬ listed →
          run = .next ((withRoster (found .active)).walkerSends s.now (.blank i false) (blank i 0)))
        ∧ (reuse = true → e.state = .denied → listed → (withRoster (found .denied)).entryDone s.now i false run)
        ∧ (reuse = true → e.state = .active ∨ e.state = .lost → listed →
          run = .next ((withRoster ((found .denied).mapIdx (fun j c => if isBelow (found .denied) i 64 j then lose c else c))
            ).walkerSends s.now (.blank i false) (blank i 1)))
        ∧ (reuse = false → e.state = .vacant → ¬ listed → (withRoster (found .active)).entryDone s.now i false run)
        ∧ (reuse = false → e.state ≠ .vacant → i ≠ t0 → ¬ listed →
          (withRoster (cleared.set i (tile Entry.vacant .active p (some t0) p0 depth))).entryDone s.now i false run)
        ∧ (reuse = false → e.state = .vacant → listed → (∀ e ∈ r, e.parent ≠ some i) → i ≠ t0 →
          run = .next ((withRoster (found .denied)).walkerSends s.now (.blank i false) (blank i 1)))))
    ∧ s.attemptFails x (fun run now =>
      let warns : State := { s with rwk := { s.rwk with warnings := warned } }
      (s.rwk.wait = some .portProbe → warns.portCloses now s.rwk.stack run)
      ∧ (∀ i reuse p, s.rwk.wait = some (.portAssign i reuse p) → warns.portCloses now s.rwk.stack run)
      ∧ (∀ i root, s.rwk.wait = some (.blank i root) → warns.entryDone now i root run)
      ∧ (∀ t0 p0 rest, s.rwk.wait = some (.limitClose ((t0, p0) :: rest)) →
        run = .next (s.walkerSends now (.limitClose rest) (close t0 p0)))
      ∧ (s.rwk.wait = some (.limitClose []) → s.walkEnds now run))
    ∧ (∀ f d, judgeFrame x f = .accept true d →
      let run := exec (.sidebandFrameReceived f) s
      (∀ i root, s.rwk.wait = some (.blank i root) → s.entryDone s.now i root run)
      ∧ (∀ p, s.rwk.wait = some (.rootAssign p) → p.serial ∈ s.rwk.denyList → s.rwk.kind = .full →
        r = List.replicate 64 Entry.vacant → run = .next ((withRoster (r.set 0
          (tile Entry.vacant .denied p none 0 1))).walkerSends s.now (.blank 0 true) (blank 0 1)))
      ∧ (∀ p i, s.rwk.wait = some (.rootAssign p) → p.serial ∉ s.rwk.denyList → 0 < i → i < 64 → (entryAt s i).state ≠ .vacant → (entryAt s i).serial = p.serial →
        (∀ j < i, 0 < j → (entryAt s j).state = .vacant ∨ (entryAt s j).serial ≠ p.serial) →
        let lost := if held (entryAt s i) then
          r.mapIdx (fun j e => if isBelow r i 64 j then lose e else e) else r
        let cleared := (lost.set i Entry.vacant).map
          (fun e => if e.parent = some i then { e with parent := none } else e)
        (withRoster (cleared.set 0 (tile Entry.vacant .active p none 0 1))).entryDone s.now 0 true run)
      ∧ (∀ t0 p0 t1 p1 rest, s.rwk.wait = some .close → s.rwk.stack = (t0, p0) :: (t1, p1) :: rest →
        p0 + 1 = (entryAt s t0).ports → (entryAt s t0).present.getLsbD p0 = true → 7 ≤ (entryAt s t0).depth →
        run = closes { s with rwk := { s.rwk with depthMark := true } } .close t1 p1 rest)
      ∧ (∀ t0 p0 rest, s.rwk.wait = some (.limitClose ((t0, p0) :: rest)) →
        run = .next (s.walkerSends s.now (.limitClose rest) (close t0 p0)))
      ∧ (s.rwk.wait = some (.limitClose []) → s.walkEnds s.now run))

/-- The roster image, 2112 bytes of a 64-entry roster: the header and each entry's record, field by field (section 12.6; bytes 9 to 15 of
the header are 0 while there is no last-walk record, log entry 41). READ-ROSTER fixes it at the take and completes when it is written
(R83); a good copy is one write at its end, and a failed one has written a part of the image from its start, which is a free
value (log entry 8). SET-DENY-LIST stores an empty list at once and reads another from host memory in the order taken; a failed
read leaves the list as it was; APPLY starts a refresh walk where one may start (R63). The result words of refusals and failures,
0 and 0, are log entry 40's. -/
def Obligations.RosterCommands : Prop :=
  ∀ s : State, (s.rwk.roster.length = 64 →
      let last : List (Nat × Nat × Nat) := match s.rwk.lastWalk with
        | none => []
        | some w => [(8, 1, 1), (9, 1, w.kind.code), (10, 1, w.starter.code), (11, 1, w.outcome.code), (12, 1, w.warnings),
          (14, 2, w.generation.toNat)]
      (rosterImage s).length = 2112
      ∧ laidOut ((rosterImage s).take 64) 64 ([(0, 2, s.rwk.generation.toNat),
        (2, 1, s.rwk.roster.countP (fun e => decide (e.state = .active ∨ e.state = .denied))),
        (3, 1, s.rwk.denyList.length), (4, 4, s.rwk.check.toNat)] ++ last)
      ∧ ∀ i < 64,
        let e := entryAt s i
        laidOut (((rosterImage s).drop (64 + 32 * i)).take 32) 32 [(0, 1, e.state.code),
          (1, 1, (if e.parent.isSome then 1 else 0) + (if e.suspect then 2 else 0)), (2, 1, e.parent.getD 0), (3, 1, e.port),
          (4, 1, e.depth), (5, 1, e.ports), (6, 1, e.present.toNat), (7, 1, e.miss), (8, 6, e.serial.toNat),
          (16, 2, e.stamp.toNat), (18, 1, e.nextTag.toNat), (20, 2, e.lostGen.toNat)])
    ∧ [EntryState.vacant, .active, .denied, .lost].map EntryState.code = List.range 4
    ∧ (∀ (g : Ring) (c : RecordRing) (tag : HostTag) (addr : Addr) (len : Word), s.Fetching controlRing g c →
      let h := s.takenAs controlRing g tag
      let s1 := s.taken controlRing g tag
      (len.toNat < 2112 → exec (.readRoster tag addr len) s = .next (s1.completed c h .badParam 0 0))
      ∧ (2112 ≤ len.toNat → s.rwk.walking = true →
        exec (.readRoster tag addr len) s = .next (s1.completed c h .busy 0 0))
      ∧ (2112 ≤ len.toNat → s.rwk.walking = false →
        exec (.readRoster tag addr len) s = .next { s1 with rwk := { s1.rwk with copies := s1.rwk.copies ++
          [⟨h, addr, rosterImage s, word (s.rwk.generation.toNat + 2 ^ 16 * rosterCount s), s.rwk.check⟩] } }))
    ∧ (∀ (n : Nat) (c : RecordRing) (k : Copy), s.rwk.copies[n]? = some k → s.Pending k.handle c →
      exec (.rosterCopyEnd n true) s = .next ({ s with
        rwk := { s.rwk with copies := s.rwk.copies.eraseIdx n }
        out := s.out ++ [Output.hostWrite k.addr k.image] }.completed c k.handle .ok k.word1 k.word2)
      ∧ exec (.rosterCopyEnd n false) s = .next ({ s with
        rwk := { s.rwk with copies := s.rwk.copies.eraseIdx n }
        out := s.out ++ [Output.hostWrite k.addr (partWritten s.choices k.image)], choices := s.choices + 1
        }.completed c k.handle .hostWriteError 0 0))
    ∧ (∀ (g : Ring) (c : RecordRing) (tag : HostTag) (count : Byte) (apply : Bool) (addr : Addr),
      s.Fetching controlRing g c →
      let h := s.takenAs controlRing g tag
      let s1 := s.taken controlRing g tag
      (32 < count.toNat → exec (.setDenyList tag count apply addr) s = .next (s1.completed c h .badParam 0 0))
      ∧ (1 ≤ count.toNat → count.toNat ≤ 32 → s.rwk.denyWork = [] →
        exec (.setDenyList tag count apply addr) s = .next { s1 with rwk := { s1.rwk with
          denyWork := [⟨h, count.toNat, apply, addr⟩] } })
      ∧ (count = 0 → s.rwk.denyWork = [] → s.rwk.denyReading = false →
        exec (.setDenyList tag count false addr) s =
          .next ({ s1 with rwk := { s1.rwk with denyList := [] } }.completed c h .ok 0 0)))
    ∧ (∀ (w : DenyWork) (ws : List DenyWork), s.handed = [] → s.rwk.denyWork = w :: ws → w.count ≠ 0 →
      s.rwk.denyReading = false → exec .denyListReadStart s = .next { s with
        rwk := { s.rwk with denyReading := true }, out := s.out ++ [.hostRead w.addr (8 * w.count)] })
    ∧ (∀ (w : DenyWork) (c : RecordRing), s.rwk.denyWork = [w] → s.rwk.denyReading = true → s.Pending w.handle c →
      let s1 : State := { s with rwk := { s.rwk with denyWork := [], denyReading := false } }
      exec (.denyListReadEnd none) s = .next (s1.completed c w.handle .hostReadError 0 0)
      ∧ (∀ d, d.length = 8 * w.count → w.apply = false → exec (.denyListReadEnd (some d)) s =
          .next ({ s1 with rwk := { s1.rwk with denyList := serialsOf w.count d } }.completed c w.handle .ok
            (word w.count) 0))
      ∧ (∀ d, d.length = 8 * w.count → w.apply = true → s.rwk.walking = false →
        s.ses.session = .ready ∨ s.ses.session = .carrying ∨ s.ses.session = .quiet →
        ∃ t, exec (.denyListReadEnd (some d)) s = .next t ∧ t.rwk.denyList = serialsOf w.count d
          ∧ t.rwk.walking = true ∧ t.rwk.kind = .refresh ∧ t.rwk.starter = .apply
          ∧ t.ses.session = s.ses.session))

/-! ### Descriptors (section 5) -/

/-- READ-DESCRIPTOR's three checks in their order, its turn outside walks (TARGET_GONE, a hit, a read), the end of a
copy, and DROP-DESCRIPTORS (R89 to R91, R96, R97). A good copy is one write at its end, and a failed one has written a part
of it from its start, which is a free value (log entry 8); that a group of copies is fixed at its start, the hit mark and the
DROP-DESCRIPTORS count rest on log entry 28. A READ-BLOCK that has to wait for the end of DR's own unwanted transaction waits as deferred
(R51; log entry 42). -/
def Obligations.Descriptors : Prop :=
  (∀ (s : State) (g : Ring) (c : RecordRing) (tag : HostTag) (index : Byte) (sn : Serial) (addr : Addr) (len : Word),
    s.Fetching controlRing g c →
    let h := s.takenAs controlRing g tag
    let s1 := s.taken controlRing g tag
    let run := exec (.readDescriptor tag index sn addr len) s
    let refused := fun st => run = .next (s1.completed c h st 0 0)
    let e := entryAt s index.toNat
    let shaped := index.toNat ≤ 63 ∧ 128 ≤ len.toNat
    let there := (e.state = .active ∨ e.state = .denied) ∧ e.serial = sn
    (¬ shaped → refused .badParam)
    ∧ (shaped → ¬ there → refused .targetGone)
    ∧ (shaped → there → 8 ≤ s.dcr.queue.length → refused .busy)
    ∧ (shaped → there → s.dcr.queue.length < 8 → run = .next { s1 with dcr := { s1.dcr with
        queue := s1.dcr.queue ++ [⟨h, sn, addr, len.toNat, false, false⟩] } }))
  ∧ (∀ (s : State) (c : RecordRing) (q : DescRequest) (qs : List DescRequest), s.Pending q.handle c →
    s.dcr.queue = q :: qs → s.dcr.context = none → s.dcr.copying = none →
    (s.rwk.walking = true → exec .descriptorRequestTurn s = .next s)
    ∧ (s.rwk.walking = false →
      (heldIndex q.serial s = none → exec .descriptorRequestTurn s =
        .next ({ s with dcr := { s.dcr with
          queue := qs, cache := s.dcr.cache.filter (·.valid) } }.completed c q.handle .targetGone 0 0))
      ∧ (∀ i e, heldIndex q.serial s = some i → currentEntry q.serial (entryAt s i).stamp s.dcr = some e →
        exec .descriptorRequestTurn s = .next { s with dcr := { s.dcr with
          queue := { q with group := true, hit := true }
            :: qs.map (fun r => if r.serial = q.serial then { r with group := true, hit := true } else r)
          copying := some q.serial
          cache := s.dcr.cache.filter (fun e => !decide (e.serial = q.serial))
            ++ s.dcr.cache.filter (fun e => decide (e.serial = q.serial)) } })
      ∧ (∀ i, heldIndex q.serial s = some i → currentEntry q.serial (entryAt s i).stamp s.dcr = none →
        s.ses.presence = true →
        let asks : State := { s with
          dcr := { s.dcr with context := some ⟨i + 1, (entryAt s i).stamp, false, none, 0, 0⟩ } }
        let q := some (Request.mk (BitVec.ofNat 8 (i + 1)) .readBlock [0])
        (flightIs .dr s = false →
          exec .descriptorRequestTurn s = .next { asks with sbc := { s.sbc with drReq := q } })
        ∧ (flightIs .dr s = true →
          exec .descriptorRequestTurn s = .next { asks with sbc := { s.sbc with deferred := q } }))))
  ∧ (∀ (s : State) (c : RecordRing) (q : DescRequest) (e : CacheEntry), s.Pending q.handle c → s.dcr.queue = [q] →
    q.group = true → s.dcr.copying = some e.serial → cached e.serial s.dcr = some e → s.dcr.removal = none →
    let n := min e.count (q.len / 128)
    let w1 := word (e.count + 2 ^ 8 * e.stamp.toNat + bitAt 24 q.hit)
    let s1 : State := { s with dcr := { s.dcr with queue := [], copying := none } }
    exec (.descriptorCopyEnd true) s = .next ({ s1 with
        out := s.out ++ [Output.hostWrite q.addr (e.blocks.take n).flatten] }.completed c q.handle
          (if n < e.count then .truncated else .ok) w1 (word (128 * n)))
    ∧ exec (.descriptorCopyEnd false) s = .next ({ s1 with
        out := s.out ++ [Output.hostWrite q.addr (partWritten s.choices (e.blocks.take n).flatten)]
        choices := s.choices + 1 }.completed c q.handle .hostWriteError w1 0))
  ∧ (∀ (s : State) (g : Ring) (c : RecordRing) (tag : HostTag), s.Fetching controlRing g c →
    let h := s.takenAs controlRing g tag
    let s1 := s.taken controlRing g tag
    let valid := s.dcr.cache.filter (·.valid)
    let w1 := word valid.length
    let w2 := word (valid.map (·.count)).sum
    (s.dcr.copying = none → exec (.dropDescriptors tag) s =
      .next ({ s1 with dcr := { s1.dcr with cache := s.dcr.cache.filter (fun e => !e.valid) } }.completed c h .ok w1 w2))
    ∧ (∀ sn, s.dcr.copying = some sn → exec (.dropDescriptors tag) s =
      .next ({ s1 with dcr := { s1.dcr with
        removal := some sn, cache := s.dcr.cache.filter (fun e => !e.valid || decide (sn = e.serial)) } }.completed
          c h .ok w1 w2)))

/-- The outcome of a READ-BLOCK for the request at the head of the queue, with nothing else waiting for the channel (R92 to
R96). A block that is not whole is asked for again, twice at most, then DESCRIPTOR_BAD. Block 0 with a count of 1 to 8 and the stamp of the read
makes room and becomes a FILLING entry; with another count or stamp the read starts again once, then DESCRIPTOR_BAD. The last block makes
the entry VALID and the copies start, for the head and every request of the queue with its serial, those counting as hits
(log entry 28); another block is followed by the next one. NAK and no response end the request with NO_RESPONSE. A tile gone
from the roster gives TARGET_GONE, one that has moved is asked again at its new address, and one with a new stamp starts the
read again, once (R95). During a walk the outcome is held. Evictions take VALID entries from the least recent end, as many as are
needed (R94). The request sent rests on log entry 35 for its timer. -/
def Obligations.DescriptorReads : Prop :=
  (∀ (s : State) (x : Transaction) (c : ReadContext) (q : DescRequest) (qs : List DescRequest) (w : RecordRing) (i : Nat),
    s.Pending q.handle w → s.sbc.channel = .attempt → s.sbc.inFlight = some x → x.requester = .dr →
    x.request.kind = .readBlock → x.orphan = false → s.sbc.lateFrame = false → s.sbc.idleRequests →
    s.dcr.context = some c → s.dcr.queue = q :: qs → s.ses.presence = true →
    let free : State := { s with sbc := s.sbc.freed }
    let asks := fun (c1 : ReadContext) (cache : List CacheEntry) => Host.Outcome.next ({ free with dcr := { s.dcr with
      context := some c1, cache := cache } }.requesterSends .dr
        ⟨BitVec.ofNat 8 c1.address, .readBlock, [BitVec.ofNat 8 c1.block]⟩)
    let valid := s.dcr.cache.filter (·.valid)
    let ends := fun (now : Nat) (st : Status) (w1 : Word) => Host.Outcome.next ({ free with
      now := now, dcr := { s.dcr with queue := qs, context := none, cache := valid } }.completed w q.handle st w1 0)
    let again := fun (stamp : Half) =>
      asks { c with stamp := stamp, restarted := true, count := none, block := 0, reread := 0 } valid
    let bad := ends s.now .descriptorBad (word (c.count.getD 0))
    let copies := fun (cache : List CacheEntry) => Host.Outcome.next { free with dcr := { s.dcr with
      context := none, cache := cache, copying := some q.serial
      queue := { q with group := true, hit := false }
        :: qs.map (fun r => if r.serial = q.serial then { r with group := true, hit := true } else r) } }
    let steady := s.rwk.walking = false ∧ heldIndex q.serial s = some i ∧ i + 1 = c.address ∧ (entryAt s i).stamp = c.stamp
    (∀ f d, judgeFrame x f = .accept true d →
      let run := exec (.sidebandFrameReceived f) s
      let b := d.drop 1
      let whole := (d.getD 0 0).toNat = c.block ∧ b.length = 128 ∧ (b.map BitVec.toNat).sum % 256 = 0
      let n := (b.getD 0 0).toNat
      let fits := 1 ≤ n ∧ n ≤ 8 ∧ fromBe ((b.drop 1).take 2) = c.stamp.toNat
      (s.rwk.walking = true → run = .next { free with dcr := { s.dcr with held := some (.response d) } })
      ∧ (s.rwk.walking = false → heldIndex q.serial s = none → run = ends s.now .targetGone 0)
      ∧ (s.rwk.walking = false → heldIndex q.serial s = some i → i + 1 ≠ c.address →
        run = asks { c with address := i + 1 } s.dcr.cache)
      ∧ (s.rwk.walking = false → heldIndex q.serial s = some i → i + 1 = c.address → (entryAt s i).stamp ≠ c.stamp →
        run = (if c.restarted then bad else again (entryAt s i).stamp))
      ∧ (steady → ¬ whole → run = (if c.reread < 2 then asks { c with reread := c.reread + 1 } s.dcr.cache else bad))
      ∧ (steady → whole → c.block = 0 → ¬ fits → run = (if c.restarted then bad else again c.stamp))
      ∧ (steady → whole → c.block = 0 → fits → (∀ e ∈ s.dcr.cache, e.valid = true ∧ e.serial ≠ q.serial) →
        let cache := makeRoom n s.dcr.cache
        (n = 1 → run = copies (cache ++ [⟨q.serial, c.stamp, 1, [b], true⟩]))
        ∧ (1 < n → run = asks { c with count := some n, block := 1, reread := 0 }
          (cache ++ [⟨q.serial, c.stamp, n, [b], false⟩])))
      ∧ (∀ e es, steady → whole → 0 < c.block → s.dcr.cache.reverse = e :: es →
        (∀ e1 ∈ es, e1.valid = true ∧ e1.serial ≠ q.serial) → e.valid = false → e.serial = q.serial →
        e.blocks.length = c.block → c.count = some e.count →
        (e.count ≤ c.block + 1 → run = copies (es.reverse ++ [{ e with blocks := e.blocks ++ [b], valid := true }]))
        ∧ (c.block + 1 < e.count → run = asks { c with block := c.block + 1, reread := 0 }
          (es.reverse ++ [{ e with blocks := e.blocks ++ [b] }]))))
    ∧ (∀ f d, judgeFrame x f = .accept false d → steady →
      exec (.sidebandFrameReceived f) s = ends s.now .noResponse (word (c.count.getD 0)))
    ∧ (∀ t0, x.attempt = 3 → s.sbc.respTimer = some t0 → steady →
      exec (.attemptTimeout false) s = ends (max s.now (t0 + 54000)) .noResponse (word (c.count.getD 0))))
  ∧ (∀ (n : Nat) (cache : List CacheEntry), (∀ e ∈ cache, e.valid = true) → n ≤ 8 →
    let blocks := fun (c : List CacheEntry) => (c.map (·.count)).sum
    let room := fun (c : List CacheEntry) => c.length < 16 ∧ blocks c + n ≤ 32
    let left := makeRoom n cache
    left <:+ cache ∧ room left
      ∧ ∀ k < cache.length, left.length < k + 1 → ¬ room (cache.drop (cache.length - (k + 1))))

/-! ### Packets and audio (sections 7 to 9) -/

/-- SET-STANDING: BAD_PARAM for entry 0 or 1, an index above 15, an enable flag above 1, or with enable a bad period,
phase or length; a disable is stored at once where the work list is empty, and else waits behind the work there; an enable waits
in the work list for its payload, which is read and then becomes the entry's pending record, the disables behind it following
at once; a record stored over a pending one completes the older command with SUPERSEDED (R119 to R121). -/
def Obligations.StandingTable : Prop :=
  (∀ (s : State) (g : Ring) (c : RecordRing) (tag : HostTag) (index enable period phase kind : Byte) (addr : Addr)
    (len : Byte), s.Fetching streamRing g c →
    let h := s.takenAs streamRing g tag
    let s1 := s.taken streamRing g tag
    let run := exec (.setStanding tag index enable period phase kind addr len) s
    let there := 2 ≤ index.toNat ∧ index.toNat ≤ 15
    let e := s.stt.entries.getD index.toNat StandingEntry.empty
    let stored := { s1 with stt := { s1.stt with
      entries := s.stt.entries.set index.toNat { e with pending := some ⟨false, 1, 0, 0, [], h⟩ } } }
    let on := enable = 1 ∧ 1 ≤ period.toNat ∧ phase.toNat < period.toNat ∧ 1 ≤ len.toNat ∧ len.toNat ≤ 112
    (¬ there ∨ (enable ≠ 0 ∧ ¬ on) → run = .next (s1.completed c h .badParam 0 0))
    ∧ (there → on → s.stt.work = [] ∨ (∃ w ∈ s.stt.work.head?, w.enabled = true) ∨ s.stt.reading = true →
      run = .next { s1 with stt := { s1.stt with work := s.stt.work
        ++ [⟨h, index.toNat, true, period.toNat, phase.toNat, kind, addr, len.toNat⟩] } })
    ∧ (there → enable = 0 → (∃ w ∈ s.stt.work.head?, w.enabled = true) ∨ s.stt.reading = true →
      run = .next { s1 with stt := { s1.stt with work := s.stt.work
        ++ [⟨h, index.toNat, false, 1, 0, 0, addr, 0⟩] } })
    ∧ (there → enable = 0 → s.stt.work = [] → s.stt.reading = false →
      (e.pending = none → run = .next stored)
      ∧ (∀ p, e.pending = some p → p.handle ∈ s.hif.inFlight →
        run = .next (stored.completed c p.handle .superseded 0 0))))
  ∧ (∀ (s : State) (w : StandingWork) (ws : List StandingWork), s.handed = [] → s.stt.work = w :: ws →
    w.enabled = true → s.stt.reading = false → exec .standingPayloadReadStart s = .next { s with
      stt := { s.stt with reading := true }, out := s.out ++ [.hostRead w.addr w.len] })
  ∧ (∀ (s : State) (c : RecordRing) (w : StandingWork) (ws : List StandingWork), s.Pending w.handle c →
    s.stt.work = w :: ws → s.stt.reading = true →
    let s1 : State := { s with stt := { s.stt with work := ws, reading := false } }
    let settled := ∀ w1 ∈ ws.head?, w1.enabled = true
    let e := s.stt.entries.getD w.index StandingEntry.empty
    let stored := fun d => { s1 with stt := { s1.stt with entries := s.stt.entries.set w.index { e with
        pending := some ⟨w.enabled, w.period, w.phase, w.kind, d, w.handle⟩ } } }
    (settled → exec (.standingPayloadReadEnd none) s = .next (s1.completed c w.handle .hostReadError 0 0))
    ∧ (∀ d, settled → d.length = w.len → e.pending = none →
      exec (.standingPayloadReadEnd (some d)) s = .next (stored d))
    ∧ (∀ d p, settled → d.length = w.len → e.pending = some p → p.handle ∈ s.hif.inFlight →
      exec (.standingPayloadReadEnd (some d)) s = .next ((stored d).completed c p.handle .superseded 0 0))
    ∧ (∀ d w1, ws = [w1] → w1.enabled = false → w1.index ≠ w.index → d.length = w.len → e.pending = none →
      let e1 := s.stt.entries.getD w1.index StandingEntry.empty
      e1.pending = none → exec (.standingPayloadReadEnd (some d)) s = .next { stored d with stt := { (stored d).stt with
        work := [], entries := (stored d).stt.entries.set w1.index { e1 with
          pending := some ⟨false, w1.period, w1.phase, w1.kind, [], w1.handle⟩ } } }))

/-- SEND's checks in their order and the packet that joins the fetch list; its payload read, after which it joins the tail
of its class; and CANCEL by the place where the named SEND is: of several held with the tag, the one taken earliest (R126,
R128, R139). That CANCELLED replaces a mark that the packet already has is log entry 29, and
that the SEND's completion goes before CANCEL's own log entry 44. -/
def Obligations.AddressedCommands : Prop :=
  (∀ (s : State) (g : Ring) (c : RecordRing) (tag : HostTag) (index : Byte) (bc ack : Bool) (cls : Byte)
    (deadline : Half) (sn : Serial) (addr : Addr) (len : Byte), s.Fetching dispatchRing g c →
    let h := s.takenAs dispatchRing g tag
    let s1 := s.taken dispatchRing g tag
    let run := exec (.send tag index bc ack cls deadline sn addr len) s
    let refused := fun st => run = .next (s1.completed c h st 0 0)
    let e := entryAt s index.toNat
    let shaped := cls.toNat ≤ 2 ∧ ¬ (ack = true ∧ bc = true) ∧ 1 ≤ len.toNat ∧ len.toNat ≤ 112
      ∧ (bc = false → index.toNat ≤ 63)
    let up := s.ses.session = .ready ∨ s.ses.session = .carrying ∨ s.ses.session = .quiet
    let there := bc = true ∨ (e.state = .active ∧ e.serial = sn)
    (¬ shaped → refused .badParam)
    ∧ (shaped → ¬ up → refused .notReady)
    ∧ (shaped → up → ¬ there → refused .targetGone)
    ∧ (∀ k, shaped → up → there → classOf cls = some k → run = .next { s1 with apq := { s1.apq with
        fetching := s1.apq.fetching ++ [⟨h, if bc then .broadcast else .tile index.toNat sn, k, ack,
          if deadline = 0 then none else some (s.fmon.fsn + deadline.zeroExtend 32), addr, len.toNat, [], none, 0,
          none, false, none⟩] } }))
  ∧ (∀ (s : State) (p : Packet) (ps : List Packet), s.handed = [] → s.apq.fetching = p :: ps →
    s.apq.reading = false → exec .sendPayloadReadStart s = .next { s with
      apq := { s.apq with reading := true }, out := s.out ++ [.hostRead p.addr p.len] })
  ∧ (∀ (s : State) (c : RecordRing) (p : Packet) (ps : List Packet), s.Pending p.handle c →
    s.apq.fetching = p :: ps → s.apq.reading = true →
    let s1 : State := { s with apq := { s.apq with fetching := ps, reading := false } }
    (p.cancel = none → exec (.sendPayloadReadEnd none) s =
      .next (s1.completed c p.handle .hostReadError (placedWord p) (sendWord p)))
    ∧ (∀ d st, p.cancel = some st → exec (.sendPayloadReadEnd d) s =
      .next (s1.completed c p.handle st (placedWord p) (sendWord p)))
    ∧ (∀ d, p.cancel = none → d.length = p.len → exec (.sendPayloadReadEnd (some d)) s = .next { s1 with
      apq := match p.cls with
        | .urgent => { s1.apq with urgent := s.apq.urgent ++ [{ p with payload := d }] }
        | .normal => { s1.apq with normal := s.apq.normal ++ [{ p with payload := d }] }
        | .bulk => { s1.apq with bulk := s.apq.bulk ++ [{ p with payload := d }] } }))
  ∧ (∀ (s : State) (g : Ring) (c : RecordRing) (tag target : HostTag), s.Fetching controlRing g c →
    let h := s.takenAs controlRing g tag
    let s1 := s.taken controlRing g tag
    let run := exec (.cancel tag target) s
    ((∀ p ∈ s.apq.sends, p.handle.tag ≠ target) → run = .next (s1.completed c h .notFound 0 0))
    ∧ (∀ p ∈ s.apq.sends, p.handle.tag = target →
      (∀ q ∈ s.apq.sends, q.handle.tag = target → p.handle.id ≤ q.handle.id) →
      (s.apq.sends.map (·.handle.id)).Nodup →
      let without := fun (ps : List Packet) => ps.filter (fun q => decide (q.handle.id ≠ p.handle.id))
      let ends := fun (place : Word) => run = .next (({ s1 with apq := { s1.apq with
        fetching := without s.apq.fetching, urgent := without s.apq.urgent, normal := without s.apq.normal
        bulk := without s.apq.bulk } }.completed c p.handle .cancelled (placedWord p) (sendWord p)).completed c.advance h
          .ok place (word p.cls.code))
      (p ∈ s.apq.awaiting → run = .next (s1.completed c h .tooLate 3 (word p.cls.code)))
      ∧ (∀ ps, s.apq.fetching = p :: ps → s.apq.reading = true → run = .next ({ s1 with apq := { s1.apq with
          fetching := { p with cancel := some .cancelled } :: ps } }.completed c h .ok 1 (word p.cls.code)))
      ∧ (p ∈ (if s.apq.reading then s.apq.fetching.tail else s.apq.fetching) → p.handle ∈ s.hif.inFlight →
        p.handle ≠ h → ends 1)
      ∧ (p ∈ classPackets s.apq → p.handle ∈ s.hif.inFlight → p.handle ≠ h → ends 2)))

/-- What walks do to the packets held. A full walk's start completes every SEND with TARGET_GONE, BROADCAST ones too, but
for one whose payload read is in progress, which is marked so; a GET-RECEIPT waiting is withdrawn, one in flight goes on, and
the starvation count stays (R140; that the mark TARGET_GONE also replaces LINK_DOWN is log entry 29). A walk's end, other than
by a drop, completes with TARGET_GONE what is queued or awaits for a target that the walk has not left ACTIVE with its
serial, keeps the rest in place and leaves the fetch list alone (R141); then a held outcome is judged for a packet that is
left (R138, R136), a received flag other than 0 counting as set (log entry 41). -/
def Obligations.PacketSweeps : Prop :=
  (∀ (s : State) (g : Ring) (c : RecordRing) (tag : HostTag), s.Fetching controlRing g c →
    s.ses.session = .waiting ∨ s.ses.session = .ready → s.rwk.walking = false →
    ∃ t, exec (.enumerate tag 0) s = .next t
      ∧ t.apq.fetching = s.apq.marked .targetGone ∧ t.apq.reading = s.apq.reading ∧ t.apq.urgent = []
      ∧ t.apq.normal = [] ∧ t.apq.bulk = [] ∧ t.apq.awaiting = [] ∧ t.apq.starve = s.apq.starve
      ∧ (∀ k, s.apq.acPacket = some k →
        (flightIs .ac s = false → t.apq.acPacket = none ∧ t.apq.held = none ∧ t.sbc.acReq = none)
        ∧ (flightIs .ac s = true → t.apq.acPacket = some k ∧ t.sbc.inFlight = s.sbc.inFlight))
      ∧ ((s.apq.sends.map (·.handle)).Nodup → ∀ q ∈ s.apq.resting, q.handle ∈ s.hif.inFlight →
        s.completes t q.handle .targetGone (placedWord q) (sendWord q) = true))
  ∧ (∀ (i : Instr) (s t : State), s.handed = [] → exec i s = .next t → s.rwk.walking = true → t.rwk.walking = false →
    s.ses.presence = true → t.ses.presence = true →
    let there := fun (q : Packet) => q.target = .broadcast ∨
      ((entryAt t q.target.index).state = .active ∧ q.target = .tile q.target.index (entryAt t q.target.index).serial)
    let keep := fun (ps : List Packet) => ps.filter (fun q => decide (there q))
    let ends := fun (q : Packet) (st : Status) => s.heldHandles.Nodup → s.canComplete q.handle →
      s.completes t q.handle st (placedWord q) (sendWord q) = true
    (s.apq.held = none → t.apq.urgent = keep s.apq.urgent ∧ t.apq.normal = keep s.apq.normal
      ∧ t.apq.bulk = keep s.apq.bulk ∧ t.apq.awaiting = keep s.apq.awaiting ∧ t.apq.fetching = s.apq.fetching
      ∧ t.apq.starve = s.apq.starve)
    ∧ ((∃ f, i = .sidebandFrameReceived f) ∨ (∃ b, i = .attemptTimeout b) →
      (∀ q ∈ classPackets s.apq ++ s.apq.awaiting, ¬ there q → ends q .targetGone)
      ∧ (∀ q o, s.apq.held = some o → s.apq.acPacket = some q.handle.id → s.apq.awaiting = [q] →
        (∀ q1 ∈ classPackets s.apq, there q1) →
        (there q → ∀ d, o = .response d → some (d.getD 0 0) = q.tag →
          (d.getD 1 0 ≠ 0 → t.apq.awaiting = [] ∧ ends q .ok)
          ∧ (d.getD 1 0 = 0 → q.attempts < 3 → q.late t.fmon.fsn = false → t.apq.awaiting = []
            ∧ t.apq.urgent = (if q.cls = .urgent then [{ q with due := false }] else []) ++ s.apq.urgent
            ∧ t.apq.normal = (if q.cls = .normal then [{ q with due := false }] else []) ++ s.apq.normal
            ∧ t.apq.bulk = (if q.cls = .bulk then [{ q with due := false }] else []) ++ s.apq.bulk))
        ∧ (there q → o = .noResponse ∨ o = .badCheck ∨ o = .refused → t.apq.awaiting = [] ∧ ends q .noResponse)
        ∧ (flightIs .ac s = false → t.apq.held = none ∧ t.apq.acPacket = none))))

/-- Deadlines, due marks and receipts. PACKET_EXPIRY and ACK_DUE, rows of their own at the current FSN (log entry 5): packets
whose deadline has passed leave their queues and complete with EXPIRED (R130); an awaiting packet is due two frames after
its placement, and the first one due is asked for with GET-RECEIPT, once AC's transaction in flight has ended (R51, R135). The
outcome of a GET-RECEIPT, by the first case that applies (R136): the packet gone, discarded; in a walk, held; the target gone,
TARGET_GONE; NAK, a failed transaction or another tag, NO_RESPONSE; received (any byte but 0: log entry 41), OK; not received,
NOT_DELIVERED at the third attempt, EXPIRED past the deadline, else back to the head of its class (R137). The time
of the third attempt's end (R44) rests on log entry 35. -/
def Obligations.ExpiryAndReceipts : Prop :=
  (∀ s : State, s.handed = [] →
    let keep := fun (ps : List Packet) => ps.filter (fun p => !p.late s.fmon.fsn)
    (∃ t, exec .packetExpiry s = .next t ∧ t.apq = { s.apq with
        urgent := keep s.apq.urgent, normal := keep s.apq.normal, bulk := keep s.apq.bulk }
      ∧ t.ses = s.ses ∧ t.sbc = s.sbc ∧ t.rwk = s.rwk ∧ t.hif.rings = s.hif.rings
      ∧ (((classPackets s.apq).map (·.handle)).Nodup → ∀ p ∈ classPackets s.apq, p.late s.fmon.fsn = true →
        s.canComplete p.handle → s.completes t p.handle .expired (placedWord p) (sendWord p) = true))
    ∧ (∀ p c, s.Pending p.handle c → s.apq.urgent = [] → s.apq.normal = [p] → s.apq.bulk = [] →
      p.late s.fmon.fsn = true → exec .packetExpiry s =
        .next ({ s with apq := { s.apq with normal := [] } }.completed c p.handle .expired (placedWord p) (sendWord p))))
  ∧ (∀ (s : State) (p : Packet) (f : Fsn), s.handed = [] → s.apq.awaiting = [p] → p.placed = some f →
    s.apq.acPacket = none → s.ses.presence = true →
    let q : Request := ⟨BitVec.ofNat 8 (p.target.index + 1), .getReceipt, [p.tag.getD 0]⟩
    (reached s.fmon.fsn (f + 2) = true → exec .ackDue s = .next { s with
      apq := { s.apq with awaiting := [{ p with due := true }], acPacket := some p.handle.id }
      sbc := if flightIs .ac s then { s.sbc with deferred := some q } else { s.sbc with acReq := some q } })
    ∧ (reached s.fmon.fsn (f + 2) = false → p.due = false → exec .ackDue s = .next s))
  ∧ (∀ (s : State) (c : RecordRing) (x : Transaction) (p : Packet), s.Pending p.handle c → s.sbc.channel = .attempt →
    s.sbc.inFlight = some x → x.requester = .ac → x.request.kind = .getReceipt → s.sbc.lateFrame = false →
    s.apq.acPacket = some p.handle.id → s.apq.held = none → s.sbc.idleRequests →
    let s1 : State := { s with sbc := s.sbc.freed, apq := { s.apq with awaiting := [], acPacket := none } }
    let there := p.target = .broadcast ∨
      ((entryAt s p.target.index).state = .active ∧ p.target = .tile p.target.index (entryAt s p.target.index).serial)
    let judged := s.apq.awaiting = [p] ∧ s.rwk.walking = false
    let ended := fun now st => Host.Outcome.next ({ s1 with now := now }.completed c p.handle st (placedWord p) (sendWord p))
    (∀ f d, judgeFrame x f = .accept true d →
      let run := exec (.sidebandFrameReceived f) s
      let tag := some (d.getD 0 0)
      let ends := fun st => run = ended s.now st
      ((∀ q ∈ s.apq.awaiting, q.handle.id ≠ p.handle.id ∧ q.due = false) → run = .next { s with
        sbc := s.sbc.freed, apq := { s.apq with acPacket := none } })
      ∧ (s.apq.awaiting = [p] → s.rwk.walking = true → run = .next { s with
        sbc := s.sbc.freed, apq := { s.apq with held := some (.response d) } })
      ∧ (judged → ¬ there → ends .targetGone)
      ∧ (judged → there → tag ≠ p.tag → ends .noResponse)
      ∧ (judged → there → tag = p.tag → d.getD 1 0 ≠ 0 → ends .ok)
      ∧ (judged → there → tag = p.tag → d.getD 1 0 = 0 →
        (3 ≤ p.attempts → ends .notDelivered)
        ∧ (p.attempts < 3 → p.late s.fmon.fsn = true → ends .expired)
        ∧ (p.attempts < 3 → p.late s.fmon.fsn = false → run = .next { s1 with apq := match p.cls with
            | .urgent => { s1.apq with urgent := { p with due := false } :: s.apq.urgent }
            | .normal => { s1.apq with normal := { p with due := false } :: s.apq.normal }
            | .bulk => { s1.apq with bulk := { p with due := false } :: s.apq.bulk } })))
    ∧ (∀ f d, judgeFrame x f = .accept false d → judged →
      exec (.sidebandFrameReceived f) s = ended s.now (if there then .noResponse else .targetGone))
    ∧ (∀ f, x.attempt = 3 → judgeFrame x f = .bad → judged →
      exec (.sidebandFrameReceived f) s = ended s.now (if there then .noResponse else .targetGone))
    ∧ (∀ t0, x.attempt = 3 → s.sbc.respTimer = some t0 → judged →
      exec (.attemptTimeout false) s
        = ended (max s.now (t0 + 54000)) (if there then .noResponse else .targetGone)))

/-- The audio port (R146, R149, R150, R153, R154): capture begins at a falling edge of AU_WS, which counts in
the running window (log entry 33); a group completed, the first
level of each half left out because sampling begins at the second rising edge of AU_BCK, joins the
FIFO in FILLING and FLOWING, is discarded in HALTED, and overflows a full FIFO once while the report is armed; a
window of 10 ms judges the rate, halting and emptying the FIFO on a mismatch and filling again on a match. -/
def Obligations.AudioPort : Prop :=
  ∀ (s : State) (f : AudioFormat) (w : RateWindow), s.handed = [] → s.ain.format = some f → s.ain.window = some w →
    s.ain.audio ≠ .off →
    let edge : Ain := { s.ain with window := some { w with edges := w.edges + 1 } }
    let keeps := s.ain.audio = .filling ∨ s.ain.audio = .flowing
    (s.ain.capturing = false → exec .captureStart s = .next { s with ain := { edge with capturing := true } })
    ∧ (s.ain.capturing = true → exec .captureStart s = .next s)
    ∧ (∀ halves, s.ain.capturing = true →
      let run := exec (.sampleGroupComplete halves) s
      let group := (List.range f.channels).map (fun i => sampleOf f.wordLength ((halves.getD i []).drop 1))
      (keeps → s.ain.fifo.length < 8192 →
        run = .next { s with ain := { edge with fifo := s.ain.fifo ++ [group] } })
      ∧ (keeps → 8192 ≤ s.ain.fifo.length → s.ain.armed = true →
        run = .next (writeEvent (.audioOverflow s.ain.audio f.channels f.rate)
          { s with ain := { edge with armed := false } }))
      ∧ (keeps → 8192 ≤ s.ain.fifo.length → s.ain.armed = false → run = .next { s with ain := edge })
      ∧ (s.ain.audio = .halted → run = .next { s with ain := edge }))
    ∧ (let m := w.edges * 100
      let at_ := w.start + 270000
      let next : State := { s with now := max s.now at_, ain := { s.ain with window := some ⟨at_, 0⟩ } }
      let near := (f.rate - m + (m - f.rate)) * 50 ≤ f.rate
      (keeps → near → exec .rateCheckWindowEnd s = .next next)
      ∧ (keeps → ¬ near → exec .rateCheckWindowEnd s = .next (writeEvent (.audioRateMismatch s.ain.audio f.rate m)
        { next with ain := { next.ain with audio := .halted, fifo := [], armed := true } }))
      ∧ (s.ain.audio = .halted → ¬ near → exec .rateCheckWindowEnd s = .next next)
      ∧ (s.ain.audio = .halted → near → exec .rateCheckWindowEnd s = .next (writeEvent (.audioRateRestored f.rate m)
        { next with ain := { next.ain with audio := .filling, capturing := false } })))
end

