-- ==== Sys2Proof/Laws/State.lean ====
section
/-!
SUPPORT. What each update of the state leaves alone, field by field, and what the basic ones set.
-/

namespace Sys2Proof.Machine

/-! ### emit -/

@[simp] theorem emit_ses (o : Output) (s : State) : (emit o s).ses = s.ses := rfl
@[simp] theorem emit_fmon (o : Output) (s : State) : (emit o s).fmon = s.fmon := rfl
@[simp] theorem emit_sbc (o : Output) (s : State) : (emit o s).sbc = s.sbc := rfl
@[simp] theorem emit_rwk (o : Output) (s : State) : (emit o s).rwk = s.rwk := rfl
@[simp] theorem emit_dcr (o : Output) (s : State) : (emit o s).dcr = s.dcr := rfl
@[simp] theorem emit_bss (o : Output) (s : State) : (emit o s).bss = s.bss := rfl
@[simp] theorem emit_stt (o : Output) (s : State) : (emit o s).stt = s.stt := rfl
@[simp] theorem emit_apq (o : Output) (s : State) : (emit o s).apq = s.apq := rfl
@[simp] theorem emit_ain (o : Output) (s : State) : (emit o s).ain = s.ain := rfl
@[simp] theorem emit_pxp (o : Output) (s : State) : (emit o s).pxp = s.pxp := rfl
@[simp] theorem emit_hif (o : Output) (s : State) : (emit o s).hif = s.hif := rfl
@[simp] theorem emit_pins (o : Output) (s : State) : (emit o s).pins = s.pins := rfl
@[simp] theorem emit_now (o : Output) (s : State) : (emit o s).now = s.now := rfl
@[simp] theorem emit_handed (o : Output) (s : State) : (emit o s).handed = s.handed := rfl
@[simp] theorem emit_choices (o : Output) (s : State) : (emit o s).choices = s.choices := rfl
@[simp] theorem emit_pending (o : Output) (s : State) : (emit o s).pending = s.pending := rfl

/-! ### advanceTo -/

@[simp] theorem advanceTo_ses (t : Nat) (s : State) : (advanceTo t s).ses = s.ses := rfl
@[simp] theorem advanceTo_fmon (t : Nat) (s : State) : (advanceTo t s).fmon = s.fmon := rfl
@[simp] theorem advanceTo_sbc (t : Nat) (s : State) : (advanceTo t s).sbc = s.sbc := rfl
@[simp] theorem advanceTo_rwk (t : Nat) (s : State) : (advanceTo t s).rwk = s.rwk := rfl
@[simp] theorem advanceTo_dcr (t : Nat) (s : State) : (advanceTo t s).dcr = s.dcr := rfl
@[simp] theorem advanceTo_bss (t : Nat) (s : State) : (advanceTo t s).bss = s.bss := rfl
@[simp] theorem advanceTo_stt (t : Nat) (s : State) : (advanceTo t s).stt = s.stt := rfl
@[simp] theorem advanceTo_apq (t : Nat) (s : State) : (advanceTo t s).apq = s.apq := rfl
@[simp] theorem advanceTo_ain (t : Nat) (s : State) : (advanceTo t s).ain = s.ain := rfl
@[simp] theorem advanceTo_pxp (t : Nat) (s : State) : (advanceTo t s).pxp = s.pxp := rfl
@[simp] theorem advanceTo_hif (t : Nat) (s : State) : (advanceTo t s).hif = s.hif := rfl
@[simp] theorem advanceTo_pins (t : Nat) (s : State) : (advanceTo t s).pins = s.pins := rfl
@[simp] theorem advanceTo_handed (t : Nat) (s : State) : (advanceTo t s).handed = s.handed := rfl
@[simp] theorem advanceTo_out (t : Nat) (s : State) : (advanceTo t s).out = s.out := rfl
@[simp] theorem advanceTo_choices (t : Nat) (s : State) : (advanceTo t s).choices = s.choices := rfl
@[simp] theorem advanceTo_pending (t : Nat) (s : State) : (advanceTo t s).pending = s.pending := rfl

/-! ### hand -/

@[simp] theorem hand_ses (o : Owner) (i : HandedItem) (s : State) : (hand o i s).ses = s.ses := rfl
@[simp] theorem hand_fmon (o : Owner) (i : HandedItem) (s : State) : (hand o i s).fmon = s.fmon := rfl
@[simp] theorem hand_sbc (o : Owner) (i : HandedItem) (s : State) : (hand o i s).sbc = s.sbc := rfl
@[simp] theorem hand_rwk (o : Owner) (i : HandedItem) (s : State) : (hand o i s).rwk = s.rwk := rfl
@[simp] theorem hand_dcr (o : Owner) (i : HandedItem) (s : State) : (hand o i s).dcr = s.dcr := rfl
@[simp] theorem hand_bss (o : Owner) (i : HandedItem) (s : State) : (hand o i s).bss = s.bss := rfl
@[simp] theorem hand_stt (o : Owner) (i : HandedItem) (s : State) : (hand o i s).stt = s.stt := rfl
@[simp] theorem hand_apq (o : Owner) (i : HandedItem) (s : State) : (hand o i s).apq = s.apq := rfl
@[simp] theorem hand_ain (o : Owner) (i : HandedItem) (s : State) : (hand o i s).ain = s.ain := rfl
@[simp] theorem hand_pxp (o : Owner) (i : HandedItem) (s : State) : (hand o i s).pxp = s.pxp := rfl
@[simp] theorem hand_hif (o : Owner) (i : HandedItem) (s : State) : (hand o i s).hif = s.hif := rfl
@[simp] theorem hand_pins (o : Owner) (i : HandedItem) (s : State) : (hand o i s).pins = s.pins := rfl
@[simp] theorem hand_now (o : Owner) (i : HandedItem) (s : State) : (hand o i s).now = s.now := rfl
@[simp] theorem hand_out (o : Owner) (i : HandedItem) (s : State) : (hand o i s).out = s.out := rfl
@[simp] theorem hand_choices (o : Owner) (i : HandedItem) (s : State) : (hand o i s).choices = s.choices := rfl
@[simp] theorem hand_pending (o : Owner) (i : HandedItem) (s : State) : (hand o i s).pending = s.pending := rfl

/-! ### complete -/

@[simp] theorem complete_ses (o : Owner) (h : Handle) (st : Status) (a b : Word) (s : State) : (complete o h st a b s).ses = s.ses := rfl
@[simp] theorem complete_fmon (o : Owner) (h : Handle) (st : Status) (a b : Word) (s : State) : (complete o h st a b s).fmon = s.fmon := rfl
@[simp] theorem complete_sbc (o : Owner) (h : Handle) (st : Status) (a b : Word) (s : State) : (complete o h st a b s).sbc = s.sbc := rfl
@[simp] theorem complete_rwk (o : Owner) (h : Handle) (st : Status) (a b : Word) (s : State) : (complete o h st a b s).rwk = s.rwk := rfl
@[simp] theorem complete_dcr (o : Owner) (h : Handle) (st : Status) (a b : Word) (s : State) : (complete o h st a b s).dcr = s.dcr := rfl
@[simp] theorem complete_bss (o : Owner) (h : Handle) (st : Status) (a b : Word) (s : State) : (complete o h st a b s).bss = s.bss := rfl
@[simp] theorem complete_stt (o : Owner) (h : Handle) (st : Status) (a b : Word) (s : State) : (complete o h st a b s).stt = s.stt := rfl
@[simp] theorem complete_apq (o : Owner) (h : Handle) (st : Status) (a b : Word) (s : State) : (complete o h st a b s).apq = s.apq := rfl
@[simp] theorem complete_ain (o : Owner) (h : Handle) (st : Status) (a b : Word) (s : State) : (complete o h st a b s).ain = s.ain := rfl
@[simp] theorem complete_pxp (o : Owner) (h : Handle) (st : Status) (a b : Word) (s : State) : (complete o h st a b s).pxp = s.pxp := rfl
@[simp] theorem complete_hif (o : Owner) (h : Handle) (st : Status) (a b : Word) (s : State) : (complete o h st a b s).hif = s.hif := rfl
@[simp] theorem complete_pins (o : Owner) (h : Handle) (st : Status) (a b : Word) (s : State) : (complete o h st a b s).pins = s.pins := rfl
@[simp] theorem complete_now (o : Owner) (h : Handle) (st : Status) (a b : Word) (s : State) : (complete o h st a b s).now = s.now := rfl
@[simp] theorem complete_out (o : Owner) (h : Handle) (st : Status) (a b : Word) (s : State) : (complete o h st a b s).out = s.out := rfl
@[simp] theorem complete_choices (o : Owner) (h : Handle) (st : Status) (a b : Word) (s : State) : (complete o h st a b s).choices = s.choices := rfl
@[simp] theorem complete_pending (o : Owner) (h : Handle) (st : Status) (a b : Word) (s : State) : (complete o h st a b s).pending = s.pending := rfl

/-! ### post -/

@[simp] theorem post_ses (o : Owner) (e : Event) (s : State) : (post o e s).ses = s.ses := rfl
@[simp] theorem post_fmon (o : Owner) (e : Event) (s : State) : (post o e s).fmon = s.fmon := rfl
@[simp] theorem post_sbc (o : Owner) (e : Event) (s : State) : (post o e s).sbc = s.sbc := rfl
@[simp] theorem post_rwk (o : Owner) (e : Event) (s : State) : (post o e s).rwk = s.rwk := rfl
@[simp] theorem post_dcr (o : Owner) (e : Event) (s : State) : (post o e s).dcr = s.dcr := rfl
@[simp] theorem post_bss (o : Owner) (e : Event) (s : State) : (post o e s).bss = s.bss := rfl
@[simp] theorem post_stt (o : Owner) (e : Event) (s : State) : (post o e s).stt = s.stt := rfl
@[simp] theorem post_apq (o : Owner) (e : Event) (s : State) : (post o e s).apq = s.apq := rfl
@[simp] theorem post_ain (o : Owner) (e : Event) (s : State) : (post o e s).ain = s.ain := rfl
@[simp] theorem post_pxp (o : Owner) (e : Event) (s : State) : (post o e s).pxp = s.pxp := rfl
@[simp] theorem post_hif (o : Owner) (e : Event) (s : State) : (post o e s).hif = s.hif := rfl
@[simp] theorem post_pins (o : Owner) (e : Event) (s : State) : (post o e s).pins = s.pins := rfl
@[simp] theorem post_now (o : Owner) (e : Event) (s : State) : (post o e s).now = s.now := rfl
@[simp] theorem post_out (o : Owner) (e : Event) (s : State) : (post o e s).out = s.out := rfl
@[simp] theorem post_choices (o : Owner) (e : Event) (s : State) : (post o e s).choices = s.choices := rfl
@[simp] theorem post_pending (o : Owner) (e : Event) (s : State) : (post o e s).pending = s.pending := rfl

/-! ### updEntry -/

@[simp] theorem updEntry_ses (i : Nat) (f : Entry → Entry) (s : State) : (updEntry i f s).ses = s.ses := rfl
@[simp] theorem updEntry_fmon (i : Nat) (f : Entry → Entry) (s : State) : (updEntry i f s).fmon = s.fmon := rfl
@[simp] theorem updEntry_sbc (i : Nat) (f : Entry → Entry) (s : State) : (updEntry i f s).sbc = s.sbc := rfl
@[simp] theorem updEntry_dcr (i : Nat) (f : Entry → Entry) (s : State) : (updEntry i f s).dcr = s.dcr := rfl
@[simp] theorem updEntry_bss (i : Nat) (f : Entry → Entry) (s : State) : (updEntry i f s).bss = s.bss := rfl
@[simp] theorem updEntry_stt (i : Nat) (f : Entry → Entry) (s : State) : (updEntry i f s).stt = s.stt := rfl
@[simp] theorem updEntry_apq (i : Nat) (f : Entry → Entry) (s : State) : (updEntry i f s).apq = s.apq := rfl
@[simp] theorem updEntry_ain (i : Nat) (f : Entry → Entry) (s : State) : (updEntry i f s).ain = s.ain := rfl
@[simp] theorem updEntry_pxp (i : Nat) (f : Entry → Entry) (s : State) : (updEntry i f s).pxp = s.pxp := rfl
@[simp] theorem updEntry_hif (i : Nat) (f : Entry → Entry) (s : State) : (updEntry i f s).hif = s.hif := rfl
@[simp] theorem updEntry_pins (i : Nat) (f : Entry → Entry) (s : State) : (updEntry i f s).pins = s.pins := rfl
@[simp] theorem updEntry_now (i : Nat) (f : Entry → Entry) (s : State) : (updEntry i f s).now = s.now := rfl
@[simp] theorem updEntry_handed (i : Nat) (f : Entry → Entry) (s : State) : (updEntry i f s).handed = s.handed := rfl
@[simp] theorem updEntry_out (i : Nat) (f : Entry → Entry) (s : State) : (updEntry i f s).out = s.out := rfl
@[simp] theorem updEntry_choices (i : Nat) (f : Entry → Entry) (s : State) : (updEntry i f s).choices = s.choices := rfl
@[simp] theorem updEntry_pending (i : Nat) (f : Entry → Entry) (s : State) : (updEntry i f s).pending = s.pending := rfl

/-! ### joinSet -/

@[simp] theorem joinSet_ses (r : Requester) (q : Request) (s : State) : (joinSet r q s).ses = s.ses := by unfold joinSet; split <;> rfl
@[simp] theorem joinSet_fmon (r : Requester) (q : Request) (s : State) : (joinSet r q s).fmon = s.fmon := by unfold joinSet; split <;> rfl
@[simp] theorem joinSet_rwk (r : Requester) (q : Request) (s : State) : (joinSet r q s).rwk = s.rwk := by unfold joinSet; split <;> rfl
@[simp] theorem joinSet_dcr (r : Requester) (q : Request) (s : State) : (joinSet r q s).dcr = s.dcr := by unfold joinSet; split <;> rfl
@[simp] theorem joinSet_bss (r : Requester) (q : Request) (s : State) : (joinSet r q s).bss = s.bss := by unfold joinSet; split <;> rfl
@[simp] theorem joinSet_stt (r : Requester) (q : Request) (s : State) : (joinSet r q s).stt = s.stt := by unfold joinSet; split <;> rfl
@[simp] theorem joinSet_apq (r : Requester) (q : Request) (s : State) : (joinSet r q s).apq = s.apq := by unfold joinSet; split <;> rfl
@[simp] theorem joinSet_ain (r : Requester) (q : Request) (s : State) : (joinSet r q s).ain = s.ain := by unfold joinSet; split <;> rfl
@[simp] theorem joinSet_pxp (r : Requester) (q : Request) (s : State) : (joinSet r q s).pxp = s.pxp := by unfold joinSet; split <;> rfl
@[simp] theorem joinSet_hif (r : Requester) (q : Request) (s : State) : (joinSet r q s).hif = s.hif := by unfold joinSet; split <;> rfl
@[simp] theorem joinSet_pins (r : Requester) (q : Request) (s : State) : (joinSet r q s).pins = s.pins := by unfold joinSet; split <;> rfl
@[simp] theorem joinSet_now (r : Requester) (q : Request) (s : State) : (joinSet r q s).now = s.now := by unfold joinSet; split <;> rfl
@[simp] theorem joinSet_handed (r : Requester) (q : Request) (s : State) : (joinSet r q s).handed = s.handed := by unfold joinSet; split <;> rfl
@[simp] theorem joinSet_out (r : Requester) (q : Request) (s : State) : (joinSet r q s).out = s.out := by unfold joinSet; split <;> rfl
@[simp] theorem joinSet_choices (r : Requester) (q : Request) (s : State) : (joinSet r q s).choices = s.choices := by unfold joinSet; split <;> rfl
@[simp] theorem joinSet_pending (r : Requester) (q : Request) (s : State) : (joinSet r q s).pending = s.pending := by unfold joinSet; split <;> rfl

/-! ### withdraw -/

@[simp] theorem withdraw_ses (r : Requester) (s : State) : (withdraw r s).ses = s.ses := rfl
@[simp] theorem withdraw_fmon (r : Requester) (s : State) : (withdraw r s).fmon = s.fmon := rfl
@[simp] theorem withdraw_rwk (r : Requester) (s : State) : (withdraw r s).rwk = s.rwk := rfl
@[simp] theorem withdraw_dcr (r : Requester) (s : State) : (withdraw r s).dcr = s.dcr := rfl
@[simp] theorem withdraw_bss (r : Requester) (s : State) : (withdraw r s).bss = s.bss := rfl
@[simp] theorem withdraw_stt (r : Requester) (s : State) : (withdraw r s).stt = s.stt := rfl
@[simp] theorem withdraw_apq (r : Requester) (s : State) : (withdraw r s).apq = s.apq := rfl
@[simp] theorem withdraw_ain (r : Requester) (s : State) : (withdraw r s).ain = s.ain := rfl
@[simp] theorem withdraw_pxp (r : Requester) (s : State) : (withdraw r s).pxp = s.pxp := rfl
@[simp] theorem withdraw_hif (r : Requester) (s : State) : (withdraw r s).hif = s.hif := rfl
@[simp] theorem withdraw_pins (r : Requester) (s : State) : (withdraw r s).pins = s.pins := rfl
@[simp] theorem withdraw_now (r : Requester) (s : State) : (withdraw r s).now = s.now := rfl
@[simp] theorem withdraw_handed (r : Requester) (s : State) : (withdraw r s).handed = s.handed := rfl
@[simp] theorem withdraw_out (r : Requester) (s : State) : (withdraw r s).out = s.out := rfl
@[simp] theorem withdraw_choices (r : Requester) (s : State) : (withdraw r s).choices = s.choices := rfl
@[simp] theorem withdraw_pending (r : Requester) (s : State) : (withdraw r s).pending = s.pending := rfl

/-! ### beginHoldoff -/

@[simp] theorem beginHoldoff_ses (s : State) : (beginHoldoff s).ses = s.ses := rfl
@[simp] theorem beginHoldoff_fmon (s : State) : (beginHoldoff s).fmon = s.fmon := rfl
@[simp] theorem beginHoldoff_rwk (s : State) : (beginHoldoff s).rwk = s.rwk := rfl
@[simp] theorem beginHoldoff_dcr (s : State) : (beginHoldoff s).dcr = s.dcr := rfl
@[simp] theorem beginHoldoff_bss (s : State) : (beginHoldoff s).bss = s.bss := rfl
@[simp] theorem beginHoldoff_stt (s : State) : (beginHoldoff s).stt = s.stt := rfl
@[simp] theorem beginHoldoff_apq (s : State) : (beginHoldoff s).apq = s.apq := rfl
@[simp] theorem beginHoldoff_ain (s : State) : (beginHoldoff s).ain = s.ain := rfl
@[simp] theorem beginHoldoff_pxp (s : State) : (beginHoldoff s).pxp = s.pxp := rfl
@[simp] theorem beginHoldoff_hif (s : State) : (beginHoldoff s).hif = s.hif := rfl
@[simp] theorem beginHoldoff_pins (s : State) : (beginHoldoff s).pins = s.pins := rfl
@[simp] theorem beginHoldoff_now (s : State) : (beginHoldoff s).now = s.now := rfl
@[simp] theorem beginHoldoff_handed (s : State) : (beginHoldoff s).handed = s.handed := rfl
@[simp] theorem beginHoldoff_out (s : State) : (beginHoldoff s).out = s.out := rfl
@[simp] theorem beginHoldoff_choices (s : State) : (beginHoldoff s).choices = s.choices := rfl
@[simp] theorem beginHoldoff_pending (s : State) : (beginHoldoff s).pending = s.pending := rfl

/-! ### freeChannel -/

@[simp] theorem freeChannel_ses (s : State) : (freeChannel s).ses = s.ses := rfl
@[simp] theorem freeChannel_fmon (s : State) : (freeChannel s).fmon = s.fmon := rfl
@[simp] theorem freeChannel_rwk (s : State) : (freeChannel s).rwk = s.rwk := rfl
@[simp] theorem freeChannel_dcr (s : State) : (freeChannel s).dcr = s.dcr := rfl
@[simp] theorem freeChannel_bss (s : State) : (freeChannel s).bss = s.bss := rfl
@[simp] theorem freeChannel_stt (s : State) : (freeChannel s).stt = s.stt := rfl
@[simp] theorem freeChannel_apq (s : State) : (freeChannel s).apq = s.apq := rfl
@[simp] theorem freeChannel_ain (s : State) : (freeChannel s).ain = s.ain := rfl
@[simp] theorem freeChannel_pxp (s : State) : (freeChannel s).pxp = s.pxp := rfl
@[simp] theorem freeChannel_hif (s : State) : (freeChannel s).hif = s.hif := rfl
@[simp] theorem freeChannel_pins (s : State) : (freeChannel s).pins = s.pins := rfl
@[simp] theorem freeChannel_now (s : State) : (freeChannel s).now = s.now := rfl
@[simp] theorem freeChannel_handed (s : State) : (freeChannel s).handed = s.handed := rfl
@[simp] theorem freeChannel_out (s : State) : (freeChannel s).out = s.out := rfl
@[simp] theorem freeChannel_choices (s : State) : (freeChannel s).choices = s.choices := rfl
@[simp] theorem freeChannel_pending (s : State) : (freeChannel s).pending = s.pending := rfl

/-! ### warn -/

@[simp] theorem warn_ses (s : State) : (warn s).ses = s.ses := rfl
@[simp] theorem warn_fmon (s : State) : (warn s).fmon = s.fmon := rfl
@[simp] theorem warn_sbc (s : State) : (warn s).sbc = s.sbc := rfl
@[simp] theorem warn_dcr (s : State) : (warn s).dcr = s.dcr := rfl
@[simp] theorem warn_bss (s : State) : (warn s).bss = s.bss := rfl
@[simp] theorem warn_stt (s : State) : (warn s).stt = s.stt := rfl
@[simp] theorem warn_apq (s : State) : (warn s).apq = s.apq := rfl
@[simp] theorem warn_ain (s : State) : (warn s).ain = s.ain := rfl
@[simp] theorem warn_pxp (s : State) : (warn s).pxp = s.pxp := rfl
@[simp] theorem warn_hif (s : State) : (warn s).hif = s.hif := rfl
@[simp] theorem warn_pins (s : State) : (warn s).pins = s.pins := rfl
@[simp] theorem warn_now (s : State) : (warn s).now = s.now := rfl
@[simp] theorem warn_handed (s : State) : (warn s).handed = s.handed := rfl
@[simp] theorem warn_out (s : State) : (warn s).out = s.out := rfl
@[simp] theorem warn_choices (s : State) : (warn s).choices = s.choices := rfl
@[simp] theorem warn_pending (s : State) : (warn s).pending = s.pending := rfl

/-! ### advancePort -/

@[simp] theorem advancePort_ses (s : State) : (advancePort s).ses = s.ses := rfl
@[simp] theorem advancePort_fmon (s : State) : (advancePort s).fmon = s.fmon := rfl
@[simp] theorem advancePort_sbc (s : State) : (advancePort s).sbc = s.sbc := rfl
@[simp] theorem advancePort_dcr (s : State) : (advancePort s).dcr = s.dcr := rfl
@[simp] theorem advancePort_bss (s : State) : (advancePort s).bss = s.bss := rfl
@[simp] theorem advancePort_stt (s : State) : (advancePort s).stt = s.stt := rfl
@[simp] theorem advancePort_apq (s : State) : (advancePort s).apq = s.apq := rfl
@[simp] theorem advancePort_ain (s : State) : (advancePort s).ain = s.ain := rfl
@[simp] theorem advancePort_pxp (s : State) : (advancePort s).pxp = s.pxp := rfl
@[simp] theorem advancePort_hif (s : State) : (advancePort s).hif = s.hif := rfl
@[simp] theorem advancePort_pins (s : State) : (advancePort s).pins = s.pins := rfl
@[simp] theorem advancePort_now (s : State) : (advancePort s).now = s.now := rfl
@[simp] theorem advancePort_handed (s : State) : (advancePort s).handed = s.handed := rfl
@[simp] theorem advancePort_out (s : State) : (advancePort s).out = s.out := rfl
@[simp] theorem advancePort_choices (s : State) : (advancePort s).choices = s.choices := rfl
@[simp] theorem advancePort_pending (s : State) : (advancePort s).pending = s.pending := rfl

/-! ### wkPlace -/

@[simp] theorem wkPlace_ses (w : WalkWait) (d : Byte) (k : RequestKind) (ps : List Byte) (s : State) : (wkPlace w d k ps s).ses = s.ses := by simp [wkPlace]
@[simp] theorem wkPlace_fmon (w : WalkWait) (d : Byte) (k : RequestKind) (ps : List Byte) (s : State) : (wkPlace w d k ps s).fmon = s.fmon := by simp [wkPlace]
@[simp] theorem wkPlace_dcr (w : WalkWait) (d : Byte) (k : RequestKind) (ps : List Byte) (s : State) : (wkPlace w d k ps s).dcr = s.dcr := by simp [wkPlace]
@[simp] theorem wkPlace_bss (w : WalkWait) (d : Byte) (k : RequestKind) (ps : List Byte) (s : State) : (wkPlace w d k ps s).bss = s.bss := by simp [wkPlace]
@[simp] theorem wkPlace_stt (w : WalkWait) (d : Byte) (k : RequestKind) (ps : List Byte) (s : State) : (wkPlace w d k ps s).stt = s.stt := by simp [wkPlace]
@[simp] theorem wkPlace_apq (w : WalkWait) (d : Byte) (k : RequestKind) (ps : List Byte) (s : State) : (wkPlace w d k ps s).apq = s.apq := by simp [wkPlace]
@[simp] theorem wkPlace_ain (w : WalkWait) (d : Byte) (k : RequestKind) (ps : List Byte) (s : State) : (wkPlace w d k ps s).ain = s.ain := by simp [wkPlace]
@[simp] theorem wkPlace_pxp (w : WalkWait) (d : Byte) (k : RequestKind) (ps : List Byte) (s : State) : (wkPlace w d k ps s).pxp = s.pxp := by simp [wkPlace]
@[simp] theorem wkPlace_hif (w : WalkWait) (d : Byte) (k : RequestKind) (ps : List Byte) (s : State) : (wkPlace w d k ps s).hif = s.hif := by simp [wkPlace]
@[simp] theorem wkPlace_pins (w : WalkWait) (d : Byte) (k : RequestKind) (ps : List Byte) (s : State) : (wkPlace w d k ps s).pins = s.pins := by simp [wkPlace]
@[simp] theorem wkPlace_now (w : WalkWait) (d : Byte) (k : RequestKind) (ps : List Byte) (s : State) : (wkPlace w d k ps s).now = s.now := by simp [wkPlace]
@[simp] theorem wkPlace_handed (w : WalkWait) (d : Byte) (k : RequestKind) (ps : List Byte) (s : State) : (wkPlace w d k ps s).handed = s.handed := by simp [wkPlace]
@[simp] theorem wkPlace_out (w : WalkWait) (d : Byte) (k : RequestKind) (ps : List Byte) (s : State) : (wkPlace w d k ps s).out = s.out := by simp [wkPlace]
@[simp] theorem wkPlace_choices (w : WalkWait) (d : Byte) (k : RequestKind) (ps : List Byte) (s : State) : (wkPlace w d k ps s).choices = s.choices := by simp [wkPlace]
@[simp] theorem wkPlace_pending (w : WalkWait) (d : Byte) (k : RequestKind) (ps : List Byte) (s : State) : (wkPlace w d k ps s).pending = s.pending := by simp [wkPlace]

/-! ### sampleTerm -/

@[simp] theorem sampleTerm_fmon (term : Bool) (s : State) : (sampleTerm term s).fmon = s.fmon := rfl
@[simp] theorem sampleTerm_sbc (term : Bool) (s : State) : (sampleTerm term s).sbc = s.sbc := rfl
@[simp] theorem sampleTerm_rwk (term : Bool) (s : State) : (sampleTerm term s).rwk = s.rwk := rfl
@[simp] theorem sampleTerm_dcr (term : Bool) (s : State) : (sampleTerm term s).dcr = s.dcr := rfl
@[simp] theorem sampleTerm_bss (term : Bool) (s : State) : (sampleTerm term s).bss = s.bss := rfl
@[simp] theorem sampleTerm_stt (term : Bool) (s : State) : (sampleTerm term s).stt = s.stt := rfl
@[simp] theorem sampleTerm_apq (term : Bool) (s : State) : (sampleTerm term s).apq = s.apq := rfl
@[simp] theorem sampleTerm_ain (term : Bool) (s : State) : (sampleTerm term s).ain = s.ain := rfl
@[simp] theorem sampleTerm_pxp (term : Bool) (s : State) : (sampleTerm term s).pxp = s.pxp := rfl
@[simp] theorem sampleTerm_hif (term : Bool) (s : State) : (sampleTerm term s).hif = s.hif := rfl
@[simp] theorem sampleTerm_now (term : Bool) (s : State) : (sampleTerm term s).now = s.now := rfl
@[simp] theorem sampleTerm_handed (term : Bool) (s : State) : (sampleTerm term s).handed = s.handed := rfl
@[simp] theorem sampleTerm_out (term : Bool) (s : State) : (sampleTerm term s).out = s.out := rfl
@[simp] theorem sampleTerm_choices (term : Bool) (s : State) : (sampleTerm term s).choices = s.choices := rfl
@[simp] theorem sampleTerm_pending (term : Bool) (s : State) : (sampleTerm term s).pending = s.pending := rfl

/-! ### restartTraining -/

@[simp] theorem restartTraining_fmon (s : State) : (restartTraining s).fmon = s.fmon := rfl
@[simp] theorem restartTraining_sbc (s : State) : (restartTraining s).sbc = s.sbc := rfl
@[simp] theorem restartTraining_rwk (s : State) : (restartTraining s).rwk = s.rwk := rfl
@[simp] theorem restartTraining_dcr (s : State) : (restartTraining s).dcr = s.dcr := rfl
@[simp] theorem restartTraining_bss (s : State) : (restartTraining s).bss = s.bss := rfl
@[simp] theorem restartTraining_stt (s : State) : (restartTraining s).stt = s.stt := rfl
@[simp] theorem restartTraining_apq (s : State) : (restartTraining s).apq = s.apq := rfl
@[simp] theorem restartTraining_ain (s : State) : (restartTraining s).ain = s.ain := rfl
@[simp] theorem restartTraining_pxp (s : State) : (restartTraining s).pxp = s.pxp := rfl
@[simp] theorem restartTraining_hif (s : State) : (restartTraining s).hif = s.hif := rfl
@[simp] theorem restartTraining_pins (s : State) : (restartTraining s).pins = s.pins := rfl
@[simp] theorem restartTraining_now (s : State) : (restartTraining s).now = s.now := rfl
@[simp] theorem restartTraining_handed (s : State) : (restartTraining s).handed = s.handed := rfl
@[simp] theorem restartTraining_out (s : State) : (restartTraining s).out = s.out := rfl
@[simp] theorem restartTraining_choices (s : State) : (restartTraining s).choices = s.choices := rfl
@[simp] theorem restartTraining_pending (s : State) : (restartTraining s).pending = s.pending := rfl

/-! ### setCadenceReason -/

@[simp] theorem setCadenceReason_fmon (b : Bool) (s : State) : (setCadenceReason b s).fmon = s.fmon := rfl
@[simp] theorem setCadenceReason_sbc (b : Bool) (s : State) : (setCadenceReason b s).sbc = s.sbc := rfl
@[simp] theorem setCadenceReason_rwk (b : Bool) (s : State) : (setCadenceReason b s).rwk = s.rwk := rfl
@[simp] theorem setCadenceReason_dcr (b : Bool) (s : State) : (setCadenceReason b s).dcr = s.dcr := rfl
@[simp] theorem setCadenceReason_bss (b : Bool) (s : State) : (setCadenceReason b s).bss = s.bss := rfl
@[simp] theorem setCadenceReason_stt (b : Bool) (s : State) : (setCadenceReason b s).stt = s.stt := rfl
@[simp] theorem setCadenceReason_apq (b : Bool) (s : State) : (setCadenceReason b s).apq = s.apq := rfl
@[simp] theorem setCadenceReason_ain (b : Bool) (s : State) : (setCadenceReason b s).ain = s.ain := rfl
@[simp] theorem setCadenceReason_pxp (b : Bool) (s : State) : (setCadenceReason b s).pxp = s.pxp := rfl
@[simp] theorem setCadenceReason_hif (b : Bool) (s : State) : (setCadenceReason b s).hif = s.hif := rfl
@[simp] theorem setCadenceReason_pins (b : Bool) (s : State) : (setCadenceReason b s).pins = s.pins := rfl
@[simp] theorem setCadenceReason_now (b : Bool) (s : State) : (setCadenceReason b s).now = s.now := rfl
@[simp] theorem setCadenceReason_handed (b : Bool) (s : State) : (setCadenceReason b s).handed = s.handed := rfl
@[simp] theorem setCadenceReason_out (b : Bool) (s : State) : (setCadenceReason b s).out = s.out := rfl
@[simp] theorem setCadenceReason_choices (b : Bool) (s : State) : (setCadenceReason b s).choices = s.choices := rfl
@[simp] theorem setCadenceReason_pending (b : Bool) (s : State) : (setCadenceReason b s).pending = s.pending := rfl

/-! ### emptyFifo -/

@[simp] theorem emptyFifo_ses (s : State) : (emptyFifo s).ses = s.ses := rfl
@[simp] theorem emptyFifo_fmon (s : State) : (emptyFifo s).fmon = s.fmon := rfl
@[simp] theorem emptyFifo_sbc (s : State) : (emptyFifo s).sbc = s.sbc := rfl
@[simp] theorem emptyFifo_rwk (s : State) : (emptyFifo s).rwk = s.rwk := rfl
@[simp] theorem emptyFifo_dcr (s : State) : (emptyFifo s).dcr = s.dcr := rfl
@[simp] theorem emptyFifo_bss (s : State) : (emptyFifo s).bss = s.bss := rfl
@[simp] theorem emptyFifo_stt (s : State) : (emptyFifo s).stt = s.stt := rfl
@[simp] theorem emptyFifo_apq (s : State) : (emptyFifo s).apq = s.apq := rfl
@[simp] theorem emptyFifo_pxp (s : State) : (emptyFifo s).pxp = s.pxp := rfl
@[simp] theorem emptyFifo_hif (s : State) : (emptyFifo s).hif = s.hif := rfl
@[simp] theorem emptyFifo_pins (s : State) : (emptyFifo s).pins = s.pins := rfl
@[simp] theorem emptyFifo_now (s : State) : (emptyFifo s).now = s.now := rfl
@[simp] theorem emptyFifo_handed (s : State) : (emptyFifo s).handed = s.handed := rfl
@[simp] theorem emptyFifo_out (s : State) : (emptyFifo s).out = s.out := rfl
@[simp] theorem emptyFifo_choices (s : State) : (emptyFifo s).choices = s.choices := rfl
@[simp] theorem emptyFifo_pending (s : State) : (emptyFifo s).pending = s.pending := rfl

/-! ### handOverGroups -/

@[simp] theorem handOverGroups_ses (n : Nat) (s : State) : (handOverGroups n s).ses = s.ses := rfl
@[simp] theorem handOverGroups_fmon (n : Nat) (s : State) : (handOverGroups n s).fmon = s.fmon := rfl
@[simp] theorem handOverGroups_sbc (n : Nat) (s : State) : (handOverGroups n s).sbc = s.sbc := rfl
@[simp] theorem handOverGroups_rwk (n : Nat) (s : State) : (handOverGroups n s).rwk = s.rwk := rfl
@[simp] theorem handOverGroups_dcr (n : Nat) (s : State) : (handOverGroups n s).dcr = s.dcr := rfl
@[simp] theorem handOverGroups_bss (n : Nat) (s : State) : (handOverGroups n s).bss = s.bss := rfl
@[simp] theorem handOverGroups_stt (n : Nat) (s : State) : (handOverGroups n s).stt = s.stt := rfl
@[simp] theorem handOverGroups_apq (n : Nat) (s : State) : (handOverGroups n s).apq = s.apq := rfl
@[simp] theorem handOverGroups_pxp (n : Nat) (s : State) : (handOverGroups n s).pxp = s.pxp := rfl
@[simp] theorem handOverGroups_hif (n : Nat) (s : State) : (handOverGroups n s).hif = s.hif := rfl
@[simp] theorem handOverGroups_pins (n : Nat) (s : State) : (handOverGroups n s).pins = s.pins := rfl
@[simp] theorem handOverGroups_now (n : Nat) (s : State) : (handOverGroups n s).now = s.now := rfl
@[simp] theorem handOverGroups_handed (n : Nat) (s : State) : (handOverGroups n s).handed = s.handed := rfl
@[simp] theorem handOverGroups_out (n : Nat) (s : State) : (handOverGroups n s).out = s.out := rfl
@[simp] theorem handOverGroups_choices (n : Nat) (s : State) : (handOverGroups n s).choices = s.choices := rfl
@[simp] theorem handOverGroups_pending (n : Nat) (s : State) : (handOverGroups n s).pending = s.pending := rfl

/-! ### pxpNewFrame -/

@[simp] theorem pxpNewFrame_ses (s : State) : (pxpNewFrame s).ses = s.ses := rfl
@[simp] theorem pxpNewFrame_fmon (s : State) : (pxpNewFrame s).fmon = s.fmon := rfl
@[simp] theorem pxpNewFrame_sbc (s : State) : (pxpNewFrame s).sbc = s.sbc := rfl
@[simp] theorem pxpNewFrame_rwk (s : State) : (pxpNewFrame s).rwk = s.rwk := rfl
@[simp] theorem pxpNewFrame_dcr (s : State) : (pxpNewFrame s).dcr = s.dcr := rfl
@[simp] theorem pxpNewFrame_bss (s : State) : (pxpNewFrame s).bss = s.bss := rfl
@[simp] theorem pxpNewFrame_stt (s : State) : (pxpNewFrame s).stt = s.stt := rfl
@[simp] theorem pxpNewFrame_apq (s : State) : (pxpNewFrame s).apq = s.apq := rfl
@[simp] theorem pxpNewFrame_ain (s : State) : (pxpNewFrame s).ain = s.ain := rfl
@[simp] theorem pxpNewFrame_hif (s : State) : (pxpNewFrame s).hif = s.hif := rfl
@[simp] theorem pxpNewFrame_pins (s : State) : (pxpNewFrame s).pins = s.pins := rfl
@[simp] theorem pxpNewFrame_now (s : State) : (pxpNewFrame s).now = s.now := rfl
@[simp] theorem pxpNewFrame_handed (s : State) : (pxpNewFrame s).handed = s.handed := rfl
@[simp] theorem pxpNewFrame_out (s : State) : (pxpNewFrame s).out = s.out := rfl
@[simp] theorem pxpNewFrame_choices (s : State) : (pxpNewFrame s).choices = s.choices := rfl
@[simp] theorem pxpNewFrame_pending (s : State) : (pxpNewFrame s).pending = s.pending := rfl

/-! ### buildFixed -/

@[simp] theorem buildFixed_ses (s : State) : (buildFixed s).ses = s.ses := rfl
@[simp] theorem buildFixed_fmon (s : State) : (buildFixed s).fmon = s.fmon := rfl
@[simp] theorem buildFixed_sbc (s : State) : (buildFixed s).sbc = s.sbc := rfl
@[simp] theorem buildFixed_rwk (s : State) : (buildFixed s).rwk = s.rwk := rfl
@[simp] theorem buildFixed_dcr (s : State) : (buildFixed s).dcr = s.dcr := rfl
@[simp] theorem buildFixed_bss (s : State) : (buildFixed s).bss = s.bss := rfl
@[simp] theorem buildFixed_apq (s : State) : (buildFixed s).apq = s.apq := rfl
@[simp] theorem buildFixed_ain (s : State) : (buildFixed s).ain = s.ain := rfl
@[simp] theorem buildFixed_pxp (s : State) : (buildFixed s).pxp = s.pxp := rfl
@[simp] theorem buildFixed_hif (s : State) : (buildFixed s).hif = s.hif := rfl
@[simp] theorem buildFixed_pins (s : State) : (buildFixed s).pins = s.pins := rfl
@[simp] theorem buildFixed_now (s : State) : (buildFixed s).now = s.now := rfl
@[simp] theorem buildFixed_handed (s : State) : (buildFixed s).handed = s.handed := rfl
@[simp] theorem buildFixed_out (s : State) : (buildFixed s).out = s.out := rfl
@[simp] theorem buildFixed_choices (s : State) : (buildFixed s).choices = s.choices := rfl
@[simp] theorem buildFixed_pending (s : State) : (buildFixed s).pending = s.pending := rfl

/-! ### openMeasurement -/

@[simp] theorem openMeasurement_ses (s : State) : (openMeasurement s).ses = s.ses := rfl
@[simp] theorem openMeasurement_sbc (s : State) : (openMeasurement s).sbc = s.sbc := rfl
@[simp] theorem openMeasurement_rwk (s : State) : (openMeasurement s).rwk = s.rwk := rfl
@[simp] theorem openMeasurement_dcr (s : State) : (openMeasurement s).dcr = s.dcr := rfl
@[simp] theorem openMeasurement_bss (s : State) : (openMeasurement s).bss = s.bss := rfl
@[simp] theorem openMeasurement_stt (s : State) : (openMeasurement s).stt = s.stt := rfl
@[simp] theorem openMeasurement_apq (s : State) : (openMeasurement s).apq = s.apq := rfl
@[simp] theorem openMeasurement_ain (s : State) : (openMeasurement s).ain = s.ain := rfl
@[simp] theorem openMeasurement_hif (s : State) : (openMeasurement s).hif = s.hif := rfl
@[simp] theorem openMeasurement_pins (s : State) : (openMeasurement s).pins = s.pins := rfl
@[simp] theorem openMeasurement_now (s : State) : (openMeasurement s).now = s.now := rfl
@[simp] theorem openMeasurement_handed (s : State) : (openMeasurement s).handed = s.handed := rfl
@[simp] theorem openMeasurement_out (s : State) : (openMeasurement s).out = s.out := rfl
@[simp] theorem openMeasurement_choices (s : State) : (openMeasurement s).choices = s.choices := rfl
@[simp] theorem openMeasurement_pending (s : State) : (openMeasurement s).pending = s.pending := rfl

/-! ### noteBoundary -/

@[simp] theorem noteBoundary_ses (a : Alignment) (s : State) : (noteBoundary a s).ses = s.ses := rfl
@[simp] theorem noteBoundary_sbc (a : Alignment) (s : State) : (noteBoundary a s).sbc = s.sbc := rfl
@[simp] theorem noteBoundary_rwk (a : Alignment) (s : State) : (noteBoundary a s).rwk = s.rwk := rfl
@[simp] theorem noteBoundary_dcr (a : Alignment) (s : State) : (noteBoundary a s).dcr = s.dcr := rfl
@[simp] theorem noteBoundary_bss (a : Alignment) (s : State) : (noteBoundary a s).bss = s.bss := rfl
@[simp] theorem noteBoundary_stt (a : Alignment) (s : State) : (noteBoundary a s).stt = s.stt := rfl
@[simp] theorem noteBoundary_apq (a : Alignment) (s : State) : (noteBoundary a s).apq = s.apq := rfl
@[simp] theorem noteBoundary_ain (a : Alignment) (s : State) : (noteBoundary a s).ain = s.ain := rfl
@[simp] theorem noteBoundary_pxp (a : Alignment) (s : State) : (noteBoundary a s).pxp = s.pxp := rfl
@[simp] theorem noteBoundary_hif (a : Alignment) (s : State) : (noteBoundary a s).hif = s.hif := rfl
@[simp] theorem noteBoundary_pins (a : Alignment) (s : State) : (noteBoundary a s).pins = s.pins := rfl
@[simp] theorem noteBoundary_now (a : Alignment) (s : State) : (noteBoundary a s).now = s.now := rfl
@[simp] theorem noteBoundary_handed (a : Alignment) (s : State) : (noteBoundary a s).handed = s.handed := rfl
@[simp] theorem noteBoundary_out (a : Alignment) (s : State) : (noteBoundary a s).out = s.out := rfl
@[simp] theorem noteBoundary_choices (a : Alignment) (s : State) : (noteBoundary a s).choices = s.choices := rfl
@[simp] theorem noteBoundary_pending (a : Alignment) (s : State) : (noteBoundary a s).pending = s.pending := rfl

/-! ### leaveNoSignal -/

@[simp] theorem leaveNoSignal_ses (s : State) : (leaveNoSignal s).ses = s.ses := rfl
@[simp] theorem leaveNoSignal_sbc (s : State) : (leaveNoSignal s).sbc = s.sbc := rfl
@[simp] theorem leaveNoSignal_rwk (s : State) : (leaveNoSignal s).rwk = s.rwk := rfl
@[simp] theorem leaveNoSignal_dcr (s : State) : (leaveNoSignal s).dcr = s.dcr := rfl
@[simp] theorem leaveNoSignal_bss (s : State) : (leaveNoSignal s).bss = s.bss := rfl
@[simp] theorem leaveNoSignal_stt (s : State) : (leaveNoSignal s).stt = s.stt := rfl
@[simp] theorem leaveNoSignal_apq (s : State) : (leaveNoSignal s).apq = s.apq := rfl
@[simp] theorem leaveNoSignal_ain (s : State) : (leaveNoSignal s).ain = s.ain := rfl
@[simp] theorem leaveNoSignal_hif (s : State) : (leaveNoSignal s).hif = s.hif := rfl
@[simp] theorem leaveNoSignal_pins (s : State) : (leaveNoSignal s).pins = s.pins := rfl
@[simp] theorem leaveNoSignal_now (s : State) : (leaveNoSignal s).now = s.now := rfl
@[simp] theorem leaveNoSignal_handed (s : State) : (leaveNoSignal s).handed = s.handed := rfl
@[simp] theorem leaveNoSignal_out (s : State) : (leaveNoSignal s).out = s.out := rfl
@[simp] theorem leaveNoSignal_choices (s : State) : (leaveNoSignal s).choices = s.choices := rfl
@[simp] theorem leaveNoSignal_pending (s : State) : (leaveNoSignal s).pending = s.pending := rfl

/-! ### markInvalid -/

@[simp] theorem markInvalid_ses (s : State) : (markInvalid s).ses = s.ses := rfl
@[simp] theorem markInvalid_sbc (s : State) : (markInvalid s).sbc = s.sbc := rfl
@[simp] theorem markInvalid_rwk (s : State) : (markInvalid s).rwk = s.rwk := rfl
@[simp] theorem markInvalid_dcr (s : State) : (markInvalid s).dcr = s.dcr := rfl
@[simp] theorem markInvalid_bss (s : State) : (markInvalid s).bss = s.bss := rfl
@[simp] theorem markInvalid_stt (s : State) : (markInvalid s).stt = s.stt := rfl
@[simp] theorem markInvalid_apq (s : State) : (markInvalid s).apq = s.apq := rfl
@[simp] theorem markInvalid_ain (s : State) : (markInvalid s).ain = s.ain := rfl
@[simp] theorem markInvalid_pxp (s : State) : (markInvalid s).pxp = s.pxp := rfl
@[simp] theorem markInvalid_hif (s : State) : (markInvalid s).hif = s.hif := rfl
@[simp] theorem markInvalid_pins (s : State) : (markInvalid s).pins = s.pins := rfl
@[simp] theorem markInvalid_now (s : State) : (markInvalid s).now = s.now := rfl
@[simp] theorem markInvalid_handed (s : State) : (markInvalid s).handed = s.handed := rfl
@[simp] theorem markInvalid_out (s : State) : (markInvalid s).out = s.out := rfl
@[simp] theorem markInvalid_choices (s : State) : (markInvalid s).choices = s.choices := rfl
@[simp] theorem markInvalid_pending (s : State) : (markInvalid s).pending = s.pending := rfl

/-! ### tick -/

@[simp] theorem tick_ses (s : State) : (tick s).ses = s.ses := rfl
@[simp] theorem tick_fmon (s : State) : (tick s).fmon = s.fmon := rfl
@[simp] theorem tick_sbc (s : State) : (tick s).sbc = s.sbc := rfl
@[simp] theorem tick_rwk (s : State) : (tick s).rwk = s.rwk := rfl
@[simp] theorem tick_dcr (s : State) : (tick s).dcr = s.dcr := rfl
@[simp] theorem tick_bss (s : State) : (tick s).bss = s.bss := rfl
@[simp] theorem tick_stt (s : State) : (tick s).stt = s.stt := rfl
@[simp] theorem tick_apq (s : State) : (tick s).apq = s.apq := rfl
@[simp] theorem tick_ain (s : State) : (tick s).ain = s.ain := rfl
@[simp] theorem tick_pxp (s : State) : (tick s).pxp = s.pxp := rfl
@[simp] theorem tick_hif (s : State) : (tick s).hif = s.hif := rfl
@[simp] theorem tick_pins (s : State) : (tick s).pins = s.pins := rfl
@[simp] theorem tick_handed (s : State) : (tick s).handed = s.handed := rfl
@[simp] theorem tick_out (s : State) : (tick s).out = s.out := rfl
@[simp] theorem tick_choices (s : State) : (tick s).choices = s.choices := rfl
@[simp] theorem tick_pending (s : State) : (tick s).pending = s.pending := rfl

/-! ### emitPart -/

@[simp] theorem emitPart_ses (a : Addr) (m : List Byte) (s : State) : (emitPart a m s).ses = s.ses := rfl
@[simp] theorem emitPart_fmon (a : Addr) (m : List Byte) (s : State) : (emitPart a m s).fmon = s.fmon := rfl
@[simp] theorem emitPart_sbc (a : Addr) (m : List Byte) (s : State) : (emitPart a m s).sbc = s.sbc := rfl
@[simp] theorem emitPart_rwk (a : Addr) (m : List Byte) (s : State) : (emitPart a m s).rwk = s.rwk := rfl
@[simp] theorem emitPart_dcr (a : Addr) (m : List Byte) (s : State) : (emitPart a m s).dcr = s.dcr := rfl
@[simp] theorem emitPart_bss (a : Addr) (m : List Byte) (s : State) : (emitPart a m s).bss = s.bss := rfl
@[simp] theorem emitPart_stt (a : Addr) (m : List Byte) (s : State) : (emitPart a m s).stt = s.stt := rfl
@[simp] theorem emitPart_apq (a : Addr) (m : List Byte) (s : State) : (emitPart a m s).apq = s.apq := rfl
@[simp] theorem emitPart_ain (a : Addr) (m : List Byte) (s : State) : (emitPart a m s).ain = s.ain := rfl
@[simp] theorem emitPart_pxp (a : Addr) (m : List Byte) (s : State) : (emitPart a m s).pxp = s.pxp := rfl
@[simp] theorem emitPart_hif (a : Addr) (m : List Byte) (s : State) : (emitPart a m s).hif = s.hif := rfl
@[simp] theorem emitPart_pins (a : Addr) (m : List Byte) (s : State) : (emitPart a m s).pins = s.pins := rfl
@[simp] theorem emitPart_now (a : Addr) (m : List Byte) (s : State) : (emitPart a m s).now = s.now := rfl
@[simp] theorem emitPart_handed (a : Addr) (m : List Byte) (s : State) : (emitPart a m s).handed = s.handed := rfl
@[simp] theorem emitPart_pending (a : Addr) (m : List Byte) (s : State) : (emitPart a m s).pending = s.pending := rfl

/-! ### placeDeferred -/

@[simp] theorem placeDeferred_ses (r : Requester) (s : State) : (placeDeferred r s).ses = s.ses := by unfold placeDeferred; split <;> simp
@[simp] theorem placeDeferred_fmon (r : Requester) (s : State) : (placeDeferred r s).fmon = s.fmon := by unfold placeDeferred; split <;> simp
@[simp] theorem placeDeferred_rwk (r : Requester) (s : State) : (placeDeferred r s).rwk = s.rwk := by unfold placeDeferred; split <;> simp
@[simp] theorem placeDeferred_dcr (r : Requester) (s : State) : (placeDeferred r s).dcr = s.dcr := by unfold placeDeferred; split <;> simp
@[simp] theorem placeDeferred_bss (r : Requester) (s : State) : (placeDeferred r s).bss = s.bss := by unfold placeDeferred; split <;> simp
@[simp] theorem placeDeferred_stt (r : Requester) (s : State) : (placeDeferred r s).stt = s.stt := by unfold placeDeferred; split <;> simp
@[simp] theorem placeDeferred_apq (r : Requester) (s : State) : (placeDeferred r s).apq = s.apq := by unfold placeDeferred; split <;> simp
@[simp] theorem placeDeferred_ain (r : Requester) (s : State) : (placeDeferred r s).ain = s.ain := by unfold placeDeferred; split <;> simp
@[simp] theorem placeDeferred_pxp (r : Requester) (s : State) : (placeDeferred r s).pxp = s.pxp := by unfold placeDeferred; split <;> simp
@[simp] theorem placeDeferred_hif (r : Requester) (s : State) : (placeDeferred r s).hif = s.hif := by unfold placeDeferred; split <;> simp
@[simp] theorem placeDeferred_pins (r : Requester) (s : State) : (placeDeferred r s).pins = s.pins := by unfold placeDeferred; split <;> simp
@[simp] theorem placeDeferred_now (r : Requester) (s : State) : (placeDeferred r s).now = s.now := by unfold placeDeferred; split <;> simp
@[simp] theorem placeDeferred_handed (r : Requester) (s : State) : (placeDeferred r s).handed = s.handed := by unfold placeDeferred; split <;> simp
@[simp] theorem placeDeferred_out (r : Requester) (s : State) : (placeDeferred r s).out = s.out := by unfold placeDeferred; split <;> simp
@[simp] theorem placeDeferred_choices (r : Requester) (s : State) : (placeDeferred r s).choices = s.choices := by unfold placeDeferred; split <;> simp
@[simp] theorem placeDeferred_pending (r : Requester) (s : State) : (placeDeferred r s).pending = s.pending := by unfold placeDeferred; split <;> simp

/-! ### pxpNewLine -/

@[simp] theorem pxpNewLine_ses (s : State) : (pxpNewLine s).ses = s.ses := rfl
@[simp] theorem pxpNewLine_fmon (s : State) : (pxpNewLine s).fmon = s.fmon := rfl
@[simp] theorem pxpNewLine_sbc (s : State) : (pxpNewLine s).sbc = s.sbc := rfl
@[simp] theorem pxpNewLine_rwk (s : State) : (pxpNewLine s).rwk = s.rwk := rfl
@[simp] theorem pxpNewLine_dcr (s : State) : (pxpNewLine s).dcr = s.dcr := rfl
@[simp] theorem pxpNewLine_bss (s : State) : (pxpNewLine s).bss = s.bss := rfl
@[simp] theorem pxpNewLine_stt (s : State) : (pxpNewLine s).stt = s.stt := rfl
@[simp] theorem pxpNewLine_apq (s : State) : (pxpNewLine s).apq = s.apq := rfl
@[simp] theorem pxpNewLine_ain (s : State) : (pxpNewLine s).ain = s.ain := rfl
@[simp] theorem pxpNewLine_hif (s : State) : (pxpNewLine s).hif = s.hif := rfl
@[simp] theorem pxpNewLine_pins (s : State) : (pxpNewLine s).pins = s.pins := rfl
@[simp] theorem pxpNewLine_now (s : State) : (pxpNewLine s).now = s.now := rfl
@[simp] theorem pxpNewLine_handed (s : State) : (pxpNewLine s).handed = s.handed := rfl
@[simp] theorem pxpNewLine_out (s : State) : (pxpNewLine s).out = s.out := rfl
@[simp] theorem pxpNewLine_choices (s : State) : (pxpNewLine s).choices = s.choices := rfl
@[simp] theorem pxpNewLine_pending (s : State) : (pxpNewLine s).pending = s.pending := rfl

/-! ### passPeriods -/

@[simp] theorem passPeriods_ses (n : Nat) (s : State) : (passPeriods n s).ses = s.ses := rfl
@[simp] theorem passPeriods_sbc (n : Nat) (s : State) : (passPeriods n s).sbc = s.sbc := rfl
@[simp] theorem passPeriods_rwk (n : Nat) (s : State) : (passPeriods n s).rwk = s.rwk := rfl
@[simp] theorem passPeriods_dcr (n : Nat) (s : State) : (passPeriods n s).dcr = s.dcr := rfl
@[simp] theorem passPeriods_bss (n : Nat) (s : State) : (passPeriods n s).bss = s.bss := rfl
@[simp] theorem passPeriods_stt (n : Nat) (s : State) : (passPeriods n s).stt = s.stt := rfl
@[simp] theorem passPeriods_apq (n : Nat) (s : State) : (passPeriods n s).apq = s.apq := rfl
@[simp] theorem passPeriods_ain (n : Nat) (s : State) : (passPeriods n s).ain = s.ain := rfl
@[simp] theorem passPeriods_pxp (n : Nat) (s : State) : (passPeriods n s).pxp = s.pxp := rfl
@[simp] theorem passPeriods_hif (n : Nat) (s : State) : (passPeriods n s).hif = s.hif := rfl
@[simp] theorem passPeriods_pins (n : Nat) (s : State) : (passPeriods n s).pins = s.pins := rfl
@[simp] theorem passPeriods_now (n : Nat) (s : State) : (passPeriods n s).now = s.now := rfl
@[simp] theorem passPeriods_handed (n : Nat) (s : State) : (passPeriods n s).handed = s.handed := rfl
@[simp] theorem passPeriods_out (n : Nat) (s : State) : (passPeriods n s).out = s.out := rfl
@[simp] theorem passPeriods_choices (n : Nat) (s : State) : (passPeriods n s).choices = s.choices := rfl
@[simp] theorem passPeriods_pending (n : Nat) (s : State) : (passPeriods n s).pending = s.pending := rfl

/-! ### measureRun -/

@[simp] theorem measureRun_ses (n : Nat) (s : State) : (measureRun n s).ses = s.ses := rfl
@[simp] theorem measureRun_sbc (n : Nat) (s : State) : (measureRun n s).sbc = s.sbc := rfl
@[simp] theorem measureRun_rwk (n : Nat) (s : State) : (measureRun n s).rwk = s.rwk := rfl
@[simp] theorem measureRun_dcr (n : Nat) (s : State) : (measureRun n s).dcr = s.dcr := rfl
@[simp] theorem measureRun_bss (n : Nat) (s : State) : (measureRun n s).bss = s.bss := rfl
@[simp] theorem measureRun_stt (n : Nat) (s : State) : (measureRun n s).stt = s.stt := rfl
@[simp] theorem measureRun_apq (n : Nat) (s : State) : (measureRun n s).apq = s.apq := rfl
@[simp] theorem measureRun_ain (n : Nat) (s : State) : (measureRun n s).ain = s.ain := rfl
@[simp] theorem measureRun_pxp (n : Nat) (s : State) : (measureRun n s).pxp = s.pxp := rfl
@[simp] theorem measureRun_hif (n : Nat) (s : State) : (measureRun n s).hif = s.hif := rfl
@[simp] theorem measureRun_pins (n : Nat) (s : State) : (measureRun n s).pins = s.pins := rfl
@[simp] theorem measureRun_now (n : Nat) (s : State) : (measureRun n s).now = s.now := rfl
@[simp] theorem measureRun_handed (n : Nat) (s : State) : (measureRun n s).handed = s.handed := rfl
@[simp] theorem measureRun_out (n : Nat) (s : State) : (measureRun n s).out = s.out := rfl
@[simp] theorem measureRun_choices (n : Nat) (s : State) : (measureRun n s).choices = s.choices := rfl
@[simp] theorem measureRun_pending (n : Nat) (s : State) : (measureRun n s).pending = s.pending := rfl

/-! ### handAnywhere -/

@[simp] theorem handAnywhere_ses (o : Owner) (i : HandedItem) (s : State) : (handAnywhere o i s).ses = s.ses := rfl
@[simp] theorem handAnywhere_fmon (o : Owner) (i : HandedItem) (s : State) : (handAnywhere o i s).fmon = s.fmon := rfl
@[simp] theorem handAnywhere_sbc (o : Owner) (i : HandedItem) (s : State) : (handAnywhere o i s).sbc = s.sbc := rfl
@[simp] theorem handAnywhere_rwk (o : Owner) (i : HandedItem) (s : State) : (handAnywhere o i s).rwk = s.rwk := rfl
@[simp] theorem handAnywhere_dcr (o : Owner) (i : HandedItem) (s : State) : (handAnywhere o i s).dcr = s.dcr := rfl
@[simp] theorem handAnywhere_bss (o : Owner) (i : HandedItem) (s : State) : (handAnywhere o i s).bss = s.bss := rfl
@[simp] theorem handAnywhere_stt (o : Owner) (i : HandedItem) (s : State) : (handAnywhere o i s).stt = s.stt := rfl
@[simp] theorem handAnywhere_apq (o : Owner) (i : HandedItem) (s : State) : (handAnywhere o i s).apq = s.apq := rfl
@[simp] theorem handAnywhere_ain (o : Owner) (i : HandedItem) (s : State) : (handAnywhere o i s).ain = s.ain := rfl
@[simp] theorem handAnywhere_pxp (o : Owner) (i : HandedItem) (s : State) : (handAnywhere o i s).pxp = s.pxp := rfl
@[simp] theorem handAnywhere_hif (o : Owner) (i : HandedItem) (s : State) : (handAnywhere o i s).hif = s.hif := rfl
@[simp] theorem handAnywhere_pins (o : Owner) (i : HandedItem) (s : State) : (handAnywhere o i s).pins = s.pins := rfl
@[simp] theorem handAnywhere_now (o : Owner) (i : HandedItem) (s : State) : (handAnywhere o i s).now = s.now := rfl
@[simp] theorem handAnywhere_out (o : Owner) (i : HandedItem) (s : State) : (handAnywhere o i s).out = s.out := rfl
@[simp] theorem handAnywhere_pending (o : Owner) (i : HandedItem) (s : State) : (handAnywhere o i s).pending = s.pending := rfl

/-! ### cutsSeen -/

@[simp] theorem cutsSeen_ses (s : State) : (cutsSeen s).ses = s.ses := rfl
@[simp] theorem cutsSeen_fmon (s : State) : (cutsSeen s).fmon = s.fmon := rfl
@[simp] theorem cutsSeen_sbc (s : State) : (cutsSeen s).sbc = s.sbc := rfl
@[simp] theorem cutsSeen_rwk (s : State) : (cutsSeen s).rwk = s.rwk := rfl
@[simp] theorem cutsSeen_dcr (s : State) : (cutsSeen s).dcr = s.dcr := rfl
@[simp] theorem cutsSeen_bss (s : State) : (cutsSeen s).bss = s.bss := rfl
@[simp] theorem cutsSeen_stt (s : State) : (cutsSeen s).stt = s.stt := rfl
@[simp] theorem cutsSeen_apq (s : State) : (cutsSeen s).apq = s.apq := rfl
@[simp] theorem cutsSeen_ain (s : State) : (cutsSeen s).ain = s.ain := rfl
@[simp] theorem cutsSeen_hif (s : State) : (cutsSeen s).hif = s.hif := rfl
@[simp] theorem cutsSeen_pins (s : State) : (cutsSeen s).pins = s.pins := rfl
@[simp] theorem cutsSeen_now (s : State) : (cutsSeen s).now = s.now := rfl
@[simp] theorem cutsSeen_handed (s : State) : (cutsSeen s).handed = s.handed := rfl
@[simp] theorem cutsSeen_out (s : State) : (cutsSeen s).out = s.out := rfl
@[simp] theorem cutsSeen_choices (s : State) : (cutsSeen s).choices = s.choices := rfl
@[simp] theorem cutsSeen_pending (s : State) : (cutsSeen s).pending = s.pending := rfl

/-! ### endMeasuredLine -/

@[simp] theorem endMeasuredLine_ses (s : State) : (endMeasuredLine s).ses = s.ses := rfl
@[simp] theorem endMeasuredLine_sbc (s : State) : (endMeasuredLine s).sbc = s.sbc := rfl
@[simp] theorem endMeasuredLine_rwk (s : State) : (endMeasuredLine s).rwk = s.rwk := rfl
@[simp] theorem endMeasuredLine_dcr (s : State) : (endMeasuredLine s).dcr = s.dcr := rfl
@[simp] theorem endMeasuredLine_bss (s : State) : (endMeasuredLine s).bss = s.bss := rfl
@[simp] theorem endMeasuredLine_stt (s : State) : (endMeasuredLine s).stt = s.stt := rfl
@[simp] theorem endMeasuredLine_apq (s : State) : (endMeasuredLine s).apq = s.apq := rfl
@[simp] theorem endMeasuredLine_ain (s : State) : (endMeasuredLine s).ain = s.ain := rfl
@[simp] theorem endMeasuredLine_pxp (s : State) : (endMeasuredLine s).pxp = s.pxp := rfl
@[simp] theorem endMeasuredLine_hif (s : State) : (endMeasuredLine s).hif = s.hif := rfl
@[simp] theorem endMeasuredLine_pins (s : State) : (endMeasuredLine s).pins = s.pins := rfl
@[simp] theorem endMeasuredLine_now (s : State) : (endMeasuredLine s).now = s.now := rfl
@[simp] theorem endMeasuredLine_handed (s : State) : (endMeasuredLine s).handed = s.handed := rfl
@[simp] theorem endMeasuredLine_out (s : State) : (endMeasuredLine s).out = s.out := rfl
@[simp] theorem endMeasuredLine_choices (s : State) : (endMeasuredLine s).choices = s.choices := rfl
@[simp] theorem endMeasuredLine_pending (s : State) : (endMeasuredLine s).pending = s.pending := rfl

/-! ### What the basic updates set -/

@[simp] theorem emit_out (o : Output) (s : State) : (emit o s).out = s.out ++ [o] := rfl
@[simp] theorem advanceTo_now (t : Nat) (s : State) : (advanceTo t s).now = max s.now t := rfl
@[simp] theorem hand_handed (o : Owner) (i : HandedItem) (s : State) :
    (hand o i s).handed = s.handed ++ [⟨o, i⟩] := rfl
@[simp] theorem handAnywhere_handed (o : Owner) (i : HandedItem) (s : State) : (handAnywhere o i s).handed =
    s.handed.insertIdx (Config.pick s.choices % (s.handed.length + 1)) ⟨o, i⟩ := rfl
@[simp] theorem handAnywhere_choices (o : Owner) (i : HandedItem) (s : State) :
    (handAnywhere o i s).choices = s.choices + 1 := rfl
@[simp] theorem complete_handed (o : Owner) (h : Handle) (st : Status) (a b : Word) (s : State) :
    (complete o h st a b s).handed = s.handed ++ [⟨o, .completion h st a b⟩] := rfl
@[simp] theorem post_handed (o : Owner) (e : Event) (s : State) :
    (post o e s).handed = s.handed ++ [⟨o, .event e⟩] := rfl
@[simp] theorem emitPart_out (a : Addr) (m : List Byte) (s : State) : (emitPart a m s).out =
    s.out ++ [.hostWrite a (m.take (Config.copied s.choices % (m.length + 1)))] := rfl
@[simp] theorem emitPart_choices (a : Addr) (m : List Byte) (s : State) : (emitPart a m s).choices = s.choices + 1 := rfl
@[simp] theorem tick_now (s : State) : (tick s).now = s.now + 1 := rfl
@[simp] theorem updEntry_roster (i : Nat) (f : Entry → Entry) (s : State) :
    (updEntry i f s).rwk.roster = s.rwk.roster.modify i f := rfl

end Sys2Proof.Machine
end

