-- ==== Sys2Proof/Laws/Ops.lean ====
section
/-!
SUPPORT. What each shared operation can do, said once: HIF's handling of what owners hand over, the take of a
command, the change of the session state, the layout of slots, and the request set.
-/

namespace Sys2Proof.Machine

/-! ### HIF's handling of completions and events -/

/-- t is s but for HIF and what has been sent. -/
def HifOnly (s t : State) : Prop := ∃ h o, t = { s with hif := h, out := o }

theorem HifOnly.refl (s : State) : HifOnly s s := ⟨s.hif, s.out, rfl⟩

theorem HifOnly.trans {a b c : State} (h₁ : HifOnly a b) (h₂ : HifOnly b c) : HifOnly a c := by
  obtain ⟨h, o, rfl⟩ := h₁
  obtain ⟨h', o', rfl⟩ := h₂
  exact ⟨h', o', rfl⟩

theorem raiseCause_hifOnly (b : CauseBit) (s : State) : HifOnly s (raiseCause b s) := by
  unfold raiseCause
  cases b <;> split <;> exact ⟨_, _, rfl⟩

theorem enterFatal_hifOnly (c : FatalCause) (s : State) : HifOnly s (enterFatal c s) := by
  unfold enterFatal
  split
  · exact HifOnly.refl s
  · exact HifOnly.trans (b := { s with hif := _ }) ⟨_, _, rfl⟩ (raiseCause_hifOnly _ _)

theorem emit_hifOnly (o : Output) (s : State) : HifOnly s (emit o s) := ⟨s.hif, _, rfl⟩

theorem setHif_hifOnly (h : Hif) (s : State) : HifOnly s { s with hif := h } := ⟨h, s.out, rfl⟩

theorem putEvent_hifOnly (e : Event) (s : State) : HifOnly s (putEvent e s) := by
  unfold putEvent
  split
  · exact ((setHif_hifOnly _ s).trans (emit_hifOnly _ _)).trans (raiseCause_hifOnly _ _)
  · exact HifOnly.refl s

theorem putOverrun_hifOnly (s : State) : HifOnly s (putOverrun s) := by
  unfold putOverrun
  split
  · split
    · exact HifOnly.trans (b := { s with hif := _ }) ⟨_, _, rfl⟩ (putEvent_hifOnly _ _)
    · exact HifOnly.refl s
  · exact HifOnly.refl s

theorem writeOrCount_hifOnly (e : Event) (s : State) : HifOnly s (writeOrCount e s) := by
  unfold writeOrCount
  split
  · split
    · exact putEvent_hifOnly e s
    · exact ⟨_, _, rfl⟩
  · exact HifOnly.refl s

theorem writeEvent_hifOnly (e : Event) (s : State) : HifOnly s (writeEvent e s) := by
  unfold writeEvent
  split
  · exact HifOnly.refl s
  · exact (putOverrun_hifOnly s).trans (writeOrCount_hifOnly e _)

theorem writeCompletion_hifOnly (h : Handle) (st : Status) (a b : Word) (s : State) :
    HifOnly s (writeCompletion h st a b s) := by
  unfold writeCompletion
  split
  · split
    · exact ((setHif_hifOnly _ s).trans (emit_hifOnly _ _)).trans (raiseCause_hifOnly _ _)
    · exact HifOnly.refl s
  · exact HifOnly.refl s

/-- Handling a handed item changes HIF and what has been sent, and nothing else. -/
theorem deliver_hifOnly (s : State) (x : Handed) : HifOnly s (deliver s x) := by
  unfold deliver
  split
  · exact writeCompletion_hifOnly ..
  · exact writeEvent_hifOnly ..

theorem foldl_deliver_hifOnly (l : List Handed) (s : State) : HifOnly s (l.foldl deliver s) := by
  induction l generalizing s with
  | nil => exact HifOnly.refl s
  | cons x l ih => exact (deliver_hifOnly s x).trans (ih _)

/-- The end of a step changes HIF and what has been sent, and leaves nothing handed over. -/
theorem finishInOrder_spec (s : State) :
    ∃ h o, finishInOrder s = { s with hif := h, out := o, handed := [] } := by
  obtain ⟨h, o, e⟩ := foldl_deliver_hifOnly (s.handed.filter (effective s.hif)) { s with handed := [] }
  exact ⟨h, o, by rw [finishInOrder, e]⟩

/-- The end of a step with a free order changes the count of choices too. -/
theorem finishAnyOrder_spec (s : State) :
    ∃ h o c, finishAnyOrder s = { s with hif := h, out := o, handed := [], choices := c } := by
  obtain ⟨h, o, e⟩ := foldl_deliver_hifOnly
    ((interleave ((s.handed.filter (effective s.hif)).filter Handed.isCompletion).length s.choices
        ((s.handed.filter (effective s.hif)).filter Handed.isCompletion)).1
      ++ (interleave ((s.handed.filter (effective s.hif)).filter (fun x => !x.isCompletion)).length
        (interleave ((s.handed.filter (effective s.hif)).filter Handed.isCompletion).length s.choices
          ((s.handed.filter (effective s.hif)).filter Handed.isCompletion)).2
        ((s.handed.filter (effective s.hif)).filter (fun x => !x.isCompletion))).1)
    { s with
      handed := []
      choices := (interleave ((s.handed.filter (effective s.hif)).filter (fun x => !x.isCompletion)).length
        (interleave ((s.handed.filter (effective s.hif)).filter Handed.isCompletion).length s.choices
          ((s.handed.filter (effective s.hif)).filter Handed.isCompletion)).2
        ((s.handed.filter (effective s.hif)).filter (fun x => !x.isCompletion))).2 }
  exact ⟨h, o, _, by rw [finishAnyOrder, e]⟩

/-- Every row with an ordered end answers a next state in which nothing is handed over. -/
theorem done_next (s : State) : ∃ t, done s = .next t ∧ t.handed = [] := by
  obtain ⟨h, o, e⟩ := finishInOrder_spec s
  exact ⟨_, rfl, by rw [e]⟩

theorem doneAny_next (s : State) : ∃ t, doneAny s = .next t ∧ t.handed = [] := by
  obtain ⟨h, o, c, e⟩ := finishAnyOrder_spec s
  exact ⟨_, rfl, by rw [e]⟩

theorem insertIdx_split {α : Type} (x : α) : ∀ (n : Nat) (l : List α), n ≤ l.length →
    l.insertIdx n x = l.take n ++ x :: l.drop n
  | 0, _, _ => rfl
  | n + 1, [], h => absurd h (Nat.not_succ_le_zero n)
  | n + 1, y :: ys, h => by simpa using insertIdx_split x n ys (Nat.le_of_succ_le_succ h)

/-- An item handed over in a free place leaves what was there in its order, before and after it. -/
theorem handAnywhere_spec (o : Owner) (i : HandedItem) (s : State) :
    ∃ a b, s.handed = a ++ b ∧ handAnywhere o i s = { s with handed := a ++ ⟨o, i⟩ :: b, choices := s.choices + 1 } := by
  have h : Config.pick s.choices % (s.handed.length + 1) ≤ s.handed.length :=
    Nat.le_of_lt_succ (Nat.mod_lt _ (Nat.succ_pos _))
  refine ⟨_, _, (List.take_append_drop (Config.pick s.choices % (s.handed.length + 1)) s.handed).symm, ?_⟩
  simp only [handAnywhere]
  rw [insertIdx_split _ _ _ h]

/-! ### The take of a command -/

/-- The take begins only where a fetch is in progress from a present ring and HIF takes commands; it moves the
consumer index and puts the command in flight, and changes nothing outside HIF (R175). -/
theorem beginTake_spec {tag : HostTag} {s t : State} {h : Handle} (e : beginTake tag s = some (h, t)) :
    ∃ r g, s.hif.fetch = some r ∧ ringAt s.hif r = some g ∧ writesRecords s.hif = true
      ∧ h = ⟨s.hif.nextId, tag, r, (g.cons + 1) % g.size⟩
      ∧ t = { s with hif := { setRing r (some { g with cons := (g.cons + 1) % g.size }) s.hif with
          fetch := none, inFlight := s.hif.inFlight ++ [h], nextId := s.hif.nextId + 1 } } := by
  unfold beginTake at e
  split at e
  · exact absurd e (by simp)
  · rename_i r hr
    split at e
    · exact absurd e (by simp)
    · rename_i g hg
      split at e
      · rename_i hw
        simp only [Option.some.injEq, Prod.mk.injEq] at e
        obtain ⟨rfl, rfl⟩ := e
        exact ⟨r, g, hr, hg, hw, rfl, rfl⟩
      · exact absurd e (by simp)

/-- A take from its own ring goes to its owner. -/
theorem takeFrom_owner {ring : Nat} {tag : HostTag} {s t : State} {h : Handle}
    (owner : Handle → State → State) (e : beginTake tag s = some (h, t)) (hr : h.ring = ring) :
    takeFrom ring tag owner s = owner h t := by
  simp [takeFrom, e, hr]

/-- A take from another ring completes with WRONG_RING (R177). -/
theorem takeFrom_wrong {ring : Nat} {tag : HostTag} {s t : State} {h : Handle}
    (owner : Handle → State → State) (e : beginTake tag s = some (h, t)) (hr : h.ring ≠ ring) :
    takeFrom ring tag owner s = complete .hif h .wrongRing 0 0 t := by
  simp [takeFrom, e, hr]

/-- Without a fetch in progress nothing is taken. -/
theorem takeFrom_none {ring : Nat} {tag : HostTag} {s : State} (owner : Handle → State → State)
    (e : beginTake tag s = none) : takeFrom ring tag owner s = s := by
  simp [takeFrom, e]

/-! ### The session state -/

/-- A change of the session state changes SES, what has been sent and what is handed over, and nothing else. -/
theorem setSession_spec (new : SessionState) (c : SessionCause) (s : State) :
    ∃ o, setSession new c s = { s with
      ses := (setSession new c s).ses, out := o
      handed := s.handed ++ [⟨.ses, .event (.sessionChanged new s.ses.session c
        (quietOnEntry new s.ses.quiet))⟩] } := by
  unfold setSession
  dsimp only
  split <;> exact ⟨_, rfl⟩

@[simp] theorem setSession_session (new : SessionState) (c : SessionCause) (s : State) :
    (setSession new c s).ses.session = new := by
  unfold setSession; dsimp only; split <;> rfl

@[simp] theorem setSession_lanes (new : SessionState) (c : SessionCause) (s : State) :
    (setSession new c s).ses.lanes = new.lanesOn := by
  unfold setSession; dsimp only; split <;> rfl

@[simp] theorem setSession_quiet (new : SessionState) (c : SessionCause) (s : State) :
    (setSession new c s).ses.quiet = quietOnEntry new s.ses.quiet := by
  unfold setSession; dsimp only; split <;> rfl

/-! ### Slots (R100, R101) -/

theorem lineSlots_le (n : Nat) : lineSlots n ≤ 8 := Nat.min_le_left _ _

/-- A packet placed in a stretch of lines lies at or after the cursor and ends within the stretch. -/
theorem placeIn_bounds {start w lines c n p : Nat} (h : placeIn start w lines c n = some p) :
    c ≤ p ∧ p + n ≤ start + lines * w := by
  unfold placeIn at h
  split at h
  · exact absurd h (by simp)
  · rename_i hw
    have hm : (c - start) % w < w := Nat.mod_lt _ (by omega)
    have hle : (c - start) % w ≤ c - start := Nat.mod_le _ _
    by_cases hb : (c - start) % w + n ≤ w
    · simp only [hb, if_true] at h
      split at h <;> simp at h
      omega
    · simp only [hb, if_false] at h
      split at h <;> simp at h
      omega

/-- A packet placed in a frame lies at or after the cursor and ends within the capacity (R100, R113). -/
theorem placeAt_bounds {g : Geometry} {f c n p : Nat} (h : placeAt g f c n = some p) :
    c ≤ p ∧ p + n ≤ capacity g f := by
  unfold placeAt at h
  dsimp only at h
  unfold capacity
  split at h
  · rename_i q hq
    simp only [Option.some.injEq] at h
    subst h
    have := placeIn_bounds hq
    omega
  · have := placeIn_bounds h
    have hm : c ≤ max c ((g.vt - g.va) * blankSlots g f) := Nat.le_max_left _ _
    omega

/-! ### The request set (R51) -/

/-- A request joins the set while its requester has nothing in flight. -/
@[simp] theorem joinSet_free {r : Requester} {q : Request} {s : State} (h : flightIs r s = false) :
    joinSet r q s = { s with sbc := setRequest r (some q) s.sbc } := by simp [joinSet, h]

/-- With its requester's transaction in flight a request waits for the end of that. -/
@[simp] theorem joinSet_deferred {r : Requester} {q : Request} {s : State} (h : flightIs r s = true) :
    joinSet r q s = { s with sbc := { s.sbc with deferred := some q } } := by simp [joinSet, h]

/-- A request that is placed waits, in the set or for the end of its requester's transaction. -/
@[simp] theorem joinSet_hasWaiting (r : Requester) (q : Request) (s : State) : hasWaiting r (joinSet r q s) = true := by
  by_cases h : flightIs r s = true
  · simp_all [hasWaiting, flightIs]
  · cases r <;> simp_all [hasWaiting, requestOf, setRequest]

/-- After a withdrawal nothing of the requester waits. -/
@[simp] theorem withdraw_hasWaiting (r : Requester) (s : State) : hasWaiting r (withdraw r s) = false := by
  by_cases h : flightIs r s = true <;> cases r <;> simp_all [hasWaiting, withdraw, requestOf, setRequest, flightIs]

@[simp] theorem withdraw_requestOf (r : Requester) (s : State) : requestOf (withdraw r s).sbc r = none := by
  by_cases h : flightIs r s = true <;> cases r <;> simp_all [withdraw, requestOf, setRequest]

theorem joinSet_requestOf_ne {r r' : Requester} (q : Request) (s : State) (h : r ≠ r') :
    requestOf (joinSet r q s).sbc r' = requestOf s.sbc r' := by
  by_cases f : flightIs r s = true
  · cases r <;> cases r' <;> simp_all [requestOf]
  · cases r <;> cases r' <;> simp_all [setRequest, requestOf]

/-- Placing what was deferred changes the sideband and nothing else. -/
theorem placeDeferred_spec (r : Requester) (s : State) : ∃ b, placeDeferred r s = { s with sbc := b } := by
  unfold placeDeferred joinSet
  split
  · split <;> exact ⟨_, rfl⟩
  · exact ⟨s.sbc, rfl⟩

/-- Nothing deferred, nothing to place. -/
@[simp] theorem placeDeferred_none {r : Requester} {s : State} (h : s.sbc.deferred = none) : placeDeferred r s = s := by
  simp [placeDeferred, h]

/-! ### Copies that stop (R86, R99, R184) -/

theorem foldl_emitPart_spec (l : List (Addr × List Byte)) (s : State) :
    ∃ o, l.foldl (fun s c => emitPart c.1 c.2 s) s = { s with out := o, choices := s.choices + l.length } := by
  induction l generalizing s with
  | nil => exact ⟨s.out, rfl⟩
  | cons c l ih =>
    obtain ⟨o, e⟩ := ih (emitPart c.1 c.2 s)
    refine ⟨o, ?_⟩
    rw [List.foldl_cons, e]
    simp [emitPart, emit, Nat.add_assoc, Nat.add_comm 1]

/-- Stopping the copies in progress writes a part of each and changes nothing else. -/
theorem stopCopies_spec (s : State) :
    ∃ o, stopCopies s = { s with out := o, choices := s.choices + (copiesRunning s).length } :=
  foldl_emitPart_spec _ s

/-- A state with no copy in progress has none to stop. -/
theorem stopCopies_none {s : State} (h : copiesRunning s = []) : stopCopies s = s := by simp [stopCopies, h]

/-! ### Timing codes (R160) -/

/-- The words before the first timing code are at the head of the words. -/
theorem firstCode_isPrefix (mode : InputMode) (ws : List Sample) : (firstCode mode ws).1 <+: ws := by
  induction ws with
  | nil => exact List.nil_prefix
  | cons w ws ih =>
    unfold firstCode
    split
    · exact List.nil_prefix
    · exact List.cons_prefix_cons.mpr ⟨rfl, ih⟩

/-! ### The roster -/

@[simp] theorem updEntry_length (i : Nat) (f : Entry → Entry) (s : State) :
    (updEntry i f s).rwk.roster.length = s.rwk.roster.length := by simp [updEntry]

@[simp] theorem loseWhere_length (p : Nat → Bool) (s : State) :
    (loseWhere p s).rwk.roster.length = s.rwk.roster.length := by simp [loseWhere]

@[simp] theorem orphanChildren_length (i : Nat) (s : State) :
    (orphanChildren i s).rwk.roster.length = s.rwk.roster.length := by simp [orphanChildren]

/-- An entry that is lost keeps its serial, place and tag; it is not ACTIVE or DENIED any more (R77). -/
theorem Entry.lose_spec (gen : Half) (e : Entry) :
    (e.lose gen).isHeld = false ∧ (e.lose gen).serial = e.serial ∧ (e.lose gen).parent = e.parent
      ∧ (e.lose gen).nextTag = e.nextTag := by
  unfold Entry.lose
  split
  · simp [Entry.isHeld]
  · rename_i h
    exact ⟨by simpa using h, rfl, rfl, rfl⟩

/-! ### Factors (R103, R104) -/

theorem mem_candidates {g : Geometry} {f : Nat} (h : f ∈ candidates g) : factorLegal f := by
  have := List.mem_of_mem_filter h
  simpa [factorLegal] using this

theorem largestCandidate_legal (g : Geometry) : factorLegal (largestCandidate g) := by
  unfold largestCandidate
  rw [List.getLastD_eq_getLast?]
  cases h : (candidates g).getLast? with
  | none => exact .inl rfl
  | some f => exact mem_candidates (List.mem_of_getLast? h)

theorem autoFactor_legal (g : Geometry) (d : Nat) : factorLegal (autoFactor g d) := by
  unfold autoFactor
  cases h : (candidates g).find? (fun f => decide (d ≤ capacity g f)) with
  | none => exact largestCandidate_legal g
  | some f => exact mem_candidates (List.mem_of_find?_eq_some h)

/-- The needed factor is 1, 2 or 4 whenever the host factor is. -/
theorem neededFactor_legal {b : Bss} {g : Geometry} {d : Nat} (h : factorLegal b.hostFactor) :
    factorLegal (neededFactor b g d) := by
  unfold neededFactor
  have ha := autoFactor_legal g d
  have hl := largestCandidate_legal g
  unfold factorLegal at *
  split
  · exact ha
  · omega
  · split
    · exact h
    · exact hl

/-! ### Runs of the separate-sync modes (R159) -/

/-- Pixel periods of PX_DE lengthen the run of the line in progress, and change PXP alone. -/
theorem takeRun_spec (w : PixelWords) (s : State) : takeRun w s = { s with pxp := { s.pxp with
    run := s.pxp.run ++ w.words.drop (earlyWords w s)
    pixelCount := min 8191 (s.pxp.run ++ w.words.drop (earlyWords w s)).length
    cut := false, newFrame := false } } := rfl

/-- The end of a run counts its line once, and its pixel count is 0 after it. -/
theorem closeRun_spec (s : State) : ∃ p, closeRun s = { s with pxp := { s.pxp with
    picture := p, pixelCount := 0, lineOpen := true
    lineCount := if s.pxp.lineOpen then s.pxp.lineCount else min 4095 (s.pxp.lineCount + 1) } } := by
  refine ⟨(closeRun s).pxp.picture, ?_⟩
  cases h : s.pxp.lineOpen <;> simp [closeRun, endRun, h]

end Sys2Proof.Machine
end

