-- ==== Sys2Proof/Laws/Takes.lean ====
section
/-!
SUPPORT. The ends of steps in the words of the statements: a take from the ring of a command, one completion or one
event handed over, and what the state after a take keeps.
-/

namespace Sys2Proof.Machine

/-! ### Nothing handed over -/

theorem finishInOrder_settled {s : State} (h : s.handed = []) : finishInOrder s = s := by
  simp only [finishInOrder, h, List.filter_nil, List.foldl_nil]
  rw [← h]

theorem finishAnyOrder_settled {s : State} (h : s.handed = []) : finishAnyOrder s = s := by
  simp only [finishAnyOrder, h, List.filter_nil, List.length_nil, interleave, List.append_nil, List.foldl_nil]
  rw [← h]

/-! ### One item handed over -/

theorem msiDue_eq (s : State) : s.msiDue =
    if (s.hif.causeEmpty && s.hif.irqEn && s.pins.msiEnable) = true then [Output.msi] else [] := by
  simp [State.msiDue, Hif.causeEmpty, and_assoc]

/-- The completion of a pending command, written at once. -/
theorem writeCompletion_pending {s : State} {h : Handle} {c : RecordRing} (st : Status) (w1 w2 : Word)
    (p : s.Pending h c) : writeCompletion h st w1 w2 s = s.completed c h st w1 w2 := by
  obtain ⟨-, hw, hc, hi⟩ := p
  simp only [writeCompletion, hc]
  rw [if_pos ⟨hw, hi⟩]
  simp only [State.completed, msiDue_eq]
  by_cases g : (s.hif.causeEmpty && s.hif.irqEn && s.pins.msiEnable) = true
  · have g' : (Hif.causeEmpty { s.hif with comp := some c.advance, inFlight := s.hif.inFlight.erase h }
      && s.hif.irqEn && s.pins.msiEnable) = true := g
    simp [raiseCause, emit, g, g']
  · have g' : ¬ (Hif.causeEmpty { s.hif with comp := some c.advance, inFlight := s.hif.inFlight.erase h }
      && s.hif.irqEn && s.pins.msiEnable) = true := g
    simp [raiseCause, emit, g, g']

/-- A step that hands over the completion of a pending command and nothing else. -/
theorem finishInOrder_complete {s : State} {h : Handle} {c : RecordRing} (o : Owner) (st : Status) (w1 w2 : Word)
    (p : s.Pending h c) : finishInOrder (complete o h st w1 w2 s) = s.completed c h st w1 w2 := by
  have e : { s with handed := [] } = s := by rw [← p.settled]
  simp only [finishInOrder, complete, hand, p.settled, List.nil_append]
  rw [List.filter_cons_of_pos (by simp [effective, p.writes, p.comp, p.held])]
  simp only [List.filter_nil, List.foldl_cons, List.foldl_nil, deliver]
  rw [← writeCompletion_pending st w1 w2 p]
  exact congrArg _ e

/-- A step that posts one event and hands over nothing else. -/
theorem finishInOrder_post {s : State} (o : Owner) (e : Event) (h : s.handed = []) :
    finishInOrder (post o e s) = writeEvent e s := by
  have e0 : { s with handed := [] } = s := by rw [← h]
  simp only [finishInOrder, post, hand, h, List.nil_append]
  by_cases d : eventDropped s.hif e = true
  · rw [List.filter_cons_of_neg (by simp [effective, d])]
    simp only [List.filter_nil, List.foldl_nil, writeEvent, d, if_true]
    exact e0
  · rw [List.filter_cons_of_pos (by simp [effective, d])]
    simp only [List.filter_nil, List.foldl_cons, List.foldl_nil, deliver]
    exact congrArg _ e0

/-! ### The answers of rows -/

/-- A row that hands over nothing. -/
theorem done_settled {s t : State} (h : s.handed = []) (e : s = t) : done s = .next t := by
  rw [done, finishInOrder_settled h, e]

theorem doneAny_settled {s t : State} (h : s.handed = []) (e : s = t) : doneAny s = .next t := by
  rw [doneAny, finishAnyOrder_settled h, e]

/-- A row that completes one pending command. -/
theorem done_complete {s : State} {h : Handle} {c : RecordRing} (o : Owner) (st : Status) (w1 w2 : Word)
    (p : s.Pending h c) : done (complete o h st w1 w2 s) = .next (s.completed c h st w1 w2) := by
  rw [done, finishInOrder_complete o st w1 w2 p]

/-- A row that posts one event. -/
theorem done_post {s : State} (o : Owner) (e : Event) (h : s.handed = []) :
    done (post o e s) = .next (writeEvent e s) := by rw [done, finishInOrder_post o e h]

/-! ### Takes -/

theorem State.Fetching.pending {s : State} {r : Nat} {g : Ring} {c : RecordRing} (h : s.Fetching r g c)
    (tag : HostTag) : (s.taken r g tag).Pending (s.takenAs r g tag) c :=
  ⟨h.settled, h.writes, h.comp, by simp [State.taken]⟩

theorem State.Fetching.beginTake {s : State} {r : Nat} {g : Ring} {c : RecordRing} (h : s.Fetching r g c)
    (tag : HostTag) : beginTake tag s = some (s.takenAs r g tag, s.taken r g tag) := by
  simp [Machine.beginTake, h.fetch, h.ring, h.writes, State.takenAs, State.taken, setRing]

theorem State.Fetching.takeFrom {s : State} {r : Nat} {g : Ring} {c : RecordRing} (h : s.Fetching r g c)
    (tag : HostTag) (owner : Handle → State → State) :
    takeFrom r tag owner s = owner (s.takenAs r g tag) (s.taken r g tag) :=
  takeFrom_owner owner (h.beginTake tag) rfl

/-- A take that its owner ends with a completion at once, from the state after the take. -/
theorem State.Fetching.refuse {s : State} {r : Nat} {g : Ring} {c : RecordRing} (h : s.Fetching r g c)
    (tag : HostTag) (o : Owner) (st : Status) (w1 w2 : Word) :
    finishInOrder (complete o (s.takenAs r g tag) st w1 w2 (s.taken r g tag))
      = (s.taken r g tag).completed c (s.takenAs r g tag) st w1 w2 :=
  finishInOrder_complete o st w1 w2 (h.pending tag)

section
variable (s : State) (r : Nat) (g : Ring) (tag : HostTag)

@[simp] theorem taken_handed : (s.taken r g tag).handed = s.handed := rfl
@[simp] theorem taken_comp : (s.taken r g tag).hif.comp = s.hif.comp := rfl
@[simp] theorem taken_event : (s.taken r g tag).hif.event = s.hif.event := rfl
@[simp] theorem taken_mask : (s.taken r g tag).hif.mask = s.hif.mask := rfl
@[simp] theorem taken_writes : writesRecords (s.taken r g tag).hif = writesRecords s.hif := rfl
@[simp] theorem takenAs_mem : s.takenAs r g tag ∈ (s.taken r g tag).hif.inFlight := by simp [State.taken]
@[simp] theorem taken_ses : (s.taken r g tag).ses = s.ses := rfl
@[simp] theorem taken_fmon : (s.taken r g tag).fmon = s.fmon := rfl
@[simp] theorem taken_sbc : (s.taken r g tag).sbc = s.sbc := rfl
@[simp] theorem taken_rwk : (s.taken r g tag).rwk = s.rwk := rfl
@[simp] theorem taken_dcr : (s.taken r g tag).dcr = s.dcr := rfl
@[simp] theorem taken_bss : (s.taken r g tag).bss = s.bss := rfl
@[simp] theorem taken_stt : (s.taken r g tag).stt = s.stt := rfl
@[simp] theorem taken_apq : (s.taken r g tag).apq = s.apq := rfl
@[simp] theorem taken_ain : (s.taken r g tag).ain = s.ain := rfl
@[simp] theorem taken_pxp : (s.taken r g tag).pxp = s.pxp := rfl
@[simp] theorem taken_pins : (s.taken r g tag).pins = s.pins := rfl
@[simp] theorem taken_out : (s.taken r g tag).out = s.out := rfl
@[simp] theorem taken_now : (s.taken r g tag).now = s.now := rfl
@[simp] theorem entryAt_taken (i : Nat) : entryAt (s.taken r g tag) i = entryAt s i := rfl

end

end Sys2Proof.Machine
end

