-- ==== Sys2Proof/Tests/Slice0.lean ====
section
/-!
SUPPORT. Tests of the model's own, from the data sheet's words and worked examples; and for every statement that has
hypotheses a witness: states and operands that meet them, clause by clause.
-/

namespace Sys2Proof.Tests

open Sys2Proof.Machine

-- The tests are checked one after another: each waits for the kernel, and a thread for each would be too many.
set_option Elab.async false

/-! ### Well-formedness: each check refuses an ill-formed command -/

theorem test_wf_transform : Instr.wellFormed (.loadTransform 0 [1, 2, 3] [0, 0, 0] 0) = false := by decide +kernel
theorem test_wf_transform_offsets :
    Instr.wellFormed (.loadTransform 0 [1, 2, 3, 4, 5, 6, 7, 8, 9] [0] 0) = false := by decide +kernel
theorem test_wf_halves : Instr.wellFormed (.sampleGroupComplete [[true]]) = false := by decide +kernel
theorem test_wf_boundary : Instr.wellFormed (.inputBoundary (.sync 0 .high 0 5 0) true) = false := by decide +kernel
theorem test_wf_line : Instr.wellFormed (.lineStart ⟨.high, [], 0, 0⟩ 3 0) = false := by decide +kernel
theorem test_wf_run : Instr.wellFormed (.activeRunEnd ⟨[], 0, 0⟩) = false := by decide +kernel

theorem test_wf_run_early : Instr.wellFormed (.activeRunEnd ⟨[⟨0, 0⟩], 0, 2⟩) = false := by decide +kernel
theorem test_wf_run_old : Instr.wellFormed (.activeRunEnd ⟨[⟨0, 0⟩], 2, 0⟩) = false := by decide +kernel
theorem test_wf_line_run : Instr.wellFormed (.lineStart ⟨.high, [⟨0, 0⟩], 0, 2⟩ 3 1) = false := by decide +kernel
theorem test_wf_code : Instr.wellFormed (.timingCode ⟨[⟨0, 0⟩], 0, 0⟩ ⟨0, 0⟩) = false := by decide +kernel
theorem test_wf_frame : Instr.wellFormed (.sidebandFrameReceived []) = false := by decide +kernel
theorem test_wf_deny : Instr.wellFormed (.denyListReadEnd (some [1, 2, 3])) = false := by decide +kernel
theorem test_wf_standing : Instr.wellFormed (.standingPayloadReadEnd (some [])) = false := by decide +kernel
theorem test_wf_send : Instr.wellFormed (.sendPayloadReadEnd (some (zeros 113))) = false := by decide +kernel
theorem test_wf_good : Instr.wellFormed (.standingPayloadReadEnd (some (zeros 112))) = true := by decide +kernel

/-! ### Records, checks, layouts -/

/-- CREATE-RING of ring 1 at 0x4000 with 16 records, tag 0x11223344, byte by byte (section 12.4). -/
theorem test_record_create_ring :
    decodeRecord (0x01 ||| 0x11223344 <<< 32 ||| 0x01 <<< 64 ||| 0x4000 <<< 128 ||| 16 <<< 192)
      = some (.createRing 0x11223344 1 0x4000 16) := by decide +kernel

/-- SEND, acknowledged, BULK, to index 3: bytes 8, 9, 10, 12, 16, 24, 32 (section 12.4). -/
theorem test_record_send :
    decodeRecord (0x40 ||| 7 <<< 32 ||| 3 <<< 64 ||| 2 <<< 72 ||| 2 <<< 80 ||| 9 <<< 96 ||| 0x010203040506 <<< 128
        ||| 0x8000 <<< 192 ||| 112 <<< 256)
      = some (.send 7 3 false true 2 9 0x010203040506 0x8000 112) := by decide +kernel

/-- A code between the two tables names no command (R177). -/
theorem test_record_unknown : decodeRecord 0x11 = none := by decide +kernel

/-- The CRC-32 of "123456789" in its usual form, and a CRC-8 by hand: one byte 0x01 gives the polynomial (R187). -/
theorem test_crc32 : crc32 [0x31, 0x32, 0x33, 0x34, 0x35, 0x36, 0x37, 0x38, 0x39] = 0xCBF43926 := by decide +kernel
theorem test_crc8 : crc8 [0x01] = 0x07 := by decide +kernel

/-- Capacities of the table of section 6.2: codes 3 and 24 at factors 1, 2 and 4. -/
theorem test_capacity_code3 :
    [1, 2, 4].map (capacity ⟨3, 858, 720, 525, 480, false, 59940, 0⟩) = [1800, 3720, 4200] := by decide +kernel
theorem test_capacity_code24 :
    [1, 2].map (capacity ⟨24, 2720, 2560, 1481, 1440, false, 59951, 0⟩) = [6088, 11848] := by decide +kernel

/-- The audio part of the demand table of section 6.3. -/
theorem test_audio_part :
    [audioPart (some ⟨2, 48000, 16⟩) 59940, audioPart (some ⟨2, 44100, 16⟩) 59940,
      audioPart (some ⟨8, 192000, 24⟩) 59940, audioPart (some ⟨8, 192000, 24⟩) 59951]
      = [202, 185, 3205, 3204] := by decide +kernel

/-- Candidates of codes 3 and 4 (section 6.4). -/
theorem test_candidates :
    candidates ⟨3, 858, 720, 525, 480, false, 59940, 0⟩ = [1, 2, 4]
    ∧ candidates ⟨4, 4400, 3840, 2250, 2160, false, 30000, 0⟩ = [1, 2] := by decide +kernel

/-- Every pattern of a timing code decodes, and one wrong bit is corrected (R160, R161). -/
theorem test_code_patterns :
    allFlags.all (fun c => decide (decodeFlags c.pattern = some c)
      && decide (decodeFlags (c.pattern ^^^ 0x10) = some c)) = true := by decide +kernel
theorem test_code_uncorrectable : decodeFlags (0x80 ^^^ 0x03) = none := by decide +kernel

/-- A code is found behind the words before it, and ten-bit words have it in bits 19 to 10 (R160). -/
theorem test_first_code :
    firstCode .c16e [⟨0x1234, 0⟩, ⟨0xFF80, 0⟩, ⟨0x0080, 0⟩, ⟨0x0080, 0⟩, ⟨0xB680, 0⟩, ⟨1, 0⟩]
      = ([⟨0x1234, 0⟩], some 0xB6)
    ∧ firstCode .c20e [⟨0xFFC00, 0⟩, ⟨0, 0⟩, ⟨0, 0⟩, ⟨0x2D8 <<< 10, 0⟩] = ([], some 0x2D8) := by decide +kernel

/-- A half of AU_WS: the level at the first edge of AU_BCK is no bit of the sample (R146). -/
theorem test_group_first_edge :
    groupOf ⟨2, 48000, 16⟩ [[false, true, false], [true, false, true]] = [0x800000, 0x400000] := by decide +kernel

/-! ### States for the witnesses -/

def ring0 : Ring := ⟨0x1000, 16, 5, 2⟩
def comp0 : RecordRing := ⟨0x2000, 16, 15, true, 12⟩
def event0 : RecordRing := ⟨0x3000, 16, 15, false, 15⟩
/-- A command taken earlier and still in flight. -/
def cmd0 : Handle := ⟨4, 0xAA, 1, 7⟩

def hif0 : Hif := { Hif.reset 9 with
  state := .running, enable := true, irqEn := true, rings := [some ring0, some ring0, none], comp := some comp0
  event := some event0, mask := 0x1FFFE, inFlight := [cmd0] }

/-- A tile at the root. -/
def root : Entry := ⟨.active, 0x0A0B0C0D0E0F, none, 0, 1, 2, 1, 5, 0, false, 3, 0, false⟩
def roster0 : List Entry := root :: List.replicate 63 Entry.vacant

/-- READY with a root, a host that takes commands, and a host command in flight. -/
def ready : State := { State.reset with
  hif := hif0
  pins := ⟨true, true, false, true⟩
  ses := { Ses.reset with presence := true, session := .ready, lastTerm := true }
  rwk := { Rwk.reset with roster := roster0 } }

/-- ready with the fetch from ring r in progress. -/
def fetching (r : Nat) : State := { ready with hif := { hif0 with
  fetch := some r, rings := if r = 2 then [some ring0, some ring0, some ring0] else [some ring0, some ring0, none] } }

/-- A state in another session state, its lanes as R7 gives them. -/
def inSession (st : SessionState) (s : State) : State :=
  { s with ses := { s.ses with session := st, lanes := st.lanesOn } }

def withRoot (st : EntryState) (s : State) : State :=
  { s with rwk := { s.rwk with roster := { root with state := st } :: List.replicate 63 Entry.vacant } }

def withWalk (s : State) : State := { s with rwk := { s.rwk with walking := true } }

theorem fetching_control : (fetching 0).Fetching controlRing ring0 comp0 := ⟨rfl, rfl, rfl, rfl, rfl⟩
theorem fetching_stream : (fetching 1).Fetching streamRing ring0 comp0 := ⟨rfl, rfl, rfl, rfl, rfl⟩
theorem fetching_dispatch : (fetching 2).Fetching dispatchRing ring0 comp0 := ⟨rfl, rfl, rfl, rfl, rfl⟩
theorem fetching_session (st : SessionState) : (inSession st (fetching 0)).Fetching controlRing ring0 comp0 :=
  ⟨rfl, rfl, rfl, rfl, rfl⟩
theorem ready_pending : ready.Pending cmd0 comp0 := ⟨rfl, rfl, rfl, by decide⟩

/-! ### Witnesses: the block and the host interface -/

theorem witness_StepTakesFront : ({ ready with pending := [.fetchBegin, .cause 1] } : State).pending
    = .fetchBegin :: [.cause 1] := rfl

theorem witness_EmptyQueueStep :
    (State.reset.pending = [] ∧ readyRow State.reset = none ∧ timersDue State.reset = [])
    ∧ readyRow ({ State.reset with pins := ⟨true, false, false, false⟩ } : State) = some .presenceDetected
    ∧ timersDue ({ State.reset with now := 450000 } : State) = [.flywheelStart false] := by decide +kernel

theorem witness_RecordRoundTrip :
    Instr.wellFormed (.send 7 3 false true 2 9 5 0x8000 112) = true
    ∧ (encodeRecord (.send 7 3 false true 2 9 5 0x8000 112)).isSome = true := by decide +kernel



theorem witness_CommandTakes :
    decodeRecord 0x06 = some (.startLink 0) ∧ (fetching 0).Fetching controlRing ring0 comp0 ∧ decodeRecord 0xFF = none
    ∧ hostCommand (.send 7 3 false true 2 9 5 0x8000 112) = some (2, 7) ∧ 2 ≠ controlRing :=
  ⟨by decide +kernel, fetching_control, by decide +kernel, rfl, by decide⟩

theorem witness_invariants :
    (ready.lanesAgree ∧ ready.sessionShaped ∧ ready.rosterShaped ∧ ready.planFits)
    ∧ (ready.awaitingBounded ∧ ready.poolBounded ∧ ready.fifoBounded)
    ∧ (ready.factorsLegal ∧ ready.creditsKept ∧ ready.eventsKept)
    ∧ step { ready with pending := [.enableClear] } = .next { ready with hif := { hif0 with
        enable := false, state := .draining } } := by
  refine ⟨⟨rfl, ?_, ?_, ?_⟩, ⟨by unfold State.awaitingBounded; decide, by unfold State.poolBounded; decide,
    by unfold State.fifoBounded; decide⟩, ⟨?_, ?_, ?_⟩, rfl⟩
  · simp [State.sessionShaped, ready, Ses.reset, Rwk.reset, State.reset]
  · simp [State.rosterShaped, ready, roster0, root]
  · simp [State.planFits, ready, State.reset, Bss.reset]
  · simp [State.factorsLegal, ready, State.reset, Bss.reset, factorLegal]
  · simp [State.creditsKept, ready, hif0, comp0, RecordRing.inRange, takenCount, RecordRing.unreleased, Hif.reset]
  · simp [State.eventsKept, ready, hif0, event0, RecordRing.inRange, RecordRing.unreleased]

theorem witness_InterfaceResets : ready.handed = [] := by decide +kernel

/-- DISABLED with ENABLE 0 and a bootstrap address. -/
def disabled (lo : Word) : State := { State.reset with hif := { Hif.reset 0 with bootLo := lo } }

theorem witness_EnableAndDraining :
    ((disabled 32).handed = [] ∧ (disabled 32).hif.enable = false ∧ (disabled 32).hif.state = .disabled
      ∧ (disabled 32).hif.bootReading = false ∧ (bootAddress (disabled 32).hif).toNat % 32 = 0)
    ∧ (bootAddress (disabled 31).hif).toNat % 32 ≠ 0
    ∧ (ready.hif.state ≠ .disabled ∧ ({ hif0 with enable := false } : Hif).enable = false)
    ∧ (ready.hif.enable = true ∧ ready.hif.state = .running)
    ∧ (let d : State := { ready with hif := { hif0 with state := .draining, inFlight := [] } };
      d.handed = [] ∧ d.hif.state = .draining ∧ takenCount d.hif = 0 ∧ d.hif.enable = true)
    ∧ takenCount ({ hif0 with state := .draining } : Hif) ≠ 0
    ∧ (takenCount ready.hif ≠ 0 ∧ takenCount ({ hif0 with inFlight := [] } : Hif) = 0) := by decide +kernel

/-- A bootstrap record: CONTROL at 0x40 with n records, the completion ring at 0x80 with 1024. -/
def bootRecord (n : Nat) : BootRecord := 0x40 ||| BitVec.ofNat 256 n <<< 64 ||| 0x80 <<< 128 ||| 1024 <<< 192

def booting (on : Bool) : State := { State.reset with hif := { Hif.reset 0 with bootReading := true, enable := on } }

theorem witness_Bootstrap :
    ((booting true).handed = [] ∧ (booting true).hif.bootReading = true ∧ (booting true).hif.state = .disabled
      ∧ (booting true).hif.enable = true ∧ (booting false).hif.enable = false)
    ∧ bootRings (bootRecord 16) = some (⟨0x40, 16, 0, 0⟩, ⟨0x80, 1024, 0, true, 0⟩)
    ∧ bootRings (bootRecord 15) = none := by decide +kernel

theorem witness_powerSize : powerSize 1024 16 ∧ powerSize 1024 1024 ∧ ¬ powerSize 1024 15 ∧ ¬ powerSize 256 512
    ∧ powerSize 256 256 := by
  refine ⟨⟨⟨4, rfl⟩, by decide, by decide⟩, ⟨⟨10, rfl⟩, by decide, by decide⟩, ?_, ?_, ⟨⟨8, rfl⟩, by decide, by decide⟩⟩
  · rintro ⟨-, h, -⟩; exact absurd h (by decide)
  · rintro ⟨-, -, h⟩; exact absurd h (by decide)

theorem witness_RegisterWrites : ready.handed = [] ∧ ready.hif.irqEn = true := by decide +kernel

theorem witness_IndexWrites :
    (ready.handed = [] ∧ writesRecords ready.hif = true ∧ ringAt ready.hif 1 = some ring0 ∧ 15 < ring0.size)
    ∧ (writesRecords State.reset.hif = false ∧ ringAt ready.hif 2 = none ∧ ring0.size ≤ 16)
    ∧ (State.reset.hif.comp = none ∧ State.reset.hif.event = none)
    ∧ (ready.hif.comp = some comp0 ∧ 15 < comp0.size
      ∧ (15 + comp0.size - comp0.host) % comp0.size ≤ (comp0.write + comp0.size - comp0.host) % comp0.size)
    ∧ ¬ (0 + comp0.size - comp0.host) % comp0.size ≤ (comp0.write + comp0.size - comp0.host) % comp0.size
    ∧ (let r : RecordRing := ⟨0x3000, 16, 14, true, 15⟩
      let s : State := { ready with hif := { hif0 with event := some r, overrun := 3 } };
      s.hif.event = some r ∧ 14 < r.size ∧ (14 + r.size - r.host) % r.size ≤ (r.write + r.size - r.host) % r.size
      ∧ 0 < s.hif.overrun ∧ 14 ≠ r.host ∧ r.write < r.size ∧ r.host < r.size
      ∧ (15 + r.size - r.host) % r.size ≤ (r.write + r.size - r.host) % r.size) := by decide +kernel

theorem witness_EventRing :
    (writesRecords hif0 = true ∧ hif0.event = some event0 ∧ hif0.mask.getLsbD Event.presenceUp.kind = true
      ∧ event0.unreleased < event0.size - 1 ∧ hif0.overrun = 0)
    ∧ (⟨0x3000, 16, 14, true, 15⟩ : RecordRing).unreleased = 16 - 1
    ∧ writesRecords (Hif.reset 0) = false
    ∧ 0 < ({ hif0 with overrun := 1 } : Hif).overrun
    ∧ (fetching 0).Fetching controlRing ring0 comp0 ∧ (fetching 0).hif.event = some event0
    ∧ ({ hif0 with event := none } : Hif).event = none
    ∧ powerSize 256 (256 : Half).toNat ∧ ¬ powerSize 256 (512 : Half).toNat :=
  ⟨by decide, by decide, by decide, by decide, fetching_control, rfl, rfl, witness_powerSize.2.2.2.2,
    witness_powerSize.2.2.2.1⟩

/-- Of a mask of ones, CONFIGURE-EVENTS keeps the bits of the kinds 1 to 16 (sections 11.6, 12.4). -/
theorem test_configureEvents_kinds :
    (match exec (.configureEvents 5 0 0 true 0xFFFFFFFF) (fetching 0) with
      | .next t => t.hif.mask
      | _ => 0) = 0x1FFFE := by decide +kernel

theorem witness_FetchesAndFailures :
    (ready.handed = [] ∧ ready.hif.state = .running ∧ ready.hif.fetch = none ∧ 0 < freeCredits ready.hif
      ∧ ringAt ready.hif 0 = some ring0 ∧ ring0.prod ≠ ring0.cons ∧ 0 = (ready.hif.lastRing + 1) % 3
      ∧ 1 = ({ hif0 with lastRing := 0 } : Hif).lastRing + 1
      ∧ freeCredits ({ hif0 with comp := some ⟨0x2000, 16, 14, true, 0⟩ } : Hif) = 0
      ∧ 0 < poolFree ready.apq)
    ∧ ((fetching 0).handed = [] ∧ writesRecords (fetching 0).hif = true ∧ (fetching 0).hif.fetch = some controlRing
      ∧ (fetching 1).hif.fetch = some streamRing ∧ (fetching 2).hif.fetch = some dispatchRing
      ∧ (fetching 0).hif.comp.isSome = true ∧ (fetching 0).hif.event.isSome = true)
    ∧ ({ ready with hif := { hif0 with state := .fatal } } : State).hif.state = .fatal := by decide +kernel

theorem witness_RingCommands :
    ((fetching 0).Fetching controlRing ring0 comp0)
    ∧ (2 < (3 : Byte).toNat ∧ (ringAt ((fetching 0).taken 0 ring0 1).hif 1).isSome = true
      ∧ (ringAt ((fetching 0).taken 0 ring0 1).hif 0).isSome = true
      ∧ ringAt ((fetching 0).taken 0 ring0 1).hif 2 = none ∧ (0x40 : Addr).toNat % 64 = 0 ∧ (0x41 : Addr).toNat % 64 ≠ 0)
    ∧ (powerSize 1024 (16 : Half).toNat ∧ powerSize 1024 (1024 : Half).toNat ∧ ¬ powerSize 1024 (15 : Half).toNat)
    ∧ (ringAt (fetching 0).hif 1 = some ring0 ∧ ringAt (fetching 0).hif 2 = none
      ∧ (∃ k ∈ (fetching 0).hif.inFlight, k.ring = 1)
      ∧ (∀ k ∈ ({ hif0 with inFlight := [] } : Hif).inFlight, k.ring ≠ 1)) :=
  ⟨fetching_control, by decide, ⟨witness_powerSize.1, witness_powerSize.2.1, witness_powerSize.2.2.1⟩,
    rfl, rfl, ⟨cmd0, by decide, rfl⟩, by simp⟩

/-- A copy of the command in flight. -/
def copy0 : Copy := ⟨cmd0, 0x9000, [1, 2, 3], 7, 8⟩

theorem witness_StatusReads :
    (fetching 0).Fetching controlRing ring0 comp0 ∧ (63 : Word).toNat < 64 ∧ 64 ≤ (64 : Word).toNat
    ∧ (let s : State := { ready with hif := { hif0 with copies := [copy0] } };
      s.hif.copies[0]? = some copy0 ∧ s.Pending copy0.handle comp0) :=
  ⟨fetching_control, by decide, by decide, rfl, ⟨rfl, rfl, rfl, by decide⟩⟩

/-! ### Witnesses: the link session -/

theorem witness_SessionCommands :
    ((fetching 0).Fetching controlRing ring0 comp0)
    ∧ ((fetching 0).ses.session ≠ .carrying ∧ (fetching 0).ses.session ≠ .quiet)
    ∧ (inSession .carrying (fetching 0)).Fetching controlRing ring0 comp0
    ∧ (inSession .carrying (fetching 0)).ses.quiet.host = false
    ∧ ({ Ses.reset with session := .quiet, quiet := ⟨true, false, false⟩ } : Ses).quiet.host = true :=
  ⟨fetching_control, by decide, fetching_session _, rfl, rfl⟩

theorem witness_LinkStart :
    ((fetching 0).Fetching controlRing ring0 comp0 ∧ (fetching 0).lanesAgree)
    ∧ (inSession .waiting (fetching 0)).ses.session ≠ .ready
    ∧ ((fetching 0).ses.session = .ready ∧ (withWalk (fetching 0)).rwk.walking = true
      ∧ (fetching 0).rwk.walking = false)
    ∧ ((entryAt (withRoot .denied (fetching 0)) 0).state = .denied
      ∧ (entryAt (withRoot .lost (fetching 0)) 0).state = .lost)
    ∧ ((entryAt (fetching 0) 0).state = .active ∧ (fetching 0).ses.lastTerm = true
      ∧ Ses.reset.lastTerm = false) :=
  ⟨⟨fetching_control, rfl⟩, by decide, by decide, by decide +kernel, by decide +kernel⟩

/-- TRAINING with a START-LINK in flight. -/
def training (n : Nat) (s : State) : State :=
  { inSession .training s with ses := { (inSession .training s).ses with startLink := some cmd0, trainCount := n } }

/-- An event ring with room for what one step can post. -/
def roomy (s : State) : State := { s with hif := { s.hif with event := some ⟨0x3000, 64, 5, true, 5⟩ } }

/-- WALKING in a full walk that w has started, with the fetch of a STOP-LINK in progress. -/
def aborting (w : WalkStarter) : State :=
  let s := roomy (inSession .walking (fetching 0))
  { s with rwk := { s.rwk with
    walking := true, starter := w, enumerate := if w = .enumerate then some cmd0 else none } }

theorem witness_LinkStop :
    (∀ st, (inSession st (fetching 0)).Fetching controlRing ring0 comp0 ∧ (inSession st (fetching 0)).lanesAgree
      ∧ (inSession st (fetching 0)).ses.session = st)
    ∧ ((training 3 (fetching 0)).lanesAgree ∧ (training 3 (fetching 0)).ses.startLink = some cmd0
      ∧ cmd0 ∈ (training 3 (fetching 0)).hif.inFlight)
    ∧ (let s := withWalk (inSession .walking (fetching 0));
      s.Fetching controlRing ring0 comp0 ∧ s.ses.session = .walking ∧ s.rwk.walking = true ∧ s.rwk.kind = .full)
    ∧ (∀ k, (training 3 { fetching 0 with hif := { (fetching 0).hif with inFlight := [] } }).ses.startLink = some k →
      k ∉ ({ (fetching 0).hif with inFlight := [] } : Hif).inFlight ∧ k ≠ (fetching 0).takenAs controlRing ring0 1)
    ∧ (∀ w ∈ [WalkStarter.enumerate, .autoEnum], let s := aborting w
      s.rwk.starter = w ∧ s.listens 3 = true ∧ s.listens 7 = true
      ∧ (s.takenAs controlRing ring0 1 :: s.heldHandles).Nodup
      ∧ (w = .enumerate → s.rwk.enumerate = some cmd0 ∧ cmd0 ∈ s.hif.inFlight)) :=
  ⟨fun st => ⟨fetching_session st, rfl, rfl⟩, ⟨rfl, rfl, by decide⟩, ⟨⟨rfl, rfl, rfl, rfl, rfl⟩, rfl, rfl, rfl⟩,
    by rintro k ⟨⟩; decide, by decide +kernel⟩

/-- SETTLING since tick 5, with or without AUTO_ENUM. -/
def settling (auto : Bool) : State := { State.reset with ses := { Ses.reset with
  session := .settling, presence := true, settle := some 5, autoEnum := auto } }

theorem witness_PresenceRises :
    (ready.handed = [] ∧ ready.lanesAgree ∧ ready.ses.presence = true ∧ ready.ses.glitch = none)
    ∧ (State.reset.handed = [] ∧ State.reset.lanesAgree ∧ State.reset.ses.presence = false
      ∧ State.reset.ses.session = .detached)
    ∧ (∀ auto, (settling auto).handed = [] ∧ (settling auto).lanesAgree
      ∧ (settling auto).ses.session = .settling ∧ (settling auto).ses.settle = some 5
      ∧ (settling auto).ses.autoEnum = auto)
    ∧ flightIs .wk ({ settling true with sbc := { Sbc.reset with
        inFlight := some ⟨.wk, ⟨0x7F, .probe, []⟩, 3, 1, none, true⟩ } } : State) = true :=
  ⟨⟨rfl, rfl, rfl, rfl⟩, ⟨rfl, rfl, rfl, rfl⟩, fun _ => ⟨rfl, rfl, rfl, rfl, rfl⟩, rfl⟩

/-- A SEND of the command in flight, acknowledged, to the root. -/
def packet0 : Packet :=
  ⟨cmd0, .tile 0 root.serial, .normal, true, some 3, 0x8000, 4, [1, 2, 3, 4], some 9, 1, some 0, false, none⟩

theorem witness_PresenceDrop :
    let s : State := { ready with ses := { ready.ses with glitch := some 7 }, apq := { Apq.reset with normal := [packet0] } };
    s.ses.presence = true ∧ s.ses.glitch = some 7 ∧ s.handed = [] ∧ s.heldHandles.Nodup ∧ packet0 ∈ s.apq.resting
    ∧ s.canComplete packet0.handle := ⟨rfl, rfl, rfl, by decide, by decide, rfl, rfl, by decide⟩

theorem witness_PresenceDrop_reports :
    (∀ st ∈ [SessionState.settling, .waiting, .carrying], (inSession st ready).ses.session ≠ .detached)
    ∧ ((roomy ready).handed = [] ∧ (roomy ready).listens 2 = true ∧ (roomy ready).listens 3 = true ∧ (roomy ready).listens 7 = true)
    ∧ (∀ w ∈ [WalkStarter.enumerate, .apply], (aborting w).rwk.walking = true ∧ (aborting w).rwk.starter = w)
    ∧ ((aborting .enumerate).rwk.enumerate = some cmd0 ∧ (aborting .enumerate).heldHandles.Nodup
      ∧ cmd0 ∈ (aborting .enumerate).hif.inFlight)
    ∧ (let s : State := { inSession .training ready with ses := { (inSession .training ready).ses with startLink := some cmd0 } };
      s.ses.startLink = some cmd0 ∧ s.heldHandles.Nodup ∧ writesRecords s.hif = true ∧ s.hif.comp.isSome = true
      ∧ cmd0 ∈ s.hif.inFlight)
    ∧ (let s : State := { ready with dcr := { Dcr.reset with queue := [⟨cmd0, root.serial, 0x7000, 256, false, false⟩] } };
      s.heldHandles.Nodup ∧ ∀ q ∈ s.dcr.queue, q.group = false ∧ q.handle ∈ s.hif.inFlight) := by decide +kernel

/-! ### Witnesses: frame starts and the video input -/

def lockedOn (m : Measurement) (st : MonitorState) (n : Nat) (s : State) : State :=
  { s with fmon := { s.fmon with monitor := st, reference := some m, equalCount := n, activity := some 9 } }

/-- 1080p at 60 Hz as measured. -/
def hd : Measurement := ⟨2200, 1920, 1125, 1080, false, .high, .high, 450000⟩

/-- The answer is a next state that satisfies p. -/
def nextHas (p : State → Bool) : Host.Outcome State Fault Refusal → Bool
  | .next t => p t
  | _ => false

/-- What the row i leaves in s satisfies p. -/
def leaves (i : Instr) (s : State) (p : State → Bool) : Bool := nextHas p (exec i s)

/-- The FSN after a row. -/
def fsnAfter (i : Instr) (s : State) : Option Fsn :=
  match exec i s with
  | .next t => some t.fmon.fsn
  | _ => none

/-- s without events, so that nothing chooses an order. -/
def unheard (s : State) : State := { s with hif := { s.hif with mask := 0 } }

/-- An open measurement whose close at 450000 records hd. -/
def closing : OpenMeasurement := ⟨0, some 2200, some 1920, 1125, 1080, 0, false, false, false⟩

/-- ACQUIRING with two equal measurements, and a third that closes now. -/
def locking : State := unheard { ready with
  now := 450000
  fmon := { ready.fmon with
    monitor := .acquiring, reference := some hd, equalCount := 2, activity := some 9, measuring := some closing
    hLevel := some .high, vLevel := some .high } }

/-- The factor 2 where 1 is enough, and the lower-fits count at 15 in the monitor state st. -/
def falling (st : MonitorState) : State := unheard { ready with
  fmon := { ready.fmon with monitor := st, activity := some 9 }, bss := { Bss.reset with factor := 2, lowerFits := 15 } }

theorem witness_LimitRows :
    (let s := inSession .carrying { ready with ses := { ready.ses with termLoss := 1 } };
      s.handed = [] ∧ s.lanesAgree ∧ s.ses.session = .carrying ∧ 1 ≤ s.ses.termLoss)
    ∧ (let s : State := { training 7 ready with ses := { (training 7 ready).ses with termLoss := 1 } };
      s.handed = [] ∧ s.lanesAgree ∧ s.ses.session = .training ∧ 1 ≤ s.ses.termLoss ∧ s.ses.startLink = some cmd0
      ∧ s.Pending cmd0 comp0
      ∧ ∀ k ∈ ({ s with ses := { s.ses with startLink := none } } : State).ses.startLink, k ∉ s.hif.inFlight)
    ∧ (let s := training 59 ready;
      s.ses.session = .training ∧ 59 ≤ s.ses.trainCount ∧ s.ses.lockSeen = false ∧ s.ses.startLink = some cmd0
      ∧ s.Pending cmd0 comp0)
    ∧ (let s : State := { training 59 ready with ses := { (training 59 ready).ses with lockSeen := true } };
      s.handed = [] ∧ s.lanesAgree ∧ s.ses.session = .training ∧ 59 ≤ s.ses.trainCount ∧ s.ses.lockSeen = true
      ∧ s.ses.startLink = some cmd0 ∧ s.Pending cmd0 comp0)
    ∧ (∀ st ∈ [MonitorState.noSignal, .locked, .acquiring], let s := falling st
      s.handed = [] ∧ s.bss.mode ≠ .fixed ∧ s.bss.pending = none ∧ s.bss.announced = none ∧ 15 ≤ s.bss.lowerFits
      ∧ isCandidate s.fmon.geometry s.bss.factor = true ∧ s.ain.format = none ∧ s.ain.pending = none
      ∧ (s.stt.entries.filterMap (·.pending)) = [] ∧ neededFactor s.bss s.fmon.geometry (demand s) < s.bss.factor
      ∧ s.fmon.equalCount < 2 ∧ s.fmon.boundaryDue = none)
    ∧ ((falling .noSignal).handed = [] ∧ (falling .noSignal).fmon.monitor = .noSignal
      ∧ leaves .lowerFitsExpiry (falling .noSignal) (fun t => decide (t.bss.factor = 1 ∧ t.fmon.fsn = 1)) = true)
    ∧ (leaves .lowerFitsExpiry (inSession .training (falling .noSignal))
        (fun t => decide (t.bss.factor = 2 ∧ t.bss.announced = some 1 ∧ t.fmon.fsn = 1)) = true)
    ∧ (let s : State := { falling .locked with
          pxp := { Pxp.reset with mode := .c16e }, fmon := { (falling .locked).fmon with boundaryDue := some false } };
      s.fmon.monitor ≠ .noSignal ∧ s.fmon.boundaryDue = some false
      ∧ leaves .lowerFitsExpiry s (fun t => decide (t.bss.factor = 1)) = true)
    ∧ (let s : State := { falling .locked with
          fmon := { (falling .locked).fmon with vEdges := 2, vLevel := some .low, prevLine := some 100 } };
      s.fmon.monitor ≠ .noSignal ∧ s.fmon.boundaryDue = none
      ∧ boundaryOf (.sync 0 .low 900 5 0) s = (some .line, s)
      ∧ leaves .lowerFitsExpiry s (fun t => decide (t.bss.factor = 1)) = true)
    ∧ (let m := closing.endLine.record locking.fmon locking.pxp.mode locking.now;
      (locking.handed = [] ∧ locking.fmon.monitor = .acquiring ∧ locking.fmon.reference = some hd
        ∧ 2 ≤ locking.fmon.equalCount ∧ locking.fmon.measuring = some closing
        ∧ measurementValid closing.endLine m = true ∧ m.equals hd = true ∧ locking.fmon.boundaryDue = none)
      ∧ leaves .formatLocked locking (fun t => decide (t.fmon.fsn = 1 ∧ t.fmon.monitor = .locked ∧ t.fmon.geometry.code = 1
        ∧ t.ses.formatDrop = true ∧ t.bss.plan.isSome = true)) = true
      ∧ (roomy { locking with hif := { locking.hif with mask := 0x1FFFE } }).listens 4 = true)
    ∧ (let s : State := { ready with
        fmon := { ready.fmon with measuring := some (openAt 0) }, pxp := { Pxp.reset with codeErrors := 3 } };
      s.handed = [] ∧ s.fmon.measuring = some (openAt 0) ∧ 3 ≤ s.pxp.codeErrors
      ∧ s.pxp.errorReported = false) :=
  ⟨⟨rfl, rfl, rfl, by decide⟩,
    ⟨rfl, rfl, rfl, by decide, rfl, ⟨rfl, rfl, rfl, by decide⟩, fun _ h => absurd h (by simp)⟩,
    ⟨rfl, by decide, rfl, rfl, ⟨rfl, rfl, rfl, by decide⟩⟩, ⟨rfl, rfl, rfl, by decide, rfl, rfl, ⟨rfl, rfl, rfl, by decide⟩⟩,
    by decide +kernel, by decide +kernel, by decide +kernel, by decide +kernel, by decide +kernel, by decide, by decide⟩

/-- Every record that a frame start applies waits, each with a command of its own in flight. -/
def applying : State :=
  let k := fun (i : Nat) => (⟨20 + i, 0xB0, 1, 3⟩ : Handle)
  let s := unheard (inSession .carrying ready)
  { s with
    hif := { s.hif with comp := some ⟨0x2000, 64, 0, true, 0⟩, inFlight := (List.range 6).map k }
    ses := { s.ses with pendingQuiet := [⟨true, k 0⟩] }
    bss := { s.bss with pending := some ⟨.fixed, 1, 9, k 1⟩ }
    ain := { s.ain with pending := some ⟨some ⟨2, 48000, 16⟩, k 2⟩ }
    pxp := { s.pxp with pendingTransform := some ⟨Transform.identity, .narrow, k 3⟩, pendingFill := some ⟨⟨1, 2, 3⟩, k 4⟩ }
    stt := { s.stt with entries := s.stt.entries.set 5 (⟨false, 1, 0, 0, [], 0, some ⟨true, 2, 1, 7, [1, 2], k 5⟩⟩ : StandingEntry) } }

/-- s with room in the event ring, listening to FORMAT_LOST alone. -/
def hearsLoss (s : State) : State := let r := roomy s; { r with hif := { r.hif with mask := 0x20 } }

/-- R25, R35, R40: the loss of a locked format is posted at the activity timeout with cause NO_SIGNAL; a loss report of an input
mode change is posted with cause INPUT_MODE at the next frame start, the flywheel's, a boundary's, or that of the activity timeout. -/
theorem witness_FrameOpened_lost :
    (let s := hearsLoss (lockedOn hd .locked 3 ready);
      s.handed = [] ∧ s.fmon.monitor = .locked ∧ s.listens 5 = true
      ∧ leaves (.activityTimeout true) s (fun t => s.reports t (.formatLost s.fmon.geometry.code .noSignal)) = true)
    ∧ (∀ row ∈ [(MonitorState.noSignal, Instr.flywheelStart true), (.acquiring, .activityTimeout true),
        (.acquiring, .inputBoundary (.code 0 false) true)],
      let s0 := hearsLoss (lockedOn hd row.1 1 ready)
      let s : State := { s0 with
        pxp := { s0.pxp with mode := .c16e }, fmon := { s0.fmon with lossReport := true, boundaryDue := some false } }
      s.handed = [] ∧ s.fmon.lossReport = true ∧ s.ses.autoQuiet = true ∧ s.listens 5 = true
      ∧ leaves row.2 s (fun t => s.reports t (.formatLost s.fmon.geometry.code .inputMode) && t.ses.quiet.format
        && !t.fmon.lossReport) = true) := by decide +kernel

theorem witness_FlywheelFrames :
    (State.reset.handed = [] ∧ State.reset.fmon.monitor = .noSignal)
    ∧ (let s := lockedOn hd .locked 3 ready;
      s.handed = [] ∧ s.fmon.monitor ≠ .noSignal ∧ s.fmon.activity = some 9 ∧ s.fmon.monitor = .locked
      ∧ s.ses.autoQuiet = true)
    ∧ (applying.frameHandles.Nodup ∧ applying.frameHandles.length = 6
      ∧ ∀ h ∈ applying.frameHandles, writesRecords applying.hif = true ∧ applying.hif.comp.isSome = true
        ∧ h ∈ applying.hif.inFlight) := by decide +kernel

/-- The active level of PX_VS known, the previous line 100 pixels long, the monitor in a state. -/
def syncing (st : MonitorState) (prev : Option Machine.Alignment) (now : Nat) : State := { State.reset with
  now := now
  fmon := { State.reset.fmon with
    monitor := st, vEdges := 2, vLevel := some .low, prevLine := some 100, prevAlign := prev, activity := some 0 } }

/-- A boundary that the data of syncing recognises. -/
def boundary0 (offset : Nat) : BoundaryInput := .sync 10 .high 5 900 offset

theorem witness_InputBoundaries :
    (let s := syncing .locked none 50;
      s.handed = [] ∧ s.pxp.mode.embedded = false ∧ s.fmon.vLevel ≠ none ∧ s.fmon.prevLine = some 100
      ∧ (boundaryOf (boundary0 25) s).1 = some .line ∧ (boundaryOf (boundary0 26) s).1 = some .mid)
    ∧ (State.reset.fmon.vLevel = none ∧ State.reset.fmon.vEdges < 2 ∧ 2 ≤ (syncing .locked none 50).fmon.vEdges)
    ∧ (let s : State := { State.reset with fmon := { State.reset.fmon with vEdges := 2, vLevel := some .high } };
      s.handed = [] ∧ s.pxp.mode.embedded = false ∧ s.fmon.vLevel ≠ none ∧ s.fmon.prevLine = none)
    ∧ (let s : State := { State.reset with
        pxp := { Pxp.reset with mode := .c16e }, fmon := { State.reset.fmon with boundaryDue := some true } };
      s.pxp.mode.embedded = true ∧ s.fmon.boundaryDue = some true)
    ∧ ((syncing .locked (some .line) 50).fmon.monitor ≠ .noSignal
      ∧ (syncing .locked (some .line) 50).fmon.prevAlign = some .line)
    ∧ (let s := syncing .noSignal none 112490;
      s.fmon.monitor = .noSignal ∧ s.fmon.flyPeriod ≤ 4 * ((boundaryOf (boundary0 0) s).2.now - s.fmon.lastFly))
    ∧ (let s := syncing .noSignal none 112489
      4 * ((boundaryOf (boundary0 0) s).2.now - s.fmon.lastFly) < s.fmon.flyPeriod) := by decide +kernel

/-- A frame start from the flywheel in a session state counts a frame. -/
theorem frame_counts (st : SessionState) (n : Nat) (f : Fsn)
    (h : fsnAfter (.flywheelStart true) (inSession st { ready with ses := { ready.ses with termLoss := n } }) = some f) :
    ∃ t, exec (.flywheelStart true) (inSession st { ready with ses := { ready.ses with termLoss := n } }) = .next t
      ∧ t.fmon.fsn = f := by
  unfold fsnAfter at h
  split at h
  · rename_i t ht; exact ⟨t, ht, by simpa using h⟩
  · exact absurd h (by simp)

/-- A session state in which the counter is 7, no check waits, and no event is heard. -/
def eighth (st : SessionState) : State :=
  let s := unheard (inSession st ready)
  { s with ses := { s.ses with linkFrames := 7 } }

theorem witness_CarriedFrames :
    frameRow (.flywheelStart true) = some true ∧ frameRow (.flywheelStart false) = some false
    ∧ (∃ t, exec (.flywheelStart true) (inSession .carrying { ready with ses := { ready.ses with termLoss := 0 } })
        = .next t ∧ t.fmon.fsn = 1)
    ∧ (∃ t, exec (.flywheelStart true) (inSession .quiet { ready with ses := { ready.ses with termLoss := 1 } })
        = .next t ∧ t.fmon.fsn = 1)
    ∧ ready.fmon.fsn = 0
    ∧ ((eighth .carrying).ses.presence = true ∧ (eighth .carrying).rwk.walking = false
      ∧ (eighth .carrying).ses.linkCheck = none
      ∧ leaves (.flywheelStart true) (eighth .carrying) (fun t => decide (t.fmon.fsn = 1 ∧ t.ses.linkFrames = 8
        ∧ t.ses.cursor = 0 ∧ t.sbc.lcReq = some ⟨1, .linkCheck, []⟩)) = true)
    ∧ (let s : State := { eighth .carrying with sbc := { Sbc.reset with
          channel := .attempt, inFlight := some ⟨.lc, ⟨2, .linkCheck, []⟩, 5, 1, none, false⟩ } };
      flightIs .lc s = true
      ∧ leaves (.flywheelStart true) s (fun t => decide (t.sbc.deferred = some ⟨1, .linkCheck, []⟩)) = true)
    ∧ leaves (.flywheelStart true) (withRoot .denied (eighth .carrying)) (fun t => decide (t.ses.linkFrames = 8
        ∧ t.ses.cursor = 63 ∧ t.ses.linkCheck = none)) = true :=
  ⟨rfl, rfl, frame_counts _ _ _ (by decide +kernel), frame_counts _ _ _ (by decide +kernel), rfl, by decide +kernel,
    by decide +kernel, by decide +kernel⟩

theorem witness_TrainingFrames :
    (∀ n ∈ [3, 58, 59], let s := unheard (training n ready);
      s.ses.session = .training ∧ s.ses.lockSeen = false ∧ s.ses.linkCheck = none ∧ s.ses.presence = true
      ∧ leaves (.flywheelStart true) s (fun t => !s.restarts t && decide (t.fmon.fsn = 1
        ∧ t.ses.trainCount = n + 1 ∧ (t.ses.session = .ready ↔ n = 59))) = true)
    ∧ (let s : State := { unheard (training 5 ready) with bss := { Bss.reset with mode := .fixed, hostFactor := 2 } };
      leaves (.flywheelStart true) s (fun t => s.restarts t && decide (t.ses.session = .training
        ∧ t.ses.trainCount = 0 ∧ t.bss.announced = some 2)) = true)
    ∧ (let s := unheard (training 5 ready);
      leaves (.flywheelStart true) { s with ses := { s.ses with lockSeen := true } }
        (fun t => decide (t.ses.session = .carrying ∧ t.ses.cursor = 63 ∧ t.ses.linkFrames = 0)) = true
      ∧ leaves (.flywheelStart false) { s with ses := { s.ses with termLoss := 1 } }
        (fun t => decide (t.ses.session = .ready ∧ t.ses.lanes = false)) = true)
    ∧ (let s : State := { unheard (training 3 ready) with sbc := { Sbc.reset with
          channel := .attempt, inFlight := some ⟨.lc, ⟨1, .linkCheck, []⟩, 5, 1, none, false⟩ } };
      flightIs .lc s = true
      ∧ leaves (.flywheelStart true) s (fun t => decide (t.sbc.deferred = some ⟨1, .linkCheck, []⟩)) = true) := by
  decide +kernel

theorem witness_FixedEntriesBuilt : fsnAfter (.flywheelStart false) ready = some 1 ∧ 2 ≤ ready.stt.entries.length := by
  decide +kernel

/-- Entries 0 and 1 of the standing table as a frame start leaves them, one slot each. -/
def built (s : State) : State :=
  let es := (s.stt.entries.modify 0 (fun e => { e with payload := zeros 16 })).modify 1 (fun e => { e with payload := zeros 6 })
  { s with stt := { s.stt with entries := es } }

/-- Six lines of 200 characters, four of them active with 100: 18 slots at factor 1, 48 at factor 4. Standing entries 2 and 3
have four slots each, and only one of them finds a line. -/
def narrow (s : State) : State :=
  let s := built s
  let e : StandingEntry := ⟨true, 1, 0, 7, zeros 112, 0, none⟩
  { s with
    fmon := { s.fmon with geometry := ⟨25, 200, 100, 6, 4, false, 60000, 0⟩ }
    stt := { s.stt with entries := (s.stt.entries.set 2 e).set 3 e } }

/-- The first two entries of the table are as built leaves them. -/
def plainEntries (s : State) : Bool :=
  (s.stt.entries.take 2).all (fun e => e.pending.isNone && decide (slotsFor e.payload.length = 1))

theorem witness_AnnouncedFactor :
    let s : State := narrow (unheard (inSession .carrying
      { ready with bss := { Bss.reset with announced := some 4, factor := 1, mode := .fixed, hostFactor := 4 } }))
    s.handed = [] ∧ s.bss.announced = some 4 ∧ plainEntries s = true ∧ s.bss.shortfall = false
    ∧ isCandidate s.fmon.geometry 1 = true ∧ isCandidate s.fmon.geometry 4 = true
    ∧ leaves (.flywheelStart true) s (fun t => decide (t.fmon.fsn = 1 ∧ t.bss.factor = 4 ∧ t.ses.session = .quiet)) = true
    ∧ (let r := roomy { s with hif := { s.hif with mask := 0x1FFFE }, bss := { s.bss with announced := some 1 } };
      r.handed = [] ∧ r.listens 11 = true ∧ r.listens 12 = true
      ∧ leaves (.flywheelStart true) { s with bss := { s.bss with announced := some 1 } }
        (fun t => t.bss.plan.any (fun p => !p.skipped.isEmpty)) = true)
    ∧ (let n : State := { s with fmon := { s.fmon with geometry := ⟨25, 2000, 100, 2500, 4, false, 60000, 0⟩ } };
      n.handed = [] ∧ n.bss.announced = some 4 ∧ plainEntries n = true
      ∧ leaves (.flywheelStart true) n (fun t => !isCandidate t.fmon.geometry 4 && decide (t.bss.factor = 2)) = true)
    := by decide +kernel

/-- A decision with FIXED at factor h, and one with AUTO at factor f and the lower-fits count n. -/
def deciding (st : SessionState) (b : Bss) : State := narrow (unheard (inSession st { ready with bss := b }))

theorem witness_CadenceDecisions :
    (let s := deciding .carrying { Bss.reset with mode := .fixed, hostFactor := 2 };
      s.handed = [] ∧ s.bss.announced = none ∧ plainEntries s = true ∧ isCandidate s.fmon.geometry s.bss.factor = true
      ∧ leaves (.flywheelStart true) s (fun t => decide (t.bss.announced = some 2 ∧ t.bss.factor = 1)) = true)
    ∧ (let s := deciding .ready { Bss.reset with mode := .fixed, hostFactor := 2 };
      s.handed = [] ∧ (roomy ready).listens 12 = true
      ∧ leaves (.flywheelStart true) s (fun t => decide (t.bss.announced = none ∧ t.bss.factor = 2)) = true)
    ∧ (∀ n ∈ [0, 14, 15], leaves (.flywheelStart true)
        (deciding .ready { Bss.reset with factor := 2, reserve := 0, lowerFits := n })
        (fun t => decide (t.bss.factor = (if n = 15 then 1 else 2) ∧ t.bss.lowerFits = (if n = 15 then 0 else n + 1))) = true)
    ∧ (leaves (.flywheelStart true) (deciding .carrying { Bss.reset with reserve := 64 })
        (fun t => decide (t.bss.announced = some 4 ∧ t.bss.shortfall = true)) = true
      ∧ (roomy ready).listens 11 = true ∧ Bss.reset.shortfall = false)
    ∧ leaves (.flywheelStart true) (deciding .ready { Bss.reset with reserve := 0 })
        (fun t => t.bss.plan.any (fun p => decide (p.skipped = [3])) && decide (t.bss.shortfall = true)) = true
    ∧ (let s := built (unheard (inSession .carrying { ready with bss := { Bss.reset with factor := 4 } }));
      let s : State := { s with fmon := { s.fmon with geometry := ⟨24, 2720, 2560, 1481, 1440, false, 59951, 0⟩ } };
      s.handed = [] ∧ isCandidate s.fmon.geometry s.bss.factor = false
      ∧ leaves (.flywheelStart true) s (fun t => decide (t.bss.factor = 1 ∧ t.ses.session = .quiet
        ∧ t.ses.quiet.cadence = true)) = true) := by decide +kernel

theorem witness_CapacityOfFrames :
    Geometry.reset.ha ≤ Geometry.reset.ht ∧ Geometry.reset.va ≤ Geometry.reset.vt ∧ 1 ≤ 2
    ∧ fsnAfter (.flywheelStart true) ready = some 1 := by decide +kernel

/-- Audio of two channels flows, with n groups present. -/
def sounding (st : SessionState) (n : Nat) (a : AudioState) : State :=
  let s := unheard (inSession st ready)
  { s with ain := { Ain.reset with
    format := some ⟨2, 48000, 16⟩, audio := a, window := some ⟨0, 0⟩, fifo := List.replicate n [1, 2] } }

theorem witness_FramePlans :
    (placeAt ⟨25, 200, 100, 6, 4, false, 60000, 0⟩ 1 3 4 = some 5
      ∧ onOneLine ⟨25, 200, 100, 6, 4, false, 60000, 0⟩ 1 3 4 = false
      ∧ placeAt ⟨25, 200, 100, 6, 4, false, 60000, 0⟩ 1 7 4 = none)
    ∧ (let s := sounding .carrying 42 .flowing;
      s.ain.pending = none ∧ leaves (.flywheelStart true) s (fun t => decide (t.fmon.fsn = 1 ∧ t.ses.lanes = true
        ∧ t.bss.plan.map (·.audioPackets) = some 10 ∧ t.ain.fifo.length = 2
        ∧ (s.packetsTo t).length = 12)) = true)
    ∧ leaves (.flywheelStart true) (sounding .carrying 32 .filling) (fun t => decide (t.ain.audio = .flowing
        ∧ t.ain.fifo = [])) = true
    ∧ leaves (.flywheelStart true) (sounding .ready 42 .flowing) (fun t => decide (t.ain.audio = .filling
        ∧ t.ain.fifo = [] ∧ t.bss.plan.map (·.audioPackets) = some 0)) = true
    ∧ ready.ain.format = none := by decide +kernel

/-- A SEND with the id i: k slots, its target, its class, and whether it is acknowledged. -/
def sent (i k : Nat) (tgt : Target) (c : PacketClass) (ack : Bool) (deadline : Option Fsn) : Packet :=
  ⟨⟨40 + i, BitVec.ofNat 32 i, 2, 3⟩, tgt, c, ack, deadline, 0x8000, 28 * k, zeros (28 * k), none, 0, none, false, none⟩

def atRoot : Target := .tile 0 root.serial

/-- CARRYING with 18 slots, 10 of them for standing packets, and packets in every class: in URGENT one late, one whose target is
gone and one for the root; in NORMAL one of two slots and one of four; in BULK a broadcast. n packets await. -/
def selecting (starve n : Nat) (walking : Bool) : State :=
  let s := narrow (unheard (inSession .carrying { ready with bss := { Bss.reset with mode := .fixed } }))
  let q : Apq := { Apq.reset with
    urgent := [sent 0 1 atRoot .urgent false (some 0), sent 1 1 (.tile 5 9) .urgent false none, sent 2 1 atRoot .urgent true none]
    normal := [sent 3 2 atRoot .normal true none, sent 4 4 atRoot .normal false none, sent 5 1 atRoot .normal false none]
    bulk := [sent 6 1 .broadcast .bulk false none], starve := starve
    awaiting := (List.range n).map (fun i => { sent (10 + i) 1 atRoot .normal true none with placed := some 0, tag := some 1 }) }
  { s with
    rwk := { s.rwk with walking := walking }, apq := q
    fmon := { s.fmon with fsn := 1 }
    hif := { s.hif with comp := some ⟨0x2000, 64, 0, true, 0⟩, inFlight := (classPackets q).map (·.handle) } }

theorem witness_PacketSelection :
    (let s := selecting 8 0 false;
      s.handed = [] ∧ s.ses.presence = true ∧ s.frameHandles.Nodup ∧ (∀ h ∈ s.frameHandles, h ∈ s.hif.inFlight)
      ∧ writesRecords s.hif = true ∧ s.hif.comp.isSome = true
      ∧ leaves (.flywheelStart true) s (fun t => decide (t.fmon.fsn = 2 ∧ t.apq.urgent = [] ∧ t.apq.bulk = []
        ∧ t.apq.normal.map (·.handle.id) = [44, 45] ∧ t.apq.starve = 0
        ∧ t.bss.plan.map (·.addressed) = some [⟨0, 1⟩, ⟨1, 1⟩, ⟨1, 2⟩]
        ∧ t.apq.awaiting.map (fun p => (p.tag, p.attempts, p.placed)) = [(some 3, 1, some 2), (some 4, 1, some 2)]
        ∧ (entryAt t 0).nextTag = 5)) = true)
    ∧ leaves (.flywheelStart true) (selecting 3 16 false) (fun t => decide (t.apq.urgent.map (·.handle.id) = [42]
        ∧ t.apq.normal.length = 3 ∧ t.apq.bulk = [] ∧ t.apq.starve = 0)) = true
    ∧ leaves (.flywheelStart true) (selecting 3 1 true) (fun t => decide (t.apq.urgent.map (·.handle.id) = [41, 42]
        ∧ t.apq.normal.length = 3 ∧ t.apq.starve = 3 ∧ t.apq.awaiting.map (·.due) = [true])) = true := by decide +kernel

/-- Code 24, whose candidates are 1 and 2, and whose capacities are 6088 and 11848. -/
def wide : Geometry := ⟨24, 2720, 2560, 1481, 1440, false, 59951, 0⟩

theorem witness_NeededFactor :
    isCandidate wide 1 = true ∧ factorLegal Bss.reset.hostFactor
    ∧ neededFactor Bss.reset wide 6088 = 1 ∧ neededFactor Bss.reset wide 6089 = 2
    ∧ neededFactor Bss.reset wide 11849 = 2
    ∧ neededFactor { Bss.reset with mode := .floor, hostFactor := 4 } wide 1 = 2
    ∧ neededFactor { Bss.reset with mode := .fixed, hostFactor := 4 } wide 1 = 2
    ∧ isCandidate wide 4 = false :=
  ⟨by decide, .inl rfl, by decide +kernel, by decide +kernel, by decide +kernel, by decide +kernel,
    by decide +kernel, by decide +kernel⟩

theorem witness_MeasurementsAndFormats :
    ((Machine.formatTable State.reset.fmon)[0]? = some (some ⟨2200, 1920, 1125, 1080, false, 60000⟩)
      ∧ FormatEntry.fits ⟨2200, 1920, 1125, 1080, false, 60000⟩ hd = true)
    ∧ (∀ e ∈ Machine.formatTable State.reset.fmon, ∀ x, e = some x → x.fits { hd with ha := 1919 } = false)
    ∧ ((lockedOn hd .acquiring 1 ready).fmon.reference = some hd ∧ hd.equals hd = true
      ∧ ({ hd with ha := 1919 } : Measurement).equals hd = false)
    ∧ (let s : State := { State.reset with fmon := { State.reset.fmon with monitor := .acquiring } };
      s.fmon.monitor = .acquiring ∧ s.fmon.reference = none) := by
  refine ⟨by decide +kernel, ?_, by decide +kernel, ⟨rfl, rfl⟩⟩
  intro e he x hx
  subst hx
  revert x
  simp [Machine.formatTable, builtInFormats, State.reset, Fmon.reset, FormatEntry.fits, hd]

theorem witness_InputCommands_format :
    (fetching 0).Fetching controlRing ring0 comp0 ∧ (lockedOn hd .locked 3 (fetching 0)).Fetching controlRing ring0 comp0
    ∧ (25 ≤ (25 : Byte).toNat ∧ (32 : Byte).toNat ≤ 32 ∧ 2 ≤ (2 : Half).toNat ∧ (8191 : Half).toNat ≤ 8191
      ∧ 12000 ≤ (12000 : Word).toNat ∧ 2200 * 1125 * 60000 ≤ 300000000 * 1000)
    ∧ (lockedOn hd .locked 3 (fetching 0)).fmon.monitor = .locked
    ∧ (lockedOn { hd with ha := 1919 } .locked 3 (fetching 0)).fmon.reference = some { hd with ha := 1919 } :=
  ⟨fetching_control, ⟨rfl, rfl, rfl, rfl, rfl⟩, by decide, rfl, rfl⟩

/-- A measurement open, an assertion of PX_DE in the present line or none, and the edges of PX_HS seen. -/
def lineState (there : Bool) (edges : Nat) (level : Option Level) : State := { ready with
  fmon := { ready.fmon with
    hEdges := edges, hLevel := level, sinceLine := some 5, measuring := some { openAt 0 with va := 1, lineHa := if there then 2 else 0 } }
  pxp := { Pxp.reset with lineOpen := there, cut := true, source := .input } }

theorem witness_LinesAndRuns :
    (ready.handed = [] ∧ ready.pxp.mode.embedded = false ∧ ready.fmon.hEdges < 2)
    ∧ (2 ≤ (lineState true 2 (some .high)).fmon.hEdges ∧ (lineState true 2 (some .high)).fmon.hLevel ≠ none
      ∧ leaves (.lineStart ⟨.high, [], 0, 0⟩ 5 900) (lineState true 2 (some .high)) (fun t => decide (t.fmon.measuring
        = some { openAt 0 with va := 1, vt := 1, ha := some 2, ht := some 905 })) = true)
    ∧ ((lineState true 2 none).fmon.hLevel = none ∧ Level.high ≠ .low)
    ∧ (leaves (.activeRunEnd ⟨[⟨1, 0⟩, ⟨2, 0⟩, ⟨3, 0⟩], 1, 0⟩) (lineState true 2 (some .high)) (fun t => decide (
        t.fmon.measuring = some { openAt 0 with va := 1, lineHa := 4 } ∧ t.pxp.run = [⟨2, 0⟩, ⟨3, 0⟩]
        ∧ t.pxp.lineCount = 0)) = true)
    ∧ leaves (.activeRunEnd ⟨[⟨1, 0⟩], 0, 0⟩) (lineState false 2 none) (fun t => decide (
        t.fmon.measuring = some { openAt 0 with va := 2, lineHa := 1 } ∧ t.pxp.lineCount = 1 ∧ t.pxp.lineOpen = true)) = true
    ∧ leaves (.lineStart ⟨.high, [], 0, 0⟩ 0 0) (lineState true 1 none) (fun t => decide (
        t.fmon.measuring = some { openAt 0 with va := 1, ha := some 2 } ∧ t.pxp.lineOpen = false)) = true := by
  decide +kernel

/-- Where the active level changes, the length of a line is not a cycle of PX_HS, and R31's difference shows (R30, R31). -/
theorem test_active_level_changes :
    let s := lineState false 2 (some .high)
    leaves (.lineStart ⟨.low, [], 0, 0⟩ 900 5) { s with
      fmon := { s.fmon with sinceLine := some 0, measuring := some { openAt 0 with ht := some 905 } } } (fun t => decide (
        t.fmon.measuring = some { openAt 0 with vt := 1, ht := some 905, differed := true } ∧ t.fmon.prevLine = some 900
        ∧ t.fmon.hLevel = some .low ∧ t.fmon.sinceLine = some 0)) = true := by decide +kernel

/-- PX_DE stays asserted over the leading edge of PX_HS: the run of the line before ends there (R159). -/
theorem test_assertion_over_line_start :
    leaves (.lineStart ⟨.high, [⟨1, 0⟩, ⟨2, 0⟩], 0, 1⟩ 5 900) { lineState false 2 (some .high) with
        pxp := { Pxp.reset with newFrame := true, source := .input }
        fmon := { (lineState false 2 (some .high)).fmon with geometry := hd.geometry } } (fun t => decide (
      t.fmon.measuring = some { openAt 0 with va := 2, vt := 1, ha := some 2, ht := some 905 }
      ∧ t.pxp.lineCount = 1 ∧ t.pxp.lineOpen = false ∧ t.pxp.run = []
      ∧ t.pxp.picture.map List.length = [1])) = true := by decide +kernel

/-- A SET-PIXEL-INPUT in a gap of a line leaves the line the one that it is (R158). -/
theorem test_pixel_input_in_gap :
    leaves (.setPixelInput 1 2 0) { fetching 1 with pxp := { Pxp.reset with lineOpen := true, lineCount := 7 } }
      (fun t => decide (t.pxp.lineOpen = true ∧ t.pxp.lineCount = 7 ∧ t.pxp.cut = true ∧ t.pxp.mode = .c16s)) = true := by
  decide +kernel

/-- An embedded-code input with a measurement open, in an active line whose code was a period ago. -/
def coded (errors : Nat) : State := { ready with
  pxp := { Pxp.reset with mode := .c16e, codeErrors := errors, active := true, pictureMark := true, source := .input }
  fmon := { ready.fmon with
    measuring := some (openAt 0), codeV := some false, sinceLine := some 6, sinceSav := some 0 } }

/-- n periods, three words of a code, and the flag word. -/
def coming (n : Nat) : List Sample := List.replicate n ⟨0x1234, 0⟩ ++ [⟨0xFF80, 0⟩, ⟨0x0080, 0⟩, ⟨0x0080, 0⟩]

theorem witness_TimingCodes :
    (popCount 8 (0x80 ^^^ CodeFlags.pattern ⟨false, false, false⟩) ≤ 1 ∧ decodeFlags 0x83 = none
      ∧ ∀ c ∈ allFlags, 2 ≤ popCount 8 (0x83 ^^^ c.pattern))
    ∧ ((coded 0).handed = [] ∧ (coded 0).pxp.mode.embedded = true ∧ (coded 0).fmon.codeV = some false)
    ∧ (∀ flag ∈ [(0xB6 : BitVec 8), 0x9D, 0x80, 0x83],
      firstCode .c16e (coming 2 ++ [⟨flag.zeroExtend 30 <<< 8, 0⟩]) = ((coming 2).take 2, some (flag.zeroExtend 10)))
    ∧ (decodeFlags (flagByte .c16e 0xB6) = some ⟨false, true, true⟩ ∧ decodeFlags (flagByte .c16e 0x80) = some ⟨false, false, false⟩
      ∧ (coded 3).fmon.measuring = some (openAt 0) ∧ (openAt 0).lineHa = 0 ∧ 3 ≤ (coded 3).pxp.codeErrors
      ∧ (coded 3).pxp.errorReported = false ∧ decodeFlags (flagByte .c16e 0x83) = none
      ∧ ready.fmon.measuring = none)
    ∧ firstCode .c16e [⟨1, 0⟩] = ([⟨1, 0⟩], none)
    ∧ leaves (.timingCode ⟨coming 2, 0, 0⟩ ⟨0xB600, 0⟩) (coded 0) (fun t => decide (t.fmon.boundaryDue = some false
        ∧ t.fmon.measuring = some { openAt 0 with vt := 1, ha := some 2, ht := some 8 } ∧ t.pxp.lineCount = 1
        ∧ t.pxp.picture.map List.length = [2])) = true
    ∧ firstCode .c16e ([⟨0xFF00, 0⟩] ++ [⟨0x0080, 0⟩, ⟨0x0080, 0⟩] ++ [⟨0x8000, 0⟩]) = ([], some 0x80) := by decide +kernel

/-- A flag word of all ones that two words of zeros follow begins a code (R160). -/
theorem test_code_in_flag :
    leaves (.timingCode ⟨coming 2, 0, 0⟩ ⟨0xFF00, 0⟩) (coded 0) (fun t => decide (t.pxp.lastFlag = some ⟨0xFF00, 0⟩
        ∧ t.pxp.codeErrors = 1 ∧ t.fmon.sinceSav = some 5)) = true
    ∧ leaves (.timingCode ⟨[⟨0x0080, 0⟩, ⟨0x0080, 0⟩], 0, 0⟩ ⟨0xB600, 0⟩) { coded 0 with
        pxp := { (coded 0).pxp with lastFlag := some ⟨0xFF00, 0⟩ } } (fun t => decide (
        t.fmon.codeV = some true ∧ t.pxp.lineCount = 1 ∧ t.pxp.picture.map List.length = [0])) = true := by decide +kernel

/-- Words from before a SET-PIXEL-INPUT make no code, and words from before a frame start are no pixels (R158, R159). -/
theorem test_code_cut :
    leaves (.timingCode ⟨coming 2, 3, 0⟩ ⟨0xB600, 0⟩) { coded 0 with pxp := { (coded 0).pxp with cut := true } }
      (fun t => decide (t.fmon.codeV = some false ∧ t.pxp.cut = false)) = true
    ∧ leaves (.timingCode ⟨coming 2, 0, 1⟩ ⟨0xB600, 0⟩) { coded 0 with pxp := { (coded 0).pxp with newFrame := true } }
      (fun t => decide (t.fmon.codeV = some true ∧ t.pxp.picture.map List.length = [1])) = true := by decide +kernel

theorem witness_ColourPath : (1023 : Nat) ≤ 1023 ∧ (0 : Nat) ≤ 1023 := by decide

theorem witness_InputCommands_pixel :
    (fetching 1).Fetching streamRing ring0 comp0 ∧ modeOf 5 = some .d12s ∧ modeOf 6 = none
    ∧ methodOf 1 = some .average ∧ methodOf 2 = none ∧ (fetching 1).fmon.monitor = .noSignal
    ∧ (lockedOn hd .locked 3 (fetching 1)).Fetching streamRing ring0 comp0
    ∧ (lockedOn hd .locked 3 (fetching 1)).fmon.monitor ≠ .noSignal :=
  ⟨fetching_stream, rfl, rfl, rfl, rfl, rfl, ⟨rfl, rfl, rfl, rfl, rfl⟩, by decide⟩

theorem witness_PendingRecords :
    (fetching 1).Fetching streamRing ring0 comp0
    ∧ (cadenceModeOf 2 = some .fixed ∧ cadenceModeOf 3 = none ∧ (64 : Byte).toNat ≤ 64 ∧ 64 < (65 : Byte).toNat)
    ∧ (audioFormatOf 2 16 48000 = some (some ⟨2, 48000, 16⟩) ∧ audioFormatOf 0 0 0 = some none
      ∧ audioFormatOf 3 16 48000 = none)
    ∧ (rangeOf 1 = some .narrow ∧ rangeOf 2 = none ∧ (0xF800 : Half).toInt = -2048 ∧ (2047 : Half).toInt = 2047
      ∧ (0xF7FF : Half).toInt < -2048 ∧ 2047 < (2048 : Half).toInt)
    ∧ ((1023 : Half).toNat ≤ 1023 ∧ 1023 < (1024 : Half).toNat)
    ∧ ((fetching 1).bss.pending = none ∧ (fetching 1).ain.pending = none ∧ (fetching 1).pxp.pendingTransform = none
      ∧ (fetching 1).pxp.pendingFill = none)
    ∧ (({ fetching 1 with bss := { Bss.reset with pending := some ⟨.auto, 1, 8, cmd0⟩ } } : State).Fetching
        streamRing ring0 comp0 ∧ cmd0 ∈ (fetching 1).hif.inFlight) :=
  ⟨fetching_stream, by decide, by decide, by decide, by decide, by decide, ⟨rfl, rfl, rfl, rfl, rfl⟩, by decide⟩

/-! ### Witnesses: the sideband, the roster, descriptors -/

/-- A transaction in flight, at an attempt, for a requester. -/
def flying (r : Requester) (q : Request) (attempt : Nat) (s : State) : State := { s with sbc := { Sbc.reset with
  channel := .attempt, inFlight := some ⟨r, q, 5, attempt, none, false⟩, nextSeq := 6, respTimer := some 100 } }

def checkRoot : Request := ⟨1, .linkCheck, []⟩
def transaction (r : Requester) (q : Request) (attempt : Nat) : Transaction := ⟨r, q, 5, attempt, none, false⟩

theorem witness_SidebandGrants :
    (ready.handed = [] ∧ ready.sbc.channel = .free ∧ ready.rwk.walking = false
      ∧ (flying .lc checkRoot 1 ready).sbc.channel ≠ .free)
    ∧ (requestOf { Sbc.reset with lcReq := some checkRoot } .lc = some checkRoot ∧ checkRoot.kind ≠ .releaseAll)
    ∧ (let b : Sbc := { Sbc.reset with drReq := some ⟨1, .readBlock, [0]⟩, aging := 8 };
      b.drReq.isSome = true ∧ 8 ≤ b.aging ∧ ({ b with aging := 7 } : Sbc).aging < 8)
    ∧ ((withWalk ready).rwk.walking = true ∧ (withWalk ready).sbc.wkReq = none) := by decide

/-- The frame with which a tile answers the transaction in flight. -/
def answers (s : State) (ack : Bool) (data : List Byte) : Instr :=
  .sidebandFrameReceived (match s.sbc.inFlight with
    | some x => responseFrame (responseSource x.request) x.seq ack data
    | none => [0])

theorem witness_SidebandFrames :
    (let s := flying .lc checkRoot 2 ready;
      s.handed = [] ∧ s.sbc.channel = .attempt ∧ s.sbc.inFlight = some (transaction .lc checkRoot 2)
      ∧ checkRoot.kind ≠ .releaseAll ∧ s.sbc.lateFrame = false ∧ s.sbc.respTimer = some 100)
    ∧ judgeFrame (transaction .lc checkRoot 2) [0] = .bad
    ∧ judgeFrame (transaction .lc checkRoot 2) (responseFrame 1 6 true (zeros 5)) = .discard
    ∧ (transaction .lc checkRoot 2).attempt < 3
    ∧ (zeros 5).length = (if true then ackLength (transaction .lc checkRoot 1).request.kind else 0)
    ∧ (responseFrame 1 5 true (zeros 5))[0]? = some 1 := by decide +kernel

/-- s, its transaction's frame arriving when the response timer reached 2 ms. -/
def late (s : State) : State := { s with now := 60000, sbc := { s.sbc with lateFrame := true } }

theorem witness_SidebandFrames_late :
    let s := late (flying .lc checkRoot 2 ready)
    (s.handed = [] ∧ s.sbc.channel = .attempt ∧ s.sbc.inFlight = some (transaction .lc checkRoot 2)
      ∧ s.sbc.respTimer = some 100 ∧ 100 + 54000 ≤ s.now ∧ s.sbc.lateFrame = true)
    ∧ judgeFrame (transaction .lc checkRoot 2) (responseFrame 1 5 true (zeros 5)) = .accept true (zeros 5)
    ∧ leaves (answers s true (zeros 5)) s (fun t => decide (t.sbc.inFlight = none ∧ t.sbc.lateFrame = false)) = true
    ∧ leaves (.sidebandFrameReceived (responseFrame 1 6 true (zeros 5))) s (fun t => decide (
      t.sbc.inFlight = some ⟨.lc, checkRoot, 5, 3, some .noResponse, false⟩)) = true := by decide +kernel

/-- CARRYING with a LINK-CHECK of the root in flight, the root's miss count m. -/
def checking (m attempt : Nat) (train : Bool) : State :=
  let s := inSession (if train then .training else .carrying) ready
  flying .lc checkRoot attempt { s with
    ses := { s.ses with linkCheck := some ⟨0, root.serial, 8, train, false⟩ }
    rwk := { s.rwk with roster := { root with miss := m } :: List.replicate 63 Entry.vacant } }

/-- The root of a check has the miss count after it, and the session is st. -/
def checked (i : Instr) (s : State) (miss : Nat) (st : SessionState) : Bool :=
  leaves i (unheard s) (fun t => decide ((entryAt t 0).miss = miss ∧ t.ses.session = st ∧ t.ses.linkCheck = none))

theorem witness_LinkChecks :
    (∀ m ∈ [0, 1, 2, 3], ∀ a ∈ [1, 3], let s := checking m a false;
      s.handed = [] ∧ s.sbc.channel = .attempt ∧ s.sbc.inFlight = some (transaction .lc checkRoot a)
      ∧ s.sbc.lateFrame = false ∧ s.ses.linkCheck = some ⟨0, root.serial, 8, false, false⟩ ∧ s.rwk.walking = false
      ∧ s.ses.session = .carrying ∧ (entryAt s 0).state = .active ∧ (entryAt s 0).serial = root.serial
      ∧ (entryAt s 0).miss = m ∧ s.sbc.respTimer = some 100)
    ∧ (∀ m a b, (checking m a b).sbc.idleRequests)
    ∧ (checked (answers (checking 1 1 false) true [0, 0, 0, 6, 1]) (checking 1 1 false) 0 .carrying
      ∧ checked (answers (checking 1 1 false) true [0, 0, 0, 5, 1]) (checking 1 1 false) 2 .carrying
      ∧ checked (answers (checking 2 1 false) false []) (checking 2 1 false) 3 .faulted
      ∧ checked (.attemptTimeout false) (checking 1 3 false) 2 .carrying
      ∧ checked (.sidebandFrameReceived [0]) (checking 1 3 false) 2 .carrying
      ∧ checked (.attemptTimeout false) (checking 3 3 false) 3 .carrying
      ∧ checked (.attemptTimeout false) (withRoot .lost (checking 1 3 false)) 0 .carrying
      ∧ checked (answers (checking 1 1 true) false []) (checking 1 1 true) 1 .training)
    ∧ leaves (answers (checking 0 1 true) true [0, 0, 0, 0, 1]) (checking 0 1 true)
      (fun t => decide (t.ses.lockSeen = true)) = true
    ∧ (checking 2 1 false).lanesAgree := by
  refine ⟨by decide +kernel, fun _ _ b => by cases b <;> exact ⟨rfl, rfl, rfl, rfl, rfl, rfl⟩, by decide +kernel, by decide +kernel, rfl⟩

/-- s during a walk, with a request of the walker waiting or none. -/
def walkWaits (q : Option Request) (s : State) : State :=
  { s with rwk := { s.rwk with walking := true }, sbc := { s.sbc with wkReq := q } }

theorem witness_LinkChecks_walk :
    let s := walkWaits (some ⟨1, .verify, []⟩) (checking 2 1 false)
    (s.rwk.walking = true ∧ s.sbc.deferred = none ∧ s.ses.session ≠ .training ∧ s.ses.linkCheck.isSome = true)
    ∧ checked (answers s true (zeros 5)) s 2 .carrying ∧ checked (answers s false []) s 2 .carrying
    ∧ leaves (answers s false []) s (fun t => decide (t.sbc.inFlight.map (·.requester) = some .wk)) = true := by
  decide +kernel

/-- A GET-NOTICE for index 0 in flight, indices 0 and 2 ACTIVE. -/
def polling (orphan attn found : Bool) (second : EntryState) : State :=
  let s := flying .ap ⟨1, .getNotice, []⟩ 3 (unheard ready)
  { s with
    pins := { s.pins with attn := attn }
    rwk := { s.rwk with roster := [root, Entry.vacant, { root with state := second }] ++ List.replicate 61 Entry.vacant }
    sbc := { s.sbc with
      inFlight := some ⟨.ap, ⟨1, .getNotice, []⟩, 5, 3, none, orphan⟩, noticeFound := found
      poll := if orphan then .idle else .round } }

theorem witness_AttentionPoll :
    (ready.handed = [] ∧ ready.pins.attn = false ∧ ready.sbc.poll = .idle ∧ ready.ses.presence = true
      ∧ ready.rwk.walking = false ∧ activeIndices ready = [0] ∧ activeIndices (withRoot .denied ready) = [])
    ∧ (let s : State := { ready with sbc := { Sbc.reset with poll := .round, apReq := some ⟨1, .getNotice, []⟩ } };
      s.sbc.poll = .round ∧ s.sbc.apReq.isSome = true)
    ∧ (let s : State := { ready with sbc := { Sbc.reset with poll := .holdoff, holdoff := some 4 } };
      s.sbc.poll = .holdoff ∧ s.sbc.holdoff = some 4 ∧ s.pins.attn = false
      ∧ leaves .holdoffExpiry { s with pins := { s.pins with attn := true } } (fun t => decide (
        t.sbc.poll = .round ∧ t.sbc.apReq = some ⟨1, .getNotice, []⟩ ∧ t.sbc.holdoff = none)) = true)
    ∧ (∀ o a f e, (polling o a f e).sbc.idleRequests)
    ∧ (let s := polling false true false .active;
      s.sbc.lateFrame = false ∧ s.rwk.walking = false ∧ s.ses.presence = true ∧ s.sbc.channel = .attempt
      ∧ leaves (answers s true [0, 0]) s (fun t => decide (t.sbc.inFlight.map (·.request.dest) = some 3
        ∧ t.sbc.poll = .round ∧ t.sbc.noticeFound = false)) = true
      ∧ leaves (answers s true [2, 7]) s (fun t => decide (t.sbc.inFlight.map (·.request.dest) = some 3
        ∧ t.sbc.noticeFound = true)) = true
      ∧ leaves (answers s true [1, 0]) s (fun t => decide (t.rwk.walking = true ∧ t.sbc.poll = .idle)) = true
      ∧ s.ses.autoRefresh = true)
    ∧ (leaves (answers (polling false true true .lost) true [0, 0]) (polling false true true .lost) (fun t => decide (
        t.sbc.inFlight.map (·.request.dest) = some 1 ∧ t.sbc.noticeFound = false)) = true
      ∧ leaves (answers (polling false true false .lost) false []) (polling false true false .lost)
        (fun t => decide (t.sbc.poll = .holdoff)) = true
      ∧ leaves (.sidebandFrameReceived [0]) (polling false false false .active)
        (fun t => decide (t.sbc.poll = .idle ∧ t.sbc.pollCursor = some 0)) = true
      ∧ (polling false false false .active).sbc.respTimer.isSome = true
      ∧ leaves (answers (polling true true false .active) true [2, 7]) (polling true true false .active)
        (fun t => decide (t.sbc.inFlight = none ∧ t.sbc.noticeFound = true ∧ t.sbc.pollCursor = some 0)) = true)
    ∧ ((roomy ready).listens 8 = true ∧ (roomy ready).listens 6 = true) := by
  refine ⟨by decide +kernel, by decide +kernel, by decide +kernel, fun _ _ _ _ => ⟨rfl, rfl, rfl, rfl, rfl, rfl⟩, by decide +kernel,
    by decide +kernel, by decide +kernel⟩

theorem witness_AttentionPoll_walk :
    let s := walkWaits (some ⟨1, .verify, []⟩) (polling true true false .active)
    (s.rwk.walking = true ∧ s.sbc.deferred = none
      ∧ s.sbc.inFlight = some ⟨.ap, ⟨1, .getNotice, []⟩, 5, 3, none, true⟩)
    ∧ leaves (answers s true [1, 7]) s (fun t => decide (t.sbc.noticeFound = true ∧ t.sbc.pollCursor = some 0
      ∧ t.sbc.inFlight.map (·.requester) = some .wk)) = true
    ∧ leaves (.attemptTimeout false) s (fun t => decide (t.sbc.noticeFound = false ∧ t.sbc.pollCursor = some 0)) = true := by
  decide +kernel

theorem witness_EnumerateStarts :
    (fetching 0).Fetching controlRing ring0 comp0 ∧ 2 ≤ (2 : Byte).toNat
    ∧ ((fetching 0).ses.session = .ready ∧ (fetching 0).rwk.walking = false
      ∧ (withWalk (fetching 0)).rwk.walking = true ∧ (entryAt (fetching 0) 0).state ≠ .vacant
      ∧ (entryAt (withRoot .vacant (fetching 0)) 0).state = .vacant)
    ∧ (flightIs .wk (flying .wk ⟨0x7F, .probe, []⟩ 1 (fetching 0)) = true ∧ flightIs .wk (fetching 0) = false)
    ∧ (inSession .faulted (fetching 0)).Fetching controlRing ring0 comp0
    ∧ (withWalk (fetching 0)).Fetching controlRing ring0 comp0 :=
  ⟨fetching_control, by decide, by decide +kernel, by decide, fetching_session _, ⟨rfl, rfl, rfl, rfl, rfl⟩⟩

/-- A walk of a kind that waits for a transaction in flight. -/
def walkAt (k : WalkKind) (st : SessionState) (w : WalkWait) (q : Request) (attempt : Nat) (stack : List (Nat × Nat))
    (r : List Entry) (deny : List Serial) : State :=
  let s := unheard (flying .wk q attempt (inSession st ready))
  { s with rwk := { Rwk.reset with
    walking := true, kind := k, wait := some w, stack := stack, roster := r, denyList := deny, generation := 7 } }

theorem walker_waits (k : WalkKind) (st : SessionState) (w : WalkWait) (q : Request) (attempt : Nat)
    (stack : List (Nat × Nat)) (r : List Entry) (deny : List Serial) :
    (walkAt k st w q attempt stack r deny).WalkerWaits (transaction .wk q attempt) :=
  ⟨rfl, rfl, rfl, rfl, rfl, rfl⟩

def rosterOf (es : List Entry) : List Entry := es ++ List.replicate (64 - es.length) Entry.vacant
/-- A tile below port p of tile t. -/
def kid (st : EntryState) (sn : Serial) (t p ports : Nat) : Entry :=
  ⟨st, sn, some t, p, 2, ports, 0, 5, 0, false, 0, 3, false⟩

def probeReq : Request := ⟨0x7F, .probe, []⟩
def assignReq (i : Byte) (sn : Serial) : Request := ⟨0x7F, .assign, i :: beBytes 6 sn.toNat⟩
def verifyReq (a : Byte) : Request := ⟨a, .verify, []⟩
def closeReq (a p : Byte) : Request := ⟨a, .close, [p]⟩
def blankReq (a on : Byte) : Request := ⟨a, .blank, [on]⟩
def verifyData (sn : Serial) (mask : Byte) : List Byte := beBytes 6 sn.toNat ++ [mask, 0, 5]
def probeData (sn : Serial) (ports present : Byte) : List Byte := beBytes 6 sn.toNat ++ [ports, present, 0, 5]

/-- The tile's answer to the walk's request takes s to a state with this request in flight and these states of the first
entries. -/
def goes (s : State) (ack : Bool) (data : List Byte) (q : Request) (states : List EntryState) : Bool :=
  leaves (answers s ack data) s (fun t => decide (t.sbc.inFlight.map (·.request) = some q
    ∧ (t.rwk.roster.take states.length).map (·.state) = states))

/-- The tile's answer ends the walk, with these states of the first entries. -/
def stops (s : State) (ack : Bool) (data : List Byte) (st : SessionState) (states : List EntryState) : Bool :=
  leaves (answers s ack data) s (fun t => decide (t.rwk.walking = false ∧ t.ses.session = st
    ∧ t.rwk.generation = 8 ∧ (t.rwk.roster.take states.length).map (·.state) = states))

theorem witness_WalkSteps :
    (let s := walkAt .full .walking .rootProbe probeReq 3 [] (rosterOf []) [];
      s.sbc.channel = .attempt ∧ s.sbc.respTimer = some 100 ∧ s.sbc.lateFrame = false
      ∧ s.rwk.kind = .full ∧ (entryAt s 0).isHeld = false
      ∧ goes s true (probeData 9 0 0) (assignReq 1 9) [.vacant] = true
      ∧ leaves (.attemptTimeout false) s (fun t => decide (t.ses.session = .waiting)) = true)
    ∧ (let s : State := { walkAt .full .walking .release ⟨0, .releaseAll, []⟩ 1 [] (rosterOf []) [] with
        sbc := { Sbc.reset with
          channel := .releaseQuiet, inFlight := some (transaction .wk ⟨0, .releaseAll, []⟩ 1), quietTimer := some 3 } };
      s.sbc.channel = .releaseQuiet ∧ s.sbc.quietTimer = some 3 ∧ s.rwk.wait = some .release)
    ∧ (let p : Probe := ⟨9, 0, 0, 4⟩
      let s := walkAt .full .walking (.rootAssign p) (assignReq 1 9) 1 [] (List.replicate 64 Entry.vacant) [];
      p.ports = 0 ∧ p.serial ∉ s.rwk.denyList ∧ s.rwk.depthMark = false ∧ s.rwk.countMark = false
      ∧ stops s true [] .ready [.active, .vacant] = true)
    ∧ (let s := walkAt .full .walking .close (closeReq 1 0) 1 [(0, 0)] roster0 [];
      0 < (entryAt s 0).ports ∧ (entryAt s 0).present.getLsbD 0 = true ∧ (entryAt s 0).depth < 7
      ∧ goes s true [] ⟨1, .open_, [0]⟩ [.active] = true)
    ∧ goes (walkAt .full .walking (.openPort none) ⟨1, .open_, [0]⟩ 1 [(0, 0)] roster0 []) true [] probeReq [.active] = true
    ∧ goes (walkAt .refresh .ready (.openPort (some 1)) ⟨1, .open_, [0]⟩ 1 [(0, 0)] roster0 []) true [] (verifyReq 2)
      [.active] = true
    ∧ goes (walkAt .full .walking (.openPort none) ⟨2, .open_, [0]⟩ 1 [(1, 0), (0, 0)]
      (rosterOf [root, kid .active 7 0 0 1]) []) false [] (closeReq 1 0) [.active, .active] = true := by decide +kernel

/-- A root admitted with ports: port 0 is connected, or only port 1 is, or none (R67, R68). -/
theorem witness_WalkSteps_root :
    (∀ m ∈ [(1 : Byte), 3], goes (walkAt .full .walking (.rootAssign ⟨9, 2, m, 4⟩) (assignReq 1 9) 1 []
      (List.replicate 64 Entry.vacant) []) true [] ⟨1, .open_, [0]⟩ [.active] = true)
    ∧ goes (walkAt .full .walking (.rootAssign ⟨9, 2, 2, 4⟩) (assignReq 1 9) 1 [] (List.replicate 64 Entry.vacant) []) true []
      ⟨1, .open_, [1]⟩ [.active] = true
    ∧ stops (walkAt .full .walking (.rootAssign ⟨9, 2, 0, 4⟩) (assignReq 1 9) 1 [] (List.replicate 64 Entry.vacant) []) true []
      .ready [.active] = true := by decide +kernel

/-- Failures at the root and of OPEN and CLOSE (R67, R68). -/
theorem witness_WalkSteps_fails :
    (∀ k ∈ [WalkKind.full, .refresh], let st := if k = .full then SessionState.walking else .faulted;
      let after := if k = .full then SessionState.waiting else .faulted;
      stops (walkAt k st .rootProbe probeReq 1 [] (rosterOf []) []) false [] after [.vacant] = true
      ∧ leaves (.sidebandFrameReceived [0]) (walkAt k st .rootProbe probeReq 3 [] (rosterOf []) []) (fun t => decide (
        t.rwk.walking = false ∧ t.ses.session = after)) = true
      ∧ leaves (.attemptTimeout false) (walkAt k st (.rootAssign ⟨9, 2, 1, 4⟩) (assignReq 1 9) 3 [] (rosterOf []) []) (fun t =>
        decide (t.rwk.lastWalk = some ⟨k, t.rwk.starter, .noRoot, 1, 8⟩)) = true)
    ∧ leaves (.attemptTimeout false) (walkAt .full .walking (.openPort none) ⟨1, .open_, [0]⟩ 3 [(0, 0)]
        (rosterOf [{ root with present := 3 }]) []) (fun t => decide (t.rwk.warnings = 1
        ∧ t.sbc.inFlight.map (·.request) = some ⟨1, .open_, [1]⟩)) = true
    ∧ goes (walkAt .full .walking .close (closeReq 1 0) 1 [(0, 1)] (rosterOf [{ root with present := 3 }]) []) false []
      ⟨1, .open_, [1]⟩ [.active] = true
    ∧ leaves (.sidebandFrameReceived (responseFrame 1 6 true [])) (late (walkAt .full .walking .close (closeReq 1 0) 3 [(0, 1)]
        (rosterOf [{ root with present := 3 }]) [])) (fun t => decide (
        t.sbc.inFlight.map (·.request) = some ⟨1, .open_, [1]⟩)) = true := by decide +kernel

/-- The end of a walk that w has started, with two tiles. -/
def endingWalk (w : WalkStarter) : State :=
  let s := walkAt .refresh .ready .close (closeReq 1 1) 1 [(0, 2)] (rosterOf [root, kid .denied 7 0 0 0]) []
  { s with rwk := { s.rwk with starter := w, enumerate := if w = .enumerate then some cmd0 else none } }

theorem witness_WalkSteps_end :
    (∀ w ∈ [WalkStarter.enumerate, .apply], classPackets (endingWalk w).apq = [] ∧ (endingWalk w).apq.awaiting = []
      ∧ (endingWalk w).dcr.held = none ∧ (entryAt (endingWalk w) 0).ports ≤ 2
      ∧ stops (endingWalk w) true [] .ready [.active, .denied] = true)
    ∧ (endingWalk .enumerate).canComplete cmd0 ∧ (roomy ready).listens 7 = true :=
  ⟨by decide +kernel, ⟨rfl, rfl, by decide⟩, rfl⟩

theorem witness_RefreshWalks_root :
    (let s := walkAt .refresh .ready .rootVerify (verifyReq 1) 1 [] (rosterOf [root, kid .lost 7 0 0 0, kid .denied 8 0 0 0]) [];
      knownChild 0 0 s = some 2
      ∧ goes s false [] probeReq [.lost, .lost, .lost] = true
      ∧ goes s true (verifyData 1 1) probeReq [.lost, .lost, .lost] = true
      ∧ goes s true (verifyData root.serial 1) ⟨1, .open_, [0]⟩ [.active, .lost, .denied] = true)
    ∧ (let s := walkAt .refresh .carrying .rootVerify (verifyReq 1) 3 [] roster0 [];
      (entryAt s 0).isHeld = true ∧ s.sbc.lateFrame = false ∧ s.sbc.respTimer = some 100
      ∧ leaves (.attemptTimeout false) s (fun t => decide (t.ses.session = .faulted ∧ (entryAt t 0).state = .lost)) = true)
    ∧ stops (walkAt .refresh .ready .rootVerify (verifyReq 1) 1 [] (rosterOf [{ root with ports := 0 }]) []) true
      (verifyData root.serial 0) .ready [.active] = true
    ∧ (∀ st ∈ [EntryState.lost, .denied], goes (walkAt .refresh .ready .rootVerify (verifyReq 1) 1 []
      (rosterOf [{ root with state := st }]) []) true (verifyData root.serial 1) (blankReq 1 0) [.active] = true)
    ∧ stops (walkAt .refresh .ready .rootVerify (verifyReq 1) 1 [] (rosterOf [{ root with state := .denied }]) [root.serial])
      true (verifyData root.serial 1) .ready [.denied] = true
    ∧ goes (walkAt .refresh .ready .rootVerify (verifyReq 1) 1 [] (rosterOf [root, kid .active 7 0 0 0]) [root.serial]) true
      (verifyData root.serial 1) (blankReq 1 1) [.denied, .lost] = true
    ∧ (let s := walkAt .refresh .carrying .rootVerify (verifyReq 1) 1 [] roster0 [root.serial];
      leaves (answers s true (verifyData root.serial 1)) s (fun t => decide (t.ses.session = .faulted
        ∧ (entryAt t 0).state = .denied)) = true ∧ (roomy ready).listens 3 = true) := by decide +kernel

/-- A refresh walk that waits for VERIFY of entry 1, which has a child of its own, in the state st. -/
def verifying (st : EntryState) (deny : List Serial) : State :=
  walkAt .refresh .ready (.childVerify 1) (verifyReq 2) 3 [(0, 0)] (rosterOf [root, kid st 7 0 0 0, kid .active 8 1 0 0]) deny

theorem witness_RefreshWalks_child :
    (goes (verifying .active []) false [] probeReq [.active, .lost, .lost] = true
      ∧ goes (verifying .active []) true (verifyData 6 0) probeReq [.active, .lost, .lost] = true
      ∧ leaves (.attemptTimeout false) (verifying .active []) (fun t => decide ((entryAt t 1).state = .lost)) = true)
    ∧ goes (verifying .active []) true (verifyData 7 0) (closeReq 1 0) [.active, .active, .active] = true
    ∧ (let s := walkAt .refresh .ready (.childVerify 1) (verifyReq 2) 1 [(0, 0)]
        (rosterOf [root, kid .active 7 0 0 2, kid .active 8 1 0 0]) [];
      goes s true (verifyData 7 1) ⟨2, .open_, [0]⟩ [.active, .active, .active] = true
      ∧ goes s true (verifyData 7 2) ⟨2, .open_, [1]⟩ [.active, .active, .lost] = true)
    ∧ (∀ st ∈ [EntryState.lost, .denied],
      goes (verifying st []) true (verifyData 7 0) (blankReq 2 0) [.active, .active, .active] = true)
    ∧ goes (verifying .denied [7]) true (verifyData 7 0) (closeReq 1 0) [.active, .denied, .active] = true
    ∧ (∀ st ∈ [EntryState.active, .lost],
      goes (verifying st [7]) true (verifyData 7 0) (blankReq 2 1) [.active, .denied, .lost] = true)
    ∧ goes (walkAt .refresh .ready .close (closeReq 2 0) 1 [(1, 0), (0, 0)]
      (rosterOf [root, kid .active 7 0 0 1, kid .active 8 1 0 0]) []) true [] (closeReq 1 0) [.active, .active, .lost] = true := by
  decide +kernel

/-- A walk with 64 entries that are not VACANT, entries 3 and 5 LOST for 2 and 4 generations. -/
def crowded (k : WalkKind) : State :=
  walkAt k (if k = .full then .walking else .ready) .portProbe probeReq 1 [(1, 0), (0, 0)]
    (((List.replicate 64 (kid .active 0x55 0 0 0)).set 3 { kid .lost 0x56 0 0 0 with lostGen := 5 }).set 5
      { kid .lost 0x57 0 0 0 with lostGen := 3 }) []

theorem witness_WalkAdmissions_probe :
    (let s := walkAt .full .walking .portProbe probeReq 1 [(0, 0)] (rosterOf [root, { kid .active 7 0 1 0 with verified := true }]) [];
      s.rwk.roster.length = 64 ∧ goes s true (probeData 7 0 0) (closeReq 1 0) [.active, .active] = true
      ∧ goes s true (probeData 8 0 0) (assignReq 3 8) [.active, .active] = true)
    ∧ goes (walkAt .refresh .ready .portProbe probeReq 1 [(0, 0)] (rosterOf [root, kid .lost 7 0 1 0]) []) true
      (probeData 7 0 0) (assignReq 2 7) [.active, .lost] = true
    ∧ goes (crowded .refresh) true (probeData 9 0 0) (assignReq 6 9) [.active] = true
    ∧ goes (crowded .full) true (probeData 9 0 0) (closeReq 2 0) [.active] = true
    ∧ goes (walkAt .full .walking (.limitClose [(0, 0)]) (closeReq 2 0) 1 [] roster0 []) true [] (closeReq 1 0) [.active] = true
    ∧ (let s := walkAt .refresh .ready (.limitClose []) (closeReq 1 0) 1 [] roster0 [];
      stops { s with rwk := { s.rwk with countMark := true } } true [] .ready [.active] = true)
    ∧ goes (walkAt .full .walking .close (closeReq 3 0) 1 [(1, 0), (0, 0)]
      (rosterOf [root, { kid .active 7 0 0 1 with present := 1, depth := 7 }]) []) true [] (closeReq 1 0) [.active] = true := by
  decide +kernel

/-- A walk that has sent ASSIGN to a tile behind port 0 of the root, for entry 1 in the state st. -/
def admitting (st : EntryState) (reuse : Bool) (deny : List Serial) : State :=
  walkAt .refresh .ready (.portAssign 1 reuse ⟨7, 0, 0, 4⟩) (assignReq 2 7) 1 [(0, 0)]
    (rosterOf [root, if st = .vacant then Entry.vacant else kid st (if reuse then 7 else 6) 0 1 0]) deny

theorem witness_WalkAdmissions_assign :
    goes (admitting .active true []) true [] (closeReq 1 0) [.active, .active] = true
    ∧ (∀ st ∈ [EntryState.lost, .denied], goes (admitting st true []) true [] (blankReq 2 0) [.active, .active] = true)
    ∧ (∀ st ∈ [EntryState.vacant, .lost],
      goes (admitting st false []) true [] (closeReq 1 0) [.active, .active] = true)
    ∧ goes (admitting .vacant false [7]) true [] (blankReq 2 1) [.active, .denied] = true
    ∧ goes (admitting .vacant false []) false [] (closeReq 1 0) [.active, .vacant] = true
    ∧ goes (walkAt .full .walking .portProbe probeReq 1 [(0, 0)] roster0 []) false [] (closeReq 1 0) [.active] = true
    ∧ (∀ ack, goes (walkAt .full .walking (.blank 1 false) (blankReq 2 1) 1 [(0, 0)] (rosterOf [root, kid .denied 7 0 0 0]) [])
      ack [] (closeReq 1 0) [.active, .denied] = true)
    ∧ stops (walkAt .full .walking (.blank 0 true) (blankReq 1 1) 1 [] (rosterOf [{ root with state := .denied }]) []) true []
      .ready [.denied] = true
    ∧ goes (walkAt .full .walking (.rootAssign ⟨7, 0, 0, 4⟩) (assignReq 1 7) 1 [] (List.replicate 64 Entry.vacant) [7]) true []
      (blankReq 1 1) [.denied] = true
    ∧ goes (walkAt .refresh .ready (.rootAssign ⟨7, 1, 1, 4⟩) (assignReq 1 7) 1 []
      (rosterOf [Entry.vacant, kid .active 7 3 0 0, kid .active 8 1 0 0]) []) true [] ⟨1, .open_, [0]⟩
      [.active, .vacant, .lost] = true := by decide +kernel

/-- A tile with ports below the root, admitted, reused, or unblanked, is explored at its depth; what fails is a warning. -/
theorem witness_WalkAdmissions_descent :
    (∀ c ∈ [(true, EntryState.active), (false, .vacant), (false, .lost)],
      goes (walkAt .refresh .ready (.portAssign 1 c.1 ⟨7, 1, 1, 4⟩) (assignReq 2 7) 1 [(0, 0)]
        (rosterOf [root, if c.2 = .vacant then Entry.vacant else kid c.2 (if c.1 then 7 else 6) 0 1 0]) []) true []
        ⟨2, .open_, [0]⟩ [.active, .active] = true)
    ∧ (∀ ack, goes (walkAt .refresh .ready (.blank 1 false) (blankReq 2 0) 1 [(0, 0)]
      (rosterOf [root, { kid .active 7 0 0 1 with present := 1 }]) []) ack [] ⟨2, .open_, [0]⟩ [.active, .active] = true)
    ∧ (∀ w, w ∈ [(WalkWait.portProbe, probeReq), (.portAssign 1 false ⟨7, 1, 1, 4⟩, assignReq 2 7)] →
      (∀ i ∈ [Instr.attemptTimeout false, .sidebandFrameReceived [0]],
        leaves i (walkAt .full .walking w.1 w.2 3 [(0, 0)] roster0 []) (fun t => decide (t.rwk.warnings = 1
          ∧ t.sbc.inFlight.map (·.request) = some (closeReq 1 0) ∧ t.rwk.stack = [(0, 1)])) = true))
    ∧ goes (admitting .denied true [7]) true [] (closeReq 1 0) [.active, .denied] = true
    ∧ (∀ st ∈ [EntryState.active, .lost], goes (admitting st true [7]) true [] (blankReq 2 1) [.active, .denied] = true) := by
  decide +kernel

/-- A deny list of one serial to be read, for the command in flight. -/
def denyWork0 (apply : Bool) : DenyWork := ⟨cmd0, 1, apply, 0x5000⟩

theorem witness_RosterCommands :
    (ready.rwk.roster.length = 64) ∧ (fetching 0).Fetching controlRing ring0 comp0
    ∧ ((2111 : Word).toNat < 2112 ∧ 2112 ≤ (2112 : Word).toNat ∧ (fetching 0).rwk.walking = false)
    ∧ (withWalk (fetching 0)).Fetching controlRing ring0 comp0
    ∧ (let s : State := { ready with rwk := { ready.rwk with copies := [copy0] } };
      s.rwk.copies[0]? = some copy0 ∧ s.Pending copy0.handle comp0)
    ∧ (32 < (33 : Byte).toNat ∧ (32 : Byte).toNat ≤ 32 ∧ (fetching 0).rwk.denyWork = []
      ∧ (fetching 0).rwk.denyReading = false)
    ∧ (let s : State := { ready with rwk := { ready.rwk with denyWork := [denyWork0 true] } };
      s.handed = [] ∧ s.rwk.denyWork = [denyWork0 true] ∧ (denyWork0 true).count ≠ 0 ∧ s.rwk.denyReading = false)
    ∧ (∀ a, let s : State := { ready with rwk := { ready.rwk with denyWork := [denyWork0 a], denyReading := true } };
      s.rwk.denyWork = [denyWork0 a] ∧ s.rwk.denyReading = true ∧ s.Pending (denyWork0 a).handle comp0
      ∧ (zeros 8).length = 8 * (denyWork0 a).count ∧ s.rwk.walking = false ∧ s.ses.session = .ready) := by
  refine ⟨by decide, fetching_control, by decide, ⟨rfl, rfl, rfl, rfl, rfl⟩,
    ⟨rfl, ⟨rfl, rfl, rfl, by decide⟩⟩, by decide +kernel, by decide +kernel, fun a => ⟨rfl, rfl, ⟨rfl, rfl, rfl, ?_⟩, rfl, rfl, rfl⟩⟩
  simp [ready, hif0, denyWork0]

/-- A descriptor request of the command in flight, and a cache entry for its serial. -/
def request0 (g : Bool) : DescRequest := ⟨cmd0, root.serial, 0x7000, 256, g, false⟩
def cached0 (stamp : Half) : CacheEntry := ⟨root.serial, stamp, 2, [zeros 128, zeros 128], true⟩
def reading0 (g : Bool) (cache : List CacheEntry) (copying : Option Serial) : State :=
  { ready with dcr := { Dcr.reset with queue := [request0 g], cache := cache, copying := copying } }

theorem witness_Descriptors :
    (fetching 0).Fetching controlRing ring0 comp0
    ∧ ((63 : Byte).toNat ≤ 63 ∧ 128 ≤ (128 : Word).toNat ∧ (entryAt (fetching 0) 0).state = .active
      ∧ (entryAt (fetching 0) 0).serial = root.serial ∧ (fetching 0).dcr.queue.length < 8
      ∧ 8 ≤ (List.replicate 8 (request0 false)).length)
    ∧ (∀ c, (reading0 false c none).Pending cmd0 comp0 ∧ (reading0 false c none).dcr.queue = [request0 false]
      ∧ (reading0 false c none).dcr.context = none ∧ (reading0 false c none).dcr.copying = none)
    ∧ ((reading0 false [] none).rwk.walking = false ∧ (withWalk ready).rwk.walking = true
      ∧ heldIndex root.serial (reading0 false [] none) = some 0
      ∧ heldIndex root.serial (withRoot .lost ready) = none
      ∧ currentEntry root.serial 5 (reading0 false [cached0 5] none).dcr = some (cached0 5)
      ∧ currentEntry root.serial 5 (reading0 false [cached0 4] none).dcr = none
      ∧ (reading0 false [] none).ses.presence = true ∧ flightIs .dr (reading0 false [] none) = false
      ∧ flightIs .dr (flying .dr ⟨1, .readBlock, [0]⟩ 1 (reading0 false [] none)) = true)
    ∧ (let s := reading0 true [cached0 5] (some root.serial);
      s.dcr.queue = [request0 true] ∧ (request0 true).group = true ∧ s.dcr.copying = some (cached0 5).serial
      ∧ cached root.serial s.dcr = some (cached0 5) ∧ s.dcr.removal = none) :=
  ⟨fetching_control, by decide +kernel,
    fun c => ⟨⟨rfl, rfl, rfl, by simp [reading0, ready, hif0]⟩, rfl, rfl, rfl⟩, by decide +kernel, by decide +kernel⟩

/-- A READ-BLOCK in flight for the request of the command in flight, and another request behind it for the same serial. -/
def readingBlock (c : ReadContext) (cache : List CacheEntry) (attempt : Nat) : State :=
  flying .dr ⟨1, .readBlock, [BitVec.ofNat 8 c.block]⟩ attempt (unheard { ready with dcr := { Dcr.reset with
    queue := [request0 false, { request0 false with handle := ⟨5, 0xAB, 1, 7⟩ }], context := some c, cache := cache } })

/-- The read of a block: the stamp, the restart and the rereads so far. -/
def atBlock (block : Nat) (count : Option Nat) (restarted : Bool) (reread : Nat) : ReadContext :=
  ⟨1, 5, restarted, count, block, reread⟩

/-- A block whose first byte is n, with the stamp 5, and the byte sum 0. -/
def blockOf (n : Byte) : List Byte := n :: [0, 5] ++ zeros 124 ++ [0 - n - 5]

/-- A FILLING entry with one block of n, and a VALID one of another serial with n blocks. -/
def filling0 (n : Nat) : CacheEntry := ⟨root.serial, 5, n, [blockOf (BitVec.ofNat 8 n)], false⟩
def other0 (sn : Serial) (n : Nat) : CacheEntry := ⟨sn, 5, n, List.replicate n [], true⟩

/-- What a response with the data d leaves in s satisfies p. -/
def hears (d : List Byte) (s : State) (p : State → Bool) : Bool := nextHas p (done (endTransaction (.response d) s))

/-- The frame of a block has its good check, so the part hears the block. -/
theorem block_heard (n : Byte) (a : Nat) (s : State) (d : List Byte) (p : State → Bool) (hc : s.sbc.channel = .attempt)
    (hx : s.sbc.inFlight = some (transaction .dr ⟨1, .readBlock, [n]⟩ a)) (hd : d.length = 129) :
    judgeFrame (transaction .dr ⟨1, .readBlock, [n]⟩ a) (responseFrame 1 5 true d) = .accept true d
    ∧ leaves (answers s true d) s p = hears d s p := by
  have hp : parseResponse (responseFrame 1 5 true d) = some ⟨1, 5, true, d⟩ := by
    have h : (responseFrame 1 5 true d).dropLast = [1, 81, 129] ++ d ∧ (responseFrame 1 5 true d).getLastD 0
        = crc8 ([1, 81, 129] ++ d) := by
      constructor
      · rw [responseFrame, List.dropLast_concat]; simp [leBytes, bitAt, hd]
      · simp only [responseFrame, List.getLastD_concat]; simp [leBytes, bitAt, hd]
    have hf : responseFrame 1 5 true d = 1 :: 81 :: 129 :: (d ++ [crc8 ([1, 81, 129] ++ d)]) := by
      simp [responseFrame, leBytes, bitAt, hd]
    simp only [parseResponse, h.1, h.2]
    rw [hf]
    simp [hd]
  have hj : judgeFrame (transaction .dr ⟨1, .readBlock, [n]⟩ a) (responseFrame 1 5 true d) = .accept true d := by
    unfold judgeFrame
    rw [hp]
    simp [hd, ackLength, transaction, responseSource]
  refine ⟨hj, ?_⟩
  have hr : receiveFrame (responseFrame 1 5 true d) s = endTransaction (.response d) s := by
    unfold receiveFrame
    rw [hc, hx]
    simp only [hj]
  have ha : answers s true d = .sidebandFrameReceived (responseFrame 1 5 true d) := by
    unfold answers
    rw [hx]
    rfl
  rw [leaves, hears, ha]
  simp only [exec, execSidebandFrameReceived, hr]

/-- The answer to the READ-BLOCK leaves the read at a block, in the states restarted and reread, with a new request sent. -/
def readsOn (s : State) (d : List Byte) (c : ReadContext) : Bool :=
  hears d s (fun t => decide (t.dcr.context = some c
    ∧ t.sbc.inFlight.map (·.request) = some ⟨BitVec.ofNat 8 c.address, .readBlock, [BitVec.ofNat 8 c.block]⟩))

/-- The outcome ends the request at the head of the queue. -/
def readEnds (o : TxOutcome) (s : State) : Bool := (done (endTransaction o s)) |> nextHas (fun t => decide (t.dcr.context = none ∧ t.dcr.queue.length = 1 ∧ t.dcr.copying = none
    ∧ t.sbc.channel = .free ∧ t.hif.inFlight = []))

/-- The answer starts the copies, the two requests as a group. -/
def readCopies (s : State) (d : List Byte) : Bool :=
  hears d s (fun t => decide (t.dcr.copying = some root.serial
    ∧ t.dcr.queue.map (fun q => (q.group, q.hit)) = [(true, false), (true, true)] ∧ t.dcr.cache.all (·.valid) = true))

theorem witness_DescriptorReads_start :
    (let s := readingBlock (atBlock 0 none false 0) [] 3;
      s.Pending cmd0 comp0 ∧ s.sbc.channel = .attempt ∧ s.sbc.lateFrame = false ∧ s.sbc.idleRequests
      ∧ s.rwk.walking = false ∧ heldIndex root.serial s = some 0 ∧ s.ses.presence = true ∧ s.sbc.respTimer = some 100
      ∧ (entryAt s 0).stamp = 5)
    ∧ (let s := withWalk (readingBlock (atBlock 0 none false 0) [] 1);
      hears (0 :: blockOf 1) s (fun t => decide (t.dcr.held = some (.response (0 :: blockOf 1))
        ∧ t.sbc.channel = .free)) = true)
    ∧ (let s := withRoot .lost (readingBlock (atBlock 0 none false 0) [] 1); readEnds (.response (0 :: blockOf 1)) s = true)
    ∧ readsOn (readingBlock { atBlock 0 none false 0 with address := 2 } [] 1) (0 :: blockOf 1) (atBlock 0 none false 0) = true
    ∧ (let s := readingBlock { atBlock 0 none false 0 with stamp := 6 } [] 1;
      readsOn s (0 :: blockOf 1) (atBlock 0 none true 0) = true)
    ∧ (let s := readingBlock { atBlock 0 none true 0 with stamp := 6 } [] 1; readEnds (.response (0 :: blockOf 1)) s = true)
    ∧ (∀ n ∈ [0, 1], ∀ d ∈ [0 :: zeros 127 ++ [9], 1 :: blockOf 1],
      readsOn (readingBlock (atBlock 0 none false n) [] 1) d (atBlock 0 none false (n + 1)) = true
      ∧ readEnds (.response d) (readingBlock (atBlock 0 none false 2) [] 1))
    ∧ (∀ n ∈ [(0 : Byte), 9], readsOn (readingBlock (atBlock 0 none false 1) [] 1) (0 :: blockOf n) (atBlock 0 none true 0) = true
      ∧ readEnds (.response (0 :: blockOf n)) (readingBlock (atBlock 0 none true 1) [] 1) = true) :=
  ⟨⟨⟨rfl, rfl, rfl, by decide⟩, rfl, rfl, ⟨rfl, rfl, rfl, rfl, rfl, rfl⟩, rfl, rfl, rfl, rfl, rfl⟩, by decide +kernel,
    by decide +kernel, by decide +kernel, by decide +kernel, by decide +kernel, by decide +kernel, by decide +kernel⟩

theorem witness_DescriptorReads_blocks :
    readCopies (readingBlock (atBlock 0 none false 0) [other0 1 2] 1) (0 :: blockOf 1) = true
    ∧ (∀ n ∈ [2, 8], readsOn (readingBlock (atBlock 0 none false 1) [] 1) (0 :: blockOf (BitVec.ofNat 8 n))
      (atBlock 1 (some n) false 0) = true)
    ∧ readCopies (readingBlock (atBlock 1 (some 2) false 0) [other0 1 2, filling0 2] 1) (1 :: blockOf 7) = true
    ∧ readsOn (readingBlock (atBlock 1 (some 3) false 1) [other0 1 2, filling0 3] 1) (1 :: blockOf 7)
      (atBlock 2 (some 3) false 0) = true
    ∧ (∀ i ∈ [answers (readingBlock (atBlock 1 (some 3) false 0) [filling0 3] 3) false [], .attemptTimeout false],
      leaves i (readingBlock (atBlock 1 (some 3) false 0) [filling0 3] 3) (fun t => decide (t.dcr.queue.length = 1
        ∧ t.dcr.cache = [] ∧ t.hif.inFlight = [])) = true)
    ∧ makeRoom 8 [other0 1 8, other0 2 8, other0 3 8, other0 4 8] = [other0 2 8, other0 3 8, other0 4 8]
    ∧ makeRoom 1 ((List.range 16).map (fun i => other0 (BitVec.ofNat 48 i) 1))
      = (List.range 15).map (fun i => other0 (BitVec.ofNat 48 (i + 1)) 1)
    ∧ makeRoom 8 [other0 1 8, other0 2 8, other0 3 8] = [other0 1 8, other0 2 8, other0 3 8] := by decide +kernel

/-! ### Witnesses: packets and audio -/

def standing0 : StandingWork := ⟨cmd0, 5, true, 2, 1, 7, 0x6000, 112⟩

def standing1 : StandingWork := ⟨⟨5, 0xAB, 1, 1⟩, 6, false, 1, 0, 0, 0, 0⟩

/-- s with entry i of the standing table holding a pending record of the command in flight. -/
def recorded (i : Nat) (s : State) : State := { s with stt := { s.stt with
  entries := s.stt.entries.set i { StandingEntry.empty with pending := some ⟨true, 2, 1, 7, [1], cmd0⟩ } } }

theorem witness_StandingTable :
    (fetching 1).Fetching streamRing ring0 comp0
    ∧ (2 ≤ (2 : Byte).toNat ∧ (15 : Byte).toNat ≤ 15 ∧ ¬ 2 ≤ (1 : Byte).toNat ∧ ¬ (16 : Byte).toNat ≤ 15
      ∧ (1 : Byte).toNat < (2 : Byte).toNat ∧ (112 : Byte).toNat ≤ 112 ∧ (fetching 1).stt.work = []
      ∧ (fetching 1).stt.reading = false)
    ∧ (let s : State := { fetching 1 with stt := { Stt.reset with work := [standing0], reading := true } };
      s.Fetching streamRing ring0 comp0 ∧ (∃ w ∈ s.stt.work.head?, w.enabled = true) ∧ s.stt.reading = true)
    ∧ (let s := recorded 2 (fetching 1); s.Fetching streamRing ring0 comp0 ∧ s.stt.work = [] ∧ s.stt.reading = false
      ∧ (s.stt.entries.getD 2 StandingEntry.empty).pending = some ⟨true, 2, 1, 7, [1], cmd0⟩ ∧ cmd0 ∈ s.hif.inFlight
      ∧ (s.stt.entries.getD 15 StandingEntry.empty).pending = none)
    ∧ (let s : State := { ready with stt := { Stt.reset with work := [standing0] } };
      s.handed = [] ∧ s.stt.work = [standing0] ∧ standing0.enabled = true ∧ s.stt.reading = false)
    ∧ (∀ ws ∈ [[], [standing1]], let s : State := { ready with stt := { Stt.reset with work := standing0 :: ws, reading := true } };
      s.stt.work = standing0 :: ws ∧ s.stt.reading = true ∧ (zeros 112).length = standing0.len
      ∧ (∀ i ∈ [5, 6], (s.stt.entries.getD i StandingEntry.empty).pending = none)
      ∧ standing1.enabled = false ∧ standing1.index ≠ standing0.index)
    ∧ (let s : State := recorded 5 { ready with
        hif := { hif0 with inFlight := [standing1.handle, cmd0] }
        stt := { Stt.reset with work := [{ standing0 with handle := standing1.handle }], reading := true } };
      s.Pending standing1.handle comp0 ∧ cmd0 ∈ s.hif.inFlight
      ∧ (s.stt.entries.getD 5 StandingEntry.empty).pending = some ⟨true, 2, 1, 7, [1], cmd0⟩) :=
  ⟨fetching_stream, by decide, ⟨⟨rfl, rfl, rfl, rfl, rfl⟩, by decide, rfl⟩, ⟨⟨rfl, rfl, rfl, rfl, rfl⟩, by decide⟩, by decide,
    by decide, ⟨rfl, rfl, rfl, by decide⟩, by decide, by decide⟩

/-- The fetch from the control ring in progress, with the packet of the command in flight and a later one of the same tag. -/
def cancelling (f : Packet → Packet → Apq) : State :=
  { fetching 0 with apq := f packet0 { packet0 with handle := ⟨5, 0xAA, 2, 7⟩ } }

theorem witness_AddressedCommands :
    (fetching 2).Fetching dispatchRing ring0 comp0 ∧ (fetching 0).Fetching controlRing ring0 comp0
    ∧ ((2 : Byte).toNat ≤ 2 ∧ 1 ≤ (1 : Byte).toNat ∧ (112 : Byte).toNat ≤ 112 ∧ (63 : Byte).toNat ≤ 63
      ∧ (fetching 2).ses.session = .ready ∧ (entryAt (fetching 2) 0).state = .active
      ∧ (entryAt (fetching 2) 0).serial = root.serial ∧ (entryAt (fetching 2) 63).state ≠ .active
      ∧ classOf 2 = some .bulk)
    ∧ (inSession .training (fetching 2)).Fetching dispatchRing ring0 comp0
    ∧ (let s : State := { ready with apq := { Apq.reset with fetching := [packet0] } };
      s.handed = [] ∧ s.apq.fetching = [packet0] ∧ s.apq.reading = false)
    ∧ (∀ k, let p := { packet0 with cls := k }
      let s : State := { ready with apq := { Apq.reset with fetching := [p], reading := true } };
      s.Pending p.handle comp0 ∧ s.apq.fetching = [p] ∧ s.apq.reading = true ∧ p.cancel = none ∧ (zeros 4).length = p.len)
    ∧ (∀ s ∈ [cancelling (fun p q => { Apq.reset with awaiting := [p], urgent := [q] }),
        cancelling (fun p q => { Apq.reset with fetching := [p, q], reading := true }),
        cancelling (fun p q => { Apq.reset with fetching := [p], bulk := [q] }),
        cancelling (fun p q => { Apq.reset with fetching := [q, p], reading := true }),
        cancelling (fun p q => { Apq.reset with urgent := [q, p] }),
        cancelling (fun p q => { Apq.reset with normal := [p], awaiting := [q] }),
        cancelling (fun p q => { Apq.reset with bulk := [p], fetching := [q] })],
      packet0 ∈ s.apq.sends ∧ packet0.handle.tag = 0xAA ∧ (∀ q ∈ s.apq.sends, q.handle.tag = 0xAA)
      ∧ (∀ q ∈ s.apq.sends, q.handle.tag = 0xAA → packet0.handle.id ≤ q.handle.id)
      ∧ (s.apq.sends.map (·.handle.id)).Nodup ∧ packet0.handle ∈ s.hif.inFlight ∧ packet0.handle ≠ s.takenAs 0 ring0 1
      ∧ (packet0 ∈ s.apq.awaiting ∨ packet0 ∈ s.apq.fetching ∨ packet0 ∈ classPackets s.apq)) :=
  ⟨fetching_dispatch, fetching_control, by decide +kernel, ⟨rfl, rfl, rfl, rfl, rfl⟩, ⟨rfl, rfl, rfl⟩,
    fun _ => ⟨⟨rfl, rfl, rfl, by simp [ready, hif0, packet0]⟩, rfl, rfl, rfl, rfl⟩, by decide +kernel⟩

/-- A packet that awaits in a walk whose end the next answer brings, its GET-RECEIPT's outcome held. -/
def heldAtEnd (o : TxOutcome) (st : EntryState) (deny : List Serial) : State :=
  let s := walkAt .refresh .ready .rootVerify (verifyReq 1) 1 [] (rosterOf [{ root with ports := 0, state := st }]) deny
  { s with apq := { Apq.reset with awaiting := [packet0], acPacket := some packet0.handle.id, held := some o } }

/-- VERIFY of the root answers and the walk ends. -/
def endsWalk (s : State) (p : State → Bool) : Bool :=
  leaves (answers s true (verifyData root.serial 0)) s (fun t => !t.rwk.walking && p t)

theorem witness_PacketSweeps_start :
    (∀ f, let s : State := if f then flying .ac ⟨1, .getReceipt, [9]⟩ 1 (fetching 0) else fetching 0
      let s : State := { s with
        apq := { Apq.reset with
          fetching := [sent 0 1 atRoot .bulk false none, sent 1 1 .broadcast .urgent false none], reading := true
          normal := [sent 2 1 atRoot .normal false none], awaiting := [packet0], acPacket := some 4, starve := 5 } };
      s.Fetching controlRing ring0 comp0 ∧ s.ses.session = .ready ∧ s.rwk.walking = false ∧ flightIs .ac s = f
      ∧ (s.apq.sends.map (·.handle)).Nodup ∧ packet0 ∈ s.apq.resting ∧ packet0.handle ∈ s.hif.inFlight)
    ∧ leaves (.enumerate 1 0) { fetching 0 with apq := { Apq.reset with normal := [packet0], starve := 5 } } (fun t => decide (
      t.apq.normal = [] ∧ t.apq.starve = 5 ∧ cmd0 ∉ t.hif.inFlight)) = true := by
  refine ⟨fun f => ?_, by decide +kernel⟩
  cases f <;> exact ⟨⟨rfl, rfl, rfl, rfl, rfl⟩, by decide +kernel⟩

theorem witness_PacketSweeps_end :
    (let s := heldAtEnd (.response [9, 1]) .active [];
      s.handed = [] ∧ s.rwk.walking = true ∧ s.ses.presence = true ∧ s.heldHandles.Nodup ∧ s.canComplete packet0.handle
      ∧ flightIs .ac s = false ∧ endsWalk s (fun t => decide (t.apq.awaiting = [] ∧ t.hif.inFlight = []
        ∧ t.apq.held = none ∧ t.ses.presence = true)) = true)
    ∧ endsWalk (heldAtEnd (.response [9, 0]) .active []) (fun t => decide (t.apq.awaiting = []
      ∧ t.apq.normal = [packet0] ∧ t.hif.inFlight = [cmd0])) = true
    ∧ (∀ o ∈ [TxOutcome.noResponse, .badCheck, .refused], endsWalk (heldAtEnd o .active []) (fun t => decide (
      t.apq.awaiting = [] ∧ t.hif.inFlight = [] ∧ t.apq.acPacket = none)) = true)
    ∧ endsWalk (heldAtEnd (.response [9, 1]) .denied [root.serial]) (fun t => decide (t.apq.awaiting = []
      ∧ t.hif.inFlight = [] ∧ t.apq.held = none)) = true
    ∧ (let s := heldAtEnd (.response [9, 1]) .denied [root.serial]
      let s : State := { s with apq := { Apq.reset with
        fetching := [sent 0 1 atRoot .bulk false none], urgent := [packet0, sent 1 1 .broadcast .urgent false none] } };
      s.apq.held = none ∧ endsWalk s (fun t => decide (t.apq.urgent.map (·.handle.id) = [41]
        ∧ t.apq.fetching.map (·.handle.id) = [40] ∧ t.hif.inFlight = [])) = true) := by
  refine ⟨⟨rfl, rfl, rfl, by decide, ⟨rfl, rfl, by decide⟩, rfl, by decide +kernel⟩, by decide +kernel, by decide +kernel,
    by decide +kernel, by decide +kernel⟩

/-- A GET-RECEIPT about the packet p in flight. -/
def asking (p : Packet) (attempt : Nat) : State := flying .ac ⟨1, .getReceipt, [9]⟩ attempt (unheard { ready with
  fmon := { ready.fmon with fsn := 3 }
  apq := { Apq.reset with awaiting := [p], acPacket := some p.handle.id, normal := [sent 1 1 atRoot .normal false none] } })

/-- The row i leaves nothing awaiting: the command in flight is completed, or its packet is back at the head of its class. -/
def judges (i : Instr) (s : State) (back : Bool) : Bool :=
  leaves i s (fun t => decide (t.apq.awaiting = [] ∧ t.apq.acPacket = none
    ∧ t.apq.normal.map (·.handle.id) = (if back then [4, 41] else [41])
    ∧ t.hif.inFlight = (if back then [cmd0] else [])))

theorem witness_ExpiryAndReceipts :
    (let s : State := { ready with
        fmon := { ready.fmon with fsn := 4 }, apq := { Apq.reset with normal := [packet0] } };
      s.Pending packet0.handle comp0 ∧ s.apq.urgent = [] ∧ s.apq.normal = [packet0] ∧ s.apq.bulk = []
      ∧ packet0.late s.fmon.fsn = true ∧ packet0.late 3 = false ∧ ((classPackets s.apq).map (·.handle)).Nodup
      ∧ s.canComplete packet0.handle)
    ∧ (let s : State := { ready with apq := { Apq.reset with awaiting := [packet0] } };
      s.handed = [] ∧ s.apq.awaiting = [packet0] ∧ packet0.placed = some 0 ∧ s.apq.acPacket = none
      ∧ s.ses.presence = true ∧ reached (2 : Fsn) (0 + 2) = true ∧ reached (1 : Fsn) (0 + 2) = false
      ∧ packet0.due = false ∧ flightIs .ac s = false ∧ flightIs .ac (asking packet0 1) = true)
    ∧ (∀ a, (asking packet0 a).Pending packet0.handle comp0 ∧ (asking packet0 a).sbc.channel = .attempt
      ∧ (asking packet0 a).sbc.inFlight = some (transaction .ac ⟨1, .getReceipt, [9]⟩ a)
      ∧ (asking packet0 a).apq.awaiting = [packet0] ∧ (asking packet0 a).apq.acPacket = some packet0.handle.id
      ∧ (asking packet0 a).apq.held = none ∧ (asking packet0 a).sbc.idleRequests ∧ (asking packet0 a).sbc.lateFrame = false
      ∧ (asking packet0 a).rwk.walking = false ∧ (asking packet0 a).sbc.respTimer = some 100)
    ∧ (∀ f ∈ [[9, 1], [9, 0xFF], [8, 0]], judges (answers (asking packet0 1) true f) (asking packet0 1) false = true)
    ∧ judges (answers (asking packet0 1) true [9, 0]) (asking packet0 1) true = true
    ∧ (∀ p ∈ [{ packet0 with attempts := 3 }, { packet0 with deadline := some 2 }, { packet0 with target := .tile 5 7 }],
      judges (answers (asking p 1) true [9, 0]) (asking p 1) false = true)
    ∧ packet0.attempts < 3
    ∧ (∀ p ∈ [packet0, { packet0 with target := .tile 0 7 }], ∀ i ∈ [answers (asking p 3) false [], .sidebandFrameReceived [0],
      .attemptTimeout false], judges i (asking p 3) false = true)
    ∧ leaves (answers (asking packet0 1) true [9, 0]) (withWalk (asking packet0 1)) (fun t => decide (
      t.apq.held = some (.response [9, 0]) ∧ t.apq.awaiting = [packet0])) = true
    ∧ (let s : State := { asking packet0 1 with apq := { Apq.reset with acPacket := some 4 } };
      (∀ q ∈ s.apq.awaiting, q.handle.id ≠ packet0.handle.id ∧ q.due = false)
      ∧ leaves (answers s true [9, 0]) s (fun t => decide (t.apq.acPacket = none ∧ t.hif.inFlight = [cmd0])) = true) :=
  ⟨⟨⟨rfl, rfl, rfl, by decide⟩, rfl, rfl, rfl, by decide +kernel, by decide +kernel, by decide, ⟨rfl, rfl, by decide⟩⟩,
    by decide +kernel,
    fun _ => ⟨⟨rfl, rfl, rfl, ready_pending.held⟩, rfl, rfl, rfl, rfl, rfl, ⟨rfl, rfl, rfl, rfl, rfl, rfl⟩, rfl, rfl, rfl⟩,
    by decide +kernel, by decide +kernel, by decide +kernel, by decide, by decide +kernel, by decide +kernel, by decide +kernel⟩

/-- The audio port in a state with a window of n edges. -/
def listening (a : AudioState) (edges : Nat) : State := { ready with ain := { Ain.reset with
  format := some ⟨2, 48000, 16⟩, audio := a, capturing := true, window := some ⟨100, edges⟩ } }

theorem witness_AudioPort :
    (∀ a ∈ [AudioState.filling, .flowing, .halted], ∀ n ∈ [470, 469, 490, 491],
      (listening a n).handed = [] ∧ (listening a n).ain.format = some ⟨2, 48000, 16⟩
      ∧ (listening a n).ain.window = some ⟨100, n⟩ ∧ (listening a n).ain.audio ≠ .off)
    ∧ ((48000 - 47100 + (47100 - 48000)) * 50 ≤ 48000 ∧ ¬ (48000 - 46900 + (46900 - 48000)) * 50 ≤ 48000)
    ∧ (∀ n ∈ [471, 489], (listening .halted n).ain.window = some ⟨100, n⟩ ∧ (48000 - n * 100 + (n * 100 - 48000)) * 50 ≤ 48000)
    ∧ (∀ n ∈ [469, 491], (listening .halted n).ain.window = some ⟨100, n⟩
      ∧ ¬ (48000 - n * 100 + (n * 100 - 48000)) * 50 ≤ 48000)
    ∧ leaves .rateCheckWindowEnd (unheard (listening .halted 480)) (fun t => decide (t.ain.audio = .filling)) = true
    ∧ ((listening .filling 0).ain.fifo.length < 8192 ∧ 8192 ≤ (List.replicate 8192 ([] : List (BitVec 24))).length) := by
  decide +kernel

end Sys2Proof.Tests
end

section
/-!
PROOFS. The capacity of a frame (R101): the formula over the integers, its growth with the factor, and the capacity
that the plan of a frame start carries.
-/

namespace Sys2Proof.Machine

/-! ### The formula -/

/-- The slots of a blanking interval, the floor taken over the integers and a negative one counting as 0 (R101). -/
theorem lineSlots_cast (n : Nat) : (lineSlots n : Int) = min 8 (max 0 (((n : Int) - 24) / 32)) := by
  unfold lineSlots
  omega

theorem activeSlots_cast {g : Geometry} (f : Nat) (hh : g.ha ≤ g.ht) :
    (activeSlots g f : Int) = min 8 (max 0 ((((g.ht - g.ha) * f - 24 : Int)) / 32)) := by
  rw [activeSlots, lineSlots_cast]
  push_cast [hh]
  rfl

theorem blankSlots_cast (g : Geometry) (f : Nat) :
    (blankSlots g f : Int) = min 8 (max 0 (((g.ht * f - 24 : Int)) / 32)) := by
  rw [blankSlots, lineSlots_cast]
  push_cast
  rfl

theorem capacity_cast {g : Geometry} (f : Nat) (hh : g.ha ≤ g.ht) (hv : g.va ≤ g.vt) :
    (capacity g f : Int) = g.va * min 8 (max 0 ((((g.ht - g.ha) * f - 24 : Int)) / 32))
      + (g.vt - g.va) * min 8 (max 0 (((g.ht * f - 24 : Int)) / 32)) := by
  rw [← activeSlots_cast f hh, ← blankSlots_cast, capacity]
  push_cast [hv]
  rfl

/-! ### Growth with the factor -/

theorem lineSlots_mono {m n : Nat} (h : m ≤ n) : lineSlots m ≤ lineSlots n := by
  unfold lineSlots
  omega

theorem activeSlots_mono (g : Geometry) {f f' : Nat} (h : f ≤ f') : activeSlots g f ≤ activeSlots g f' :=
  lineSlots_mono (Nat.mul_le_mul_left _ h)

theorem blankSlots_mono (g : Geometry) {f f' : Nat} (h : f ≤ f') : blankSlots g f ≤ blankSlots g f' :=
  lineSlots_mono (Nat.mul_le_mul_left _ h)

theorem capacity_mono (g : Geometry) {f f' : Nat} (h : f ≤ f') : capacity g f ≤ capacity g f' :=
  Nat.add_le_add (Nat.mul_le_mul_left _ (activeSlots_mono g h)) (Nat.mul_le_mul_left _ (blankSlots_mono g h))

/-! ### What placing packets leaves alone -/

/-- t has the format monitor and the slot scheduler of s; with them the geometry, the factor in force and the plan. -/
def KeepsLayout (s t : State) : Prop := t.fmon = s.fmon ∧ t.bss = s.bss

theorem KeepsLayout.refl (s : State) : KeepsLayout s s := ⟨rfl, rfl⟩

theorem KeepsLayout.trans {a b c : State} (h₁ : KeepsLayout a b) (h₂ : KeepsLayout b c) : KeepsLayout a c :=
  ⟨h₂.1.trans h₁.1, h₂.2.trans h₁.2⟩

theorem finishPacket_keepsLayout (p : Packet) (st : Status) (s : State) : KeepsLayout s (finishPacket p st s) :=
  ⟨rfl, rfl⟩

theorem takeTag_keepsLayout {i : Nat} {sn : Serial} {s t : State} {tag : Byte} (h : takeTag i sn s = some (tag, t)) :
    KeepsLayout s t := by
  unfold takeTag at h
  dsimp only at h
  split at h
  · cases h
    exact ⟨rfl, rfl⟩
  · cases h

theorem tagFor_keepsLayout (p : Packet) (s : State) : KeepsLayout s (tagFor p s).2 := by
  unfold tagFor
  split
  · split
    · exact takeTag_keepsLayout ‹_›
    · exact KeepsLayout.refl s
  · exact KeepsLayout.refl s

theorem placePacket_keepsLayout (pos : Nat) (p : Packet) (x : Selection) :
    KeepsLayout x.state (placePacket pos p x).state := by
  refine (tagFor_keepsLayout p x.state).trans ?_
  unfold placePacket
  dsimp only
  split
  · exact ⟨rfl, rfl⟩
  · exact finishPacket_keepsLayout _ _ _

theorem selectClass_keepsLayout (ps : List Packet) (x : Selection) :
    KeepsLayout x.state (selectClass ps x).2.state := by
  induction ps generalizing x with
  | nil => exact KeepsLayout.refl _
  | cons p ps ih =>
    unfold selectClass
    split
    · exact KeepsLayout.refl _
    · split
      · exact (finishPacket_keepsLayout p .targetGone x.state).trans (ih _)
      · exact KeepsLayout.refl _
      · exact (placePacket_keepsLayout _ p x).trans (ih _)

theorem starveStep_keepsLayout (ps : List Packet) (x : Selection) :
    KeepsLayout x.state (starveStep ps x).2.1.state := by
  induction ps generalizing x with
  | nil => exact KeepsLayout.refl _
  | cons p ps ih =>
    unfold starveStep
    split
    · exact (finishPacket_keepsLayout p .targetGone x.state).trans (ih _)
    · exact KeepsLayout.refl _
    · exact placePacket_keepsLayout _ p x

theorem withQueue_keepsLayout (c : PacketClass) (r : List Packet × Selection) :
    KeepsLayout r.2.state (withQueue c r).state := ⟨rfl, rfl⟩

/-- A class's part of the selection, its queue put back. -/
theorem selectQueue_keepsLayout (c : PacketClass) (x : Selection) :
    KeepsLayout x.state (withQueue c (selectClass (queueOf x.state.apq c) x)).state :=
  (selectClass_keepsLayout _ x).trans (withQueue_keepsLayout c _)

theorem setStarve_keepsLayout (n : Nat) (x : Selection) : KeepsLayout x.state (setStarve n x).state := ⟨rfl, rfl⟩

theorem classStep_keepsLayout (waiting starved bulkBlocked : Bool) (x : Selection) :
    KeepsLayout x.state (classStep waiting starved bulkBlocked x).state := by
  have urgentNormal := (selectQueue_keepsLayout .urgent x).trans (selectQueue_keepsLayout .normal _)
  unfold classStep
  dsimp only
  refine KeepsLayout.trans ?_ (setStarve_keepsLayout _ _)
  split
  · exact urgentNormal
  · exact urgentNormal.trans (selectQueue_keepsLayout .bulk _)

theorem selectPackets_keepsLayout (x : Selection) : KeepsLayout x.state (selectPackets x).state := by
  unfold selectPackets
  dsimp only
  split
  · exact ((starveStep_keepsLayout x.state.apq.bulk x).trans (withQueue_keepsLayout .bulk (_, _))).trans
      (classStep_keepsLayout _ _ _ _)
  · exact classStep_keepsLayout _ _ _ x

theorem audioStage_keepsLayout (n : Nat) (x : Selection) : KeepsLayout x.state (audioStage n x).state := ⟨rfl, rfl⟩

theorem addressedStage_keepsLayout (x : Selection) : KeepsLayout x.state (addressedStage x).state := by
  unfold addressedStage
  split
  · exact selectPackets_keepsLayout x
  · exact KeepsLayout.refl _

/-- The second and the third stage of a plan. -/
theorem packetStages_keepsLayout (n : Nat) (x : Selection) :
    KeepsLayout x.state (addressedStage (audioStage n x)).state :=
  (audioStage_keepsLayout n x).trans (addressedStage_keepsLayout _)

/-! ### The plan's capacity -/

/-- The plan has the capacity of the geometry and the factor in force. -/
def PlanHasCapacity (t : State) : Prop :=
  t.bss.plan.map (·.slots) = some (capacity t.fmon.geometry t.bss.factor)

theorem judgeSkips_planHasCapacity (w : CadenceWork) (skips : Bool) {s : State} (h : PlanHasCapacity s) :
    PlanHasCapacity (judgeSkips w skips s) := by
  unfold judgeSkips
  split
  · split <;> exact h
  · split <;> exact h

theorem sendFrame_planHasCapacity (packets : List (List Byte)) {s : State} (h : PlanHasCapacity s) :
    PlanHasCapacity (sendFrame packets s) := by
  unfold sendFrame
  split <;> exact h

/-- The capacity is computed before the audio and the addressed packets are placed, which changes neither the geometry
nor the factor. -/
theorem buildPlan_planHasCapacity (w : CadenceWork) (s : State) : PlanHasCapacity (buildPlan w s) := by
  refine sendFrame_planHasCapacity _ (judgeSkips_planHasCapacity w _ ?_)
  simp only [PlanHasCapacity, Option.map_some, (packetStages_keepsLayout _ _).1, (packetStages_keepsLayout _ _).2]

theorem frameStart_planHasCapacity (fmonPart : State → State) (term : Bool) (s : State) :
    PlanHasCapacity (frameStart fmonPart term s) :=
  buildPlan_planHasCapacity _ _

/-! ### The rows that open a frame -/

/-- Either no frame start took s to t, so that the FSN stays, or the plan has its capacity. -/
def PlansIfFrame (s t : State) : Prop := t.fmon.fsn = s.fmon.fsn ∨ PlanHasCapacity t

theorem takeBoundary_plansIfFrame (a : Alignment) (term : Bool) (s : State) :
    PlansIfFrame s (takeBoundary a term s) := by
  unfold takeBoundary
  split
  · split
    · exact .inr (frameStart_planHasCapacity _ term s)
    · exact .inl rfl
  · split
    · exact .inl rfl
    · exact .inr (frameStart_planHasCapacity _ term s)

theorem alignVertical_fsn (offset : Nat) (s : State) : (alignVertical offset s).2.fmon.fsn = s.fmon.fsn := by
  unfold alignVertical
  split <;> rfl

theorem learnVertical_fsn (edge : Level) (high low offset : Nat) (s : State) :
    (learnVertical edge high low offset s).2.fmon.fsn = s.fmon.fsn := by
  unfold learnVertical
  dsimp only
  split
  · rfl
  · split
    · exact alignVertical_fsn offset _
    · rfl

theorem boundaryOf_fsn (i : BoundaryInput) (s : State) : (boundaryOf i s).2.fmon.fsn = s.fmon.fsn := by
  cases i with
  | sync elapsed edge high low offset =>
    unfold boundaryOf
    dsimp only
    split
    · rfl
    · exact learnVertical_fsn edge high low offset _
  | code elapsed f =>
    unfold boundaryOf
    dsimp only
    split <;> rfl

theorem seeBoundary_plansIfFrame (i : BoundaryInput) (term : Bool) (s : State) :
    PlansIfFrame s (seeBoundary i term s) := by
  have hfsn := boundaryOf_fsn i s
  unfold seeBoundary
  split
  · rename_i a s1 h
    rw [h] at hfsn
    exact (takeBoundary_plansIfFrame a term s1).imp_left (·.trans hfsn)
  · rename_i s1 h
    rw [h] at hfsn
    exact .inl hfsn

theorem flywheelElapsed_plansIfFrame (term : Bool) (s : State) : PlansIfFrame s (flywheelElapsed term s) := by
  unfold flywheelElapsed
  split
  · exact .inr (frameStart_planHasCapacity _ term _)
  · exact .inl rfl

theorem activityElapsed_plansIfFrame (term : Bool) (s : State) : PlansIfFrame s (activityElapsed term s) := by
  unfold activityElapsed
  split
  · exact .inl rfl
  · exact .inr (frameStart_planHasCapacity _ term _)
  · exact .inl rfl

/-- HIF's handling at the end of the row leaves the monitor and the plan as the row left them. -/
theorem doneAny_plansIfFrame {s u t : State} (hu : PlansIfFrame s u) (h : doneAny u = .next t) : PlansIfFrame s t := by
  obtain ⟨hif, out, c, e⟩ := finishAnyOrder_spec u
  rw [doneAny, e] at h
  cases h
  exact hu

/-- Every row that opens a frame leaves a plan of the capacity in force (R101). -/
theorem exec_frameRow_plansIfFrame {i : Instr} {s t : State} {term : Bool} (hi : frameRow i = some term)
    (h : exec i s = .next t) : PlansIfFrame s t := by
  unfold frameRow at hi
  split at hi
  · exact doneAny_plansIfFrame (seeBoundary_plansIfFrame _ _ s) h
  · exact doneAny_plansIfFrame (flywheelElapsed_plansIfFrame _ s) h
  · exact doneAny_plansIfFrame (activityElapsed_plansIfFrame _ s) h
  · cases hi

/-- Settles O35: the formula over the integers, the growth of each of its two terms, and the plan through the last step
of every frame start. -/
theorem capacityOfFrames : Obligations.CapacityOfFrames := by
  unfold Obligations.CapacityOfFrames
  refine ⟨fun g f hh hv => capacity_cast f hh hv, fun g f f' => capacity_mono g, ?_⟩
  intro i s t term hi h hfsn
  exact (exec_frameRow_plansIfFrame hi h).resolve_left hfsn

end Sys2Proof.Machine
end

section
/-!
PROOFS. CREATE-RING and DESTROY-RING (R173, R174): the sizes and bases that a ring may have, the ring table after a
take, and what each of the checks makes of the command.
-/

namespace Sys2Proof.Machine

/-! ### Sizes and bases -/

/-- The sizes in the model's list are the powers of two from 16 to 1024. -/
theorem ringSizeOk_iff {max : Nat} (n : Nat) (hmax : max ≤ 1024) : ringSizeOk max n = true ↔ powerSize max n := by
  have hlist : ringSizeOk max n = true ↔ n ∈ [16, 32, 64, 128, 256, 512, 1024] ∧ n ≤ max := by
    simp only [ringSizeOk, Bool.and_eq_true, List.contains_iff_mem, decide_eq_true_eq]
  rw [hlist]
  constructor
  · rintro ⟨hn, hle⟩
    have hpow : ∀ m ∈ [16, 32, 64, 128, 256, 512, 1024], (∃ k < 11, m = 2 ^ k) ∧ 16 ≤ m := by decide
    obtain ⟨⟨k, -, hk⟩, h16⟩ := hpow n hn
    exact ⟨⟨k, hk⟩, h16, hle⟩
  · rintro ⟨⟨k, rfl⟩, h16, hle⟩
    have hlow : 4 ≤ k := (Nat.pow_le_pow_iff_right (a := 2) (by decide)).1 h16
    have hhigh : k ≤ 10 := (Nat.pow_le_pow_iff_right (a := 2) (by decide)).1 (hle.trans hmax)
    exact ⟨by interval_cases k <;> decide, hle⟩

/-- The check of size and base at a CREATE-RING and a CONFIGURE-EVENTS (R173, R179). -/
theorem ringShapeOk_iff {max : Nat} (n : Nat) (base : Addr) (hmax : max ≤ 1024) :
    (ringSizeOk max n && ringBaseOk base) = true ↔ powerSize max n ∧ base.toNat % 64 = 0 := by
  rw [Bool.and_eq_true, ringSizeOk_iff n hmax, ringBaseOk, decide_eq_true_eq]

/-! ### The ring table after a take -/

/-- The ring that the command was taken from is still present, with its consumer index advanced (R175). -/
theorem State.Fetching.ringAt_taken_self {s : State} {r : Nat} {g : Ring} {c : RecordRing} (h : s.Fetching r g c)
    (tag : HostTag) : ringAt (s.taken r g tag).hif r = some { g with cons := (g.cons + 1) % g.size } := by
  have hr : r < s.hif.rings.length := by
    by_contra hlen
    have hring := h.ring
    simp [ringAt, List.getElem?_eq_none (Nat.le_of_not_lt hlen)] at hring
  simp [ringAt, State.taken, hr]

/-- The take leaves the other rings as they are. -/
theorem ringAt_taken_of_ne (s : State) {r i : Nat} (g : Ring) (tag : HostTag) (h : i ≠ r) :
    ringAt (s.taken r g tag).hif i = ringAt s.hif i := by
  simp [ringAt, State.taken, List.getElem?_set_ne h.symm]

/-- A change of the ring table leaves a pending command pending. -/
theorem pending_setRing {s : State} {h : Handle} {c : RecordRing} (p : s.Pending h c) (i : Nat)
    (x : Option Ring) : ({ s with hif := setRing i x s.hif } : State).Pending h c :=
  ⟨p.settled, p.writes, p.comp, p.held⟩

theorem byte_toNat_ne_control {id : Byte} (h : id ≠ 0) : id.toNat ≠ controlRing :=
  fun e => h (BitVec.eq_of_toNat_eq e)

/-- The command itself came from ring 0, so that only a command taken earlier keeps ring 1 or 2 in use (R174). -/
theorem inFlight_taken_any {s : State} {g : Ring} {tag : HostTag} {i : Nat} (h : i ≠ controlRing) :
    (s.taken controlRing g tag).hif.inFlight.any (fun x => decide (x.ring = i)) = true
      ↔ ∃ k ∈ s.hif.inFlight, k.ring = i := by
  simp [State.taken, State.takenAs, h.symm]

/-! ### CREATE-RING (R173) -/

section
variable {h : Handle} {id : Byte} {base : Addr} {size : Half} {s : State}

theorem takeCreateRing_badId (hid : 2 < id.toNat) :
    takeCreateRing h id base size s = complete .hif h .badParam 0 0 s := by
  rw [takeCreateRing, if_pos hid]

theorem takeCreateRing_present (hid : id.toNat ≤ 2) (hr : (ringAt s.hif id.toNat).isSome = true) :
    takeCreateRing h id base size s = complete .hif h .exists_ 0 0 s := by
  rw [takeCreateRing, if_neg (Nat.not_lt.2 hid), if_pos (.inl hr)]

theorem takeCreateRing_absent (hid : id.toNat ≤ 2) (h0 : id ≠ 0) (hr : ringAt s.hif id.toNat = none) :
    takeCreateRing h id base size s =
      if (ringSizeOk 1024 size.toNat && ringBaseOk base) = true then
        complete .hif h .ok (word id.toNat) (word size.toNat)
          { s with hif := setRing id.toNat (some ⟨base, size.toNat, 0, 0⟩) s.hif }
      else complete .hif h .badParam 0 0 s := by
  rw [takeCreateRing, if_neg (Nat.not_lt.2 hid), if_neg (not_or.2 ⟨by simp [hr], h0⟩)]

end

theorem exec_createRing {s : State} {g : Ring} {c : RecordRing} (f : s.Fetching controlRing g c) (tag : HostTag)
    (id : Byte) (base : Addr) (size : Half) : exec (.createRing tag id base size) s =
      done (takeCreateRing (s.takenAs controlRing g tag) id base size (s.taken controlRing g tag)) :=
  congrArg done (f.takeFrom tag _)

/-- An absent ring is none that the command was taken from. -/
theorem State.Fetching.ne_control_of_absent {s : State} {g : Ring} {c : RecordRing} (f : s.Fetching controlRing g c)
    {tag : HostTag} {id : Byte} (hr : ringAt (s.taken controlRing g tag).hif id.toNat = none) : id ≠ 0 := by
  rintro rfl
  exact Option.some_ne_none _ ((f.ringAt_taken_self tag).symm.trans hr)

/-! ### DESTROY-RING (R174) -/

section
variable {h : Handle} {id : Byte} {s : State}

theorem takeDestroyRing_badId (hid : id = 0 ∨ 2 < id.toNat) :
    takeDestroyRing h id s = complete .hif h .badParam 0 0 s := by
  rw [takeDestroyRing, if_pos hid]

theorem takeDestroyRing_absent (h0 : id ≠ 0) (hid : id.toNat ≤ 2) (hr : ringAt s.hif id.toNat = none) :
    takeDestroyRing h id s = complete .hif h .notFound 0 0 s := by
  rw [takeDestroyRing, if_neg (not_or.2 ⟨h0, Nat.not_lt.2 hid⟩), hr]

theorem takeDestroyRing_present {x : Ring} (h0 : id ≠ 0) (hid : id.toNat ≤ 2)
    (hr : ringAt s.hif id.toNat = some x) : takeDestroyRing h id s =
      if s.hif.inFlight.any (fun k => decide (k.ring = id.toNat)) = true then complete .hif h .busy 0 0 s
      else complete .hif h .ok (word id.toNat) (word x.cons) { s with hif := setRing id.toNat none s.hif } := by
  rw [takeDestroyRing, if_neg (not_or.2 ⟨h0, Nat.not_lt.2 hid⟩), hr]

end

theorem exec_destroyRing {s : State} {g : Ring} {c : RecordRing} (f : s.Fetching controlRing g c) (tag : HostTag)
    (id : Byte) : exec (.destroyRing tag id) s =
      done (takeDestroyRing (s.takenAs controlRing g tag) id (s.taken controlRing g tag)) :=
  congrArg done (f.takeFrom tag _)

/-! ### Both commands -/

/-- Settles O20: each check ends the command with one completion from the state after the take, and past them all the
ring table is the only thing changed before the completion. -/
theorem ringCommands : Obligations.RingCommands := by
  unfold Obligations.RingCommands
  constructor
  · intro s g c tag id base size f h s1 answers good
    have hp : s1.Pending h c := f.pending tag
    have hgood : (ringSizeOk 1024 size.toNat && ringBaseOk base) = true ↔ good :=
      ringShapeOk_iff size.toNat base (Nat.le_refl 1024)
    simp only [answers, exec_createRing f]
    refine ⟨fun hid => ?badId, fun hid hr => ?present, fun hid hr hbad => ?badShape, fun hid hr hok => ?created⟩
    case badId =>
      rw [takeCreateRing_badId hid]
      exact done_complete .hif .badParam 0 0 hp
    case present =>
      rw [takeCreateRing_present hid hr]
      exact done_complete .hif .exists_ 0 0 hp
    case badShape =>
      rw [takeCreateRing_absent hid (f.ne_control_of_absent hr) hr, if_neg (hgood.not.2 hbad)]
      exact done_complete .hif .badParam 0 0 hp
    case created =>
      rw [takeCreateRing_absent hid (f.ne_control_of_absent hr) hr, if_pos (hgood.2 hok)]
      exact done_complete .hif .ok _ _ (pending_setRing hp _ _)
  · intro s g c tag id f h s1 answers
    have hp : s1.Pending h c := f.pending tag
    simp only [answers, exec_destroyRing f]
    refine ⟨fun hid => ?badId, fun h0 hid => ?validId⟩
    case badId =>
      rw [takeDestroyRing_badId hid]
      exact done_complete .hif .badParam 0 0 hp
    case validId =>
      have hne := byte_toNat_ne_control h0
      have hring : ringAt s1.hif id.toNat = ringAt s.hif id.toNat := ringAt_taken_of_ne s g tag hne
      refine ⟨fun hr => ?absent, fun x hr => ⟨fun hbusy => ?busy, fun hidle => ?destroyed⟩⟩
      case absent =>
        rw [takeDestroyRing_absent h0 hid (hring.trans hr)]
        exact done_complete .hif .notFound 0 0 hp
      case busy =>
        rw [takeDestroyRing_present h0 hid (hring.trans hr), if_pos ((inFlight_taken_any hne).2 hbusy)]
        exact done_complete .hif .busy 0 0 hp
      case destroyed =>
        have hany := (inFlight_taken_any (g := g) (tag := tag) hne).not.2 fun ⟨k, hk, e⟩ => hidle k hk e
        rw [takeDestroyRing_present h0 hid (hring.trans hr), if_neg hany]
        exact done_complete .hif .ok _ _ (pending_setRing hp _ _)

end Sys2Proof.Machine
end

section
/-!
PROOFS. What every step keeps. `Aside` says of an operation that it leaves alone every block that an invariant speaks
of; `Keeps` says that it keeps the queue, lets the time and the output only grow, and hands on every invariant.
-/

namespace Sys2Proof.Machine

set_option Elab.async false

/-! ### Operations beside the invariants -/

/-- t has the blocks of s that invariants speak of: SES, RWK, APQ, AIN, BSS and HIF. The other blocks are free, the time
has not gone back, and what s has sent is the beginning of what t has sent. -/
structure Aside (s t : State) : Prop where
  ses : t.ses = s.ses := by rfl
  rwk : t.rwk = s.rwk := by rfl
  apq : t.apq = s.apq := by rfl
  ain : t.ain = s.ain := by rfl
  bss : t.bss = s.bss := by rfl
  hif : t.hif = s.hif := by rfl
  queue : t.pending = s.pending := by rfl
  time : s.now ≤ t.now := by exact Nat.le_refl _
  sent : s.out <+: t.out := by exact List.prefix_refl _

theorem Aside.refl (s : State) : Aside s s := {}

theorem Aside.trans {a b c : State} (h₁ : Aside a b) (h₂ : Aside b c) : Aside a c where
  ses := h₂.ses.trans h₁.ses
  rwk := h₂.rwk.trans h₁.rwk
  apq := h₂.apq.trans h₁.apq
  ain := h₂.ain.trans h₁.ain
  bss := h₂.bss.trans h₁.bss
  hif := h₂.hif.trans h₁.hif
  queue := h₂.queue.trans h₁.queue
  time := h₁.time.trans h₂.time
  sent := h₁.sent.trans h₂.sent

theorem emit_aside (o : Output) (s : State) : Aside s (emit o s) := { sent := List.prefix_append _ _ }

theorem emitPart_aside (a : Addr) (m : List Byte) (s : State) : Aside s (emitPart a m s) :=
  { sent := List.prefix_append _ _ }

theorem advanceTo_aside (t : Nat) (s : State) : Aside s (advanceTo t s) := { time := Nat.le_max_left _ _ }

theorem hand_aside (o : Owner) (i : HandedItem) (s : State) : Aside s (hand o i s) := {}

theorem handAnywhere_aside (o : Owner) (i : HandedItem) (s : State) : Aside s (handAnywhere o i s) := {}

theorem complete_aside (o : Owner) (h : Handle) (st : Status) (a b : Word) (s : State) :
    Aside s (complete o h st a b s) := {}

theorem post_aside (o : Owner) (e : Event) (s : State) : Aside s (post o e s) := {}

theorem postEither_aside (o : Owner) (e e' : Event) (s : State) : Aside s (postEither o e e' s) := by
  unfold postEither
  dsimp only
  split <;> exact {}

theorem completeOpt_aside (o : Owner) (h : Option Handle) (st : Status) (a b : Word) (s : State) :
    Aside s (completeOpt o h st a b s) := by
  cases h with
  | none => exact .refl s
  | some h => exact complete_aside o h st a b s

theorem setSbc_aside (s : State) (b : Sbc) : Aside s { s with sbc := b } := {}

theorem foldl_aside {α : Type} {f : State → α → State} (h : ∀ s x, Aside s (f s x)) (l : List α) (s : State) :
    Aside s (l.foldl f s) := by
  induction l generalizing s with
  | nil => exact .refl s
  | cons x l ih => exact (h s x).trans (ih _)

/-! ### The sideband (section 3) -/

theorem joinSet_aside (r : Requester) (q : Request) (s : State) : Aside s (joinSet r q s) := by
  unfold joinSet
  split <;> exact setSbc_aside s _

theorem withdraw_aside (r : Requester) (s : State) : Aside s (withdraw r s) := setSbc_aside s _

theorem placeDeferred_aside (r : Requester) (s : State) : Aside s (placeDeferred r s) := by
  obtain ⟨b, e⟩ := placeDeferred_spec r s
  rw [e]
  exact setSbc_aside s b

theorem orphanFlight_aside (r : Requester) (s : State) : Aside s (orphanFlight r s) := by
  unfold orphanFlight
  split
  · split
    · exact setSbc_aside s _
    · exact .refl s
  · exact .refl s

theorem sendAttempt_aside (t : Transaction) (s : State) : Aside s (sendAttempt t s) := by
  unfold sendAttempt
  dsimp only
  split <;> exact (emit_aside _ s).trans (setSbc_aside _ _)

theorem grantTo_aside (r : Requester) (q : Request) (s : State) : Aside s (grantTo r q s) :=
  (setSbc_aside s _).trans (sendAttempt_aside _ _)

theorem grantDecision_aside (s : State) : Aside s (grantDecision s) := by
  unfold grantDecision
  split
  · split
    · split
      · exact grantTo_aside _ _ s
      · exact .refl s
    · exact .refl s
  · exact .refl s

theorem apPlace_aside (i : Nat) (s : State) : Aside s (apPlace i s) := by
  unfold apPlace
  split
  · exact (setSbc_aside s _).trans (joinSet_aside _ _ _)
  · exact setSbc_aside s _

theorem beginHoldoff_aside (s : State) : Aside s (beginHoldoff s) := setSbc_aside s _

theorem pollCheck_aside (s : State) : Aside s (pollCheck s) := by
  unfold pollCheck
  split
  · dsimp only
    split
    · exact (setSbc_aside s _).trans (apPlace_aside _ _)
    · exact (setSbc_aside s _).trans (beginHoldoff_aside _)
  · exact .refl s

theorem pollWalkStart_aside (s : State) : Aside s (pollWalkStart s) := by
  unfold pollWalkStart
  split
  · exact ((setSbc_aside s _).trans (withdraw_aside _ _)).trans (orphanFlight_aside _ _)
  · exact .refl s

theorem pollNext_aside (i : Nat) (s : State) : Aside s (pollNext i s) := by
  unfold pollNext
  dsimp only
  split
  · exact (setSbc_aside s _).trans (setSbc_aside _ _)
  · split
    · exact (setSbc_aside s _).trans (apPlace_aside _ _)
    · split
      · exact (setSbc_aside s _).trans ((setSbc_aside _ _).trans (pollCheck_aside _))
      · exact (setSbc_aside s _).trans (beginHoldoff_aside _)

theorem pollAfter_aside (i : Nat) (s : State) : Aside s (pollAfter i s) := by
  unfold pollAfter
  split
  · exact pollNext_aside i s
  · exact .refl s

theorem freeChannel_aside (s : State) : Aside s (freeChannel s) := setSbc_aside s _

theorem sideDrop_aside (s : State) : Aside s (sideDrop s) := setSbc_aside s _

theorem holdoffEnd_aside (s : State) : Aside s (holdoffEnd s) := by
  unfold holdoffEnd
  split
  · exact ((advanceTo_aside _ s).trans (setSbc_aside _ _)).trans (pollCheck_aside _)
  · exact .refl s

theorem assertAttention_aside (s : State) : Aside s (assertAttention s) := by
  unfold assertAttention
  split
  · exact .refl s
  · exact Aside.trans (b := { s with pins := { s.pins with attn := true } }) {} (pollCheck_aside _)

theorem releaseAttention_aside (s : State) : Aside s (releaseAttention s) := by
  unfold releaseAttention
  dsimp only
  split
  · exact Aside.trans (b := { s with pins := { s.pins with attn := false }, sbc := { s.sbc with poll := .idle } }) {}
      (withdraw_aside _ _)
  · exact {}

/-! ### Descriptors (section 5) -/

theorem setDcr_aside (s : State) (d : Dcr) : Aside s { s with dcr := d } := {}

theorem finishCopy_aside (ok : Bool) (e : CacheEntry) (q : DescRequest) (s : State) :
    Aside s (finishCopy ok e q s) := by
  unfold finishCopy
  dsimp only
  split
  · exact (emit_aside _ s).trans (complete_aside ..)
  · exact (emitPart_aside _ _ s).trans (complete_aside ..)

theorem endCopy_aside (ok : Bool) (s : State) : Aside s (endCopy ok s) := by
  unfold endCopy
  split
  · split
    · exact (setDcr_aside s _).trans (finishCopy_aside ..)
    · exact .refl s
  · exact .refl s

theorem endRead_aside (st : Status) (w : Word) (s : State) : Aside s (endRead st w s) := by
  unfold endRead
  split
  · exact (setDcr_aside s _).trans (complete_aside ..)
  · exact .refl s

theorem requestBlock_aside (c : ReadContext) (s : State) : Aside s (requestBlock c s) := by
  unfold requestBlock
  split
  · exact (setDcr_aside s _).trans (joinSet_aside _ _ _)
  · exact endRead_aside _ _ s

theorem descriptorTurn_aside (s : State) : Aside s (descriptorTurn s) := by
  unfold descriptorTurn
  split
  · split
    · exact .refl s
    · split
      · exact endRead_aside _ _ s
      · split
        · exact setDcr_aside s _
        · exact requestBlock_aside _ s
  · exact .refl s

theorem restartRead_aside (c : ReadContext) (stamp : Half) (s : State) : Aside s (restartRead c stamp s) :=
  (setDcr_aside s _).trans (requestBlock_aside _ _)

theorem rereadBlock_aside (c : ReadContext) (s : State) : Aside s (rereadBlock c s) := by
  unfold rereadBlock
  split
  · exact requestBlock_aside _ s
  · exact endRead_aside _ _ s

theorem openDescriptor_aside (sn : Serial) (c : ReadContext) (stamp : Half) (b : List Byte) (s : State) :
    Aside s (openDescriptor sn c stamp b s) := by
  unfold openDescriptor
  dsimp only
  split
  · split
    · exact (setDcr_aside s _).trans (setDcr_aside _ _)
    · exact (setDcr_aside s _).trans (requestBlock_aside _ _)
  · split
    · exact endRead_aside _ _ s
    · exact restartRead_aside c stamp s

theorem nextBlock_aside (sn : Serial) (c : ReadContext) (b : List Byte) (s : State) :
    Aside s (nextBlock sn c b s) := by
  unfold nextBlock
  dsimp only
  split
  · exact (setDcr_aside s _).trans (setDcr_aside _ _)
  · exact (setDcr_aside s _).trans (requestBlock_aside _ _)

theorem judgeBlock_aside (sn : Serial) (c : ReadContext) (stamp : Half) (o : TxOutcome) (s : State) :
    Aside s (judgeBlock sn c stamp o s) := by
  unfold judgeBlock
  split
  · split
    · exact rereadBlock_aside c s
    · split
      · exact openDescriptor_aside ..
      · exact nextBlock_aside ..
  · exact endRead_aside _ _ s
  · exact endRead_aside _ _ s

theorem judgeRead_aside (sn : Serial) (c : ReadContext) (o : TxOutcome) (s : State) :
    Aside s (judgeRead sn c o s) := by
  unfold judgeRead
  split
  · exact endRead_aside _ _ s
  · dsimp only
    split
    · exact requestBlock_aside _ s
    · split
      · split
        · exact endRead_aside _ _ s
        · exact restartRead_aside c _ s
      · exact judgeBlock_aside ..

theorem drResult_aside (o : TxOutcome) (s : State) : Aside s (drResult o s) := by
  unfold drResult
  split
  · split
    · exact setDcr_aside s _
    · exact judgeRead_aside ..
  · exact .refl s

theorem judgeHeldBlock_aside (s : State) : Aside s (judgeHeldBlock s) := by
  unfold judgeHeldBlock
  split
  · exact (setDcr_aside s _).trans (drResult_aside _ _)
  · exact .refl s

theorem takeReadDescriptor_aside (h : Handle) (i : Byte) (sn : Serial) (a : Addr) (n : Word) (s : State) :
    Aside s (takeReadDescriptor h i sn a n s) := by
  unfold takeReadDescriptor
  split
  · exact complete_aside ..
  · split
    · exact complete_aside ..
    · split
      · exact complete_aside ..
      · exact setDcr_aside s _

theorem takeDrop_aside (h : Handle) (s : State) : Aside s (takeDrop h s) :=
  (setDcr_aside s _).trans (complete_aside ..)

theorem dropRequests_aside (s : State) : Aside s (dropRequests s) :=
  (setDcr_aside s _).trans (foldl_aside (fun s (q : DescRequest) => complete_aside _ q.handle _ _ _ s) _ _)

theorem dcrIfReset_aside (s : State) : Aside s (dcrIfReset s) :=
  ((withdraw_aside _ s).trans (orphanFlight_aside _ _)).trans (setDcr_aside _ _)

/-! ### The standing table (section 7) -/

theorem setStt_aside (s : State) (t : Stt) : Aside s { s with stt := t } := {}

theorem replaceEntry_aside (s : State) (i : Nat) : Aside s (replaceEntry s i) := by
  unfold replaceEntry
  dsimp only
  split
  · exact (setStt_aside s _).trans (complete_aside ..)
  · exact .refl s

theorem replaceEntries_aside (s : State) : Aside s (replaceEntries s) := foldl_aside replaceEntry_aside _ s

theorem buildFixed_aside (s : State) : Aside s (buildFixed s) := setStt_aside s _

theorem storeStanding_aside (w : StandingWork) (payload : List Byte) (s : State) :
    Aside s (storeStanding w payload s) := by
  unfold storeStanding
  dsimp only
  split
  · exact (complete_aside _ _ _ _ _ s).trans (setStt_aside _ _)
  · exact setStt_aside s _

theorem workStanding_aside (n : Nat) (s : State) : Aside s (workStanding n s) := by
  induction n generalizing s with
  | zero => exact .refl s
  | succ n ih =>
    unfold workStanding
    split
    · split
      · exact .refl s
      · exact ((setStt_aside s _).trans (storeStanding_aside _ _ _)).trans (ih _)
    · exact .refl s

theorem joinStanding_aside (w : StandingWork) (s : State) : Aside s (joinStanding w s) :=
  (setStt_aside s _).trans (workStanding_aside _ _)

theorem startStandingRead_aside (s : State) : Aside s (startStandingRead s) := by
  unfold startStandingRead
  split
  · split
    · exact .refl s
    · exact (setStt_aside s _).trans (emit_aside _ _)
  · exact .refl s

theorem endStandingRead_aside (data : Option (List Byte)) (s : State) : Aside s (endStandingRead data s) := by
  unfold endStandingRead
  split
  · split
    · dsimp only
      refine Aside.trans ?_ (workStanding_aside _ _)
      split
      · exact (setStt_aside s _).trans (storeStanding_aside _ _ _)
      · exact (setStt_aside s _).trans (complete_aside ..)
    · exact .refl s
  · exact .refl s

/-! ### The pixel path (section 10) and the format monitor (section 2) -/

theorem setPxp_aside (s : State) (p : Pxp) : Aside s { s with pxp := p } := {}

theorem setFmon_aside (s : State) (f : Fmon) : Aside s { s with fmon := f } := {}

theorem endRun_aside (ws : List Sample) (s : State) : Aside s (endRun ws s) := setPxp_aside s _

theorem cutsSeen_aside (s : State) : Aside s (cutsSeen s) := setPxp_aside s _

theorem pxpNewLine_aside (s : State) : Aside s (pxpNewLine s) := setPxp_aside s _

theorem pxpNewFrame_aside (s : State) : Aside s (pxpNewFrame s) := setPxp_aside s _

theorem takeRun_aside (w : PixelWords) (s : State) : Aside s (takeRun w s) := setPxp_aside s _

theorem closeRun_aside (s : State) : Aside s (closeRun s) := by
  obtain ⟨p, e⟩ := closeRun_spec s
  rw [e]
  exact setPxp_aside s _

theorem takeWords_aside (ws : List Sample) (s : State) : Aside s (takeWords ws s) := by
  unfold takeWords
  split
  · exact setPxp_aside s _
  · exact .refl s

theorem passPeriods_aside (n : Nat) (s : State) : Aside s (passPeriods n s) := setFmon_aside s _

theorem measureLine_aside (n : Option Nat) (s : State) : Aside s (measureLine n s) := setFmon_aside s _

theorem measureRun_aside (n : Nat) (s : State) : Aside s (measureRun n s) := setFmon_aside s _

theorem codeErrorReport_aside (s : State) : Aside s (codeErrorReport s) := by
  unfold codeErrorReport
  split
  · exact (setPxp_aside s _).trans (setFmon_aside _ _)
  · exact .refl s

theorem codeError_aside (s : State) : Aside s (codeError s) := by
  unfold codeError
  split
  · exact (setPxp_aside s _).trans (codeErrorReport_aside _)
  · exact .refl s

theorem codeErrorLimit_aside (s : State) : Aside s (codeErrorLimit s) := by
  unfold codeErrorLimit
  split
  · exact (setPxp_aside s _).trans (codeErrorReport_aside _)
  · exact .refl s

theorem fmonStartCode_aside (c : CodeFlags) (s : State) : Aside s (fmonStartCode c s) := by
  unfold fmonStartCode
  split
  · exact setFmon_aside s _
  · exact (setFmon_aside s _).trans (setFmon_aside _ _)

theorem fmonEndCode_aside (s : State) : Aside s (fmonEndCode s) := by
  unfold fmonEndCode
  dsimp only
  split
  · exact ((measureLine_aside _ s).trans (setFmon_aside _ _)).trans (setFmon_aside _ _)
  · exact (measureLine_aside _ s).trans (setFmon_aside _ _)

theorem pxpEndCode_aside (s : State) : Aside s (pxpEndCode s) := by
  unfold pxpEndCode
  dsimp only
  split
  · exact (endRun_aside _ s).trans (setPxp_aside _ _)
  · exact setPxp_aside s _

theorem goodCode_aside (c : CodeFlags) (s : State) : Aside s (goodCode c s) := by
  unfold goodCode
  refine Aside.trans ?_ (setFmon_aside _ _)
  split
  · exact ((fmonEndCode_aside s).trans (pxpEndCode_aside _)).trans (passPeriods_aside _ _)
  · exact ((passPeriods_aside 4 s).trans (fmonStartCode_aside c _)).trans (setPxp_aside _ _)

theorem flagWord_aside (flag : BitVec 10) (s : State) : Aside s (flagWord flag s) := by
  unfold flagWord
  split
  · exact goodCode_aside _ s
  · exact (codeError_aside s).trans (passPeriods_aside _ _)

theorem scanCodes_aside (n : Nat) (held : Bool) (skip : Nat) (ws : List Sample) (s : State) :
    Aside s (scanCodes n held skip ws s) := by
  induction n generalizing held skip ws s with
  | zero => exact .refl s
  | succ n ih =>
    unfold scanCodes
    dsimp only
    split
    · split
      · exact (((takeWords_aside _ s).trans (passPeriods_aside _ _)).trans
          ((codeError_aside _).trans (passPeriods_aside _ _))).trans (ih ..)
      · exact (((takeWords_aside _ s).trans (passPeriods_aside _ _)).trans (flagWord_aside _ _)).trans (ih ..)
    · split
      · exact setPxp_aside s _
      · exact (takeWords_aside _ s).trans (passPeriods_aside _ _)

theorem timingCode_aside (w : PixelWords) (last : Sample) (s : State) : Aside s (timingCode w last s) :=
  ((cutsSeen_aside s).trans (setPxp_aside _ _)).trans (scanCodes_aside ..)

theorem seeRun_aside (w : PixelWords) (s : State) : Aside s (seeRun w s) := by
  unfold seeRun
  split
  · exact cutsSeen_aside s
  · exact (measureRun_aside _ s).trans (takeRun_aside w _)

theorem startLine_aside (asserted : Bool) (s : State) : Aside s (startLine asserted s) := by
  unfold startLine
  dsimp only
  split
  · exact (((closeRun_aside s).trans (pxpNewLine_aside _)).trans (measureLine_aside _ _)).trans (setFmon_aside _ _)
  · exact ((pxpNewLine_aside s).trans (measureLine_aside _ _)).trans (setFmon_aside _ _)

theorem mayStartLine_aside (asserted : Bool) (s : State) : Aside s (mayStartLine asserted s) := by
  unfold mayStartLine
  split
  · exact .refl s
  · exact (setFmon_aside s _).trans (pxpNewLine_aside _)

theorem seeLine_aside (edge : LineEdge) (high low : Nat) (s : State) : Aside s (seeLine edge high low s) := by
  unfold seeLine
  have seen := (seeRun_aside edge.run s).trans (mayStartLine_aside (!edge.run.words.isEmpty) _)
  dsimp only
  split
  · exact seen.trans (setFmon_aside _ _)
  · split
    · exact (seen.trans (setFmon_aside _ _)).trans (startLine_aside _ _)
    · exact seen.trans (setFmon_aside _ _)

theorem applyTransform_aside (s : State) : Aside s (applyTransform s) := by
  unfold applyTransform
  split
  · exact (setPxp_aside s _).trans (complete_aside ..)
  · exact .refl s

theorem applyFill_aside (s : State) : Aside s (applyFill s) := by
  unfold applyFill
  split
  · exact (setPxp_aside s _).trans (complete_aside ..)
  · exact .refl s

theorem pxpFrameStart_aside (s : State) : Aside s (pxpFrameStart s) :=
  ((applyTransform_aside s).trans (applyFill_aside _)).trans (setPxp_aside _ _)

theorem fmonModeChange_aside (s : State) : Aside s (fmonModeChange s) := by
  unfold fmonModeChange
  split
  · exact setFmon_aside s _
  · exact (setFmon_aside s _).trans (setFmon_aside _ _)

theorem setPixelInput_aside (h : Handle) (m : InputMode) (c : ChromaMethod) (s : State) :
    Aside s (setPixelInput h m c s) :=
  ((setPxp_aside s _).trans (fmonModeChange_aside _)).trans (complete_aside ..)

theorem loadTransform_aside (h : Handle) (t : Transform) (r : OutputRange) (s : State) :
    Aside s (loadTransform h t r s) := by
  unfold loadTransform
  dsimp only
  split
  · exact (complete_aside _ _ _ _ _ s).trans (setPxp_aside _ _)
  · exact setPxp_aside s _

theorem setFillTo_aside (h : Handle) (p : Pixel) (s : State) : Aside s (setFillTo h p s) := by
  unfold setFillTo
  dsimp only
  split
  · exact (complete_aside _ _ _ _ _ s).trans (setPxp_aside _ _)
  · exact setPxp_aside s _

theorem alignVertical_aside (offset : Nat) (s : State) : Aside s (alignVertical offset s).2 := by
  unfold alignVertical
  split <;> exact {}

theorem learnVertical_aside (edge : Level) (high low offset : Nat) (s : State) :
    Aside s (learnVertical edge high low offset s).2 := by
  unfold learnVertical
  dsimp only
  split
  · exact setFmon_aside s _
  · split
    · exact (setFmon_aside s _).trans (alignVertical_aside offset _)
    · exact setFmon_aside s _

theorem boundaryOf_aside (i : BoundaryInput) (s : State) : Aside s (boundaryOf i s).2 := by
  cases i with
  | sync elapsed edge high low offset =>
    unfold boundaryOf
    dsimp only
    split
    · exact .refl s
    · exact (advanceTo_aside _ s).trans (learnVertical_aside ..)
  | code elapsed f =>
    unfold boundaryOf
    dsimp only
    split
    · exact (setFmon_aside s _).trans (advanceTo_aside _ _)
    · exact .refl s

theorem noteBoundary_aside (a : Alignment) (s : State) : Aside s (noteBoundary a s) := setFmon_aside s _

theorem openMeasurement_aside (s : State) : Aside s (openMeasurement s) := {}

theorem leaveNoSignal_aside (s : State) : Aside s (leaveNoSignal s) :=
  (setFmon_aside s _).trans (openMeasurement_aside _)

end Sys2Proof.Machine
end

section
/-!
PROOFS. `Keeps` and HIF: the record rings, the command rings, the take and the ends of steps.
-/

namespace Sys2Proof.Machine

set_option Elab.async false

/-! ### What is kept -/

/-- t has every invariant that s has, the queue of s and at least its time, output and command number. The session's
shape is handed on where granted holds: a walker's operation hands it on during a walk alone. -/
structure Keeps (granted : Prop) (s t : State) : Prop where
  queue : t.pending = s.pending
  time : s.now ≤ t.now
  sent : s.out <+: t.out
  numbered : s.hif.nextId ≤ t.hif.nextId
  lanes : s.lanesAgree → t.lanesAgree
  shape : granted → s.sessionShaped → t.sessionShaped
  factors : s.factorsLegal → t.factorsLegal
  awaiting : s.awaitingBounded → t.awaitingBounded
  pool : s.poolBounded → t.poolBounded
  fifo : s.fifoBounded → t.fifoBounded
  plan : s.planFits → t.planFits
  roster : s.rosterShaped → t.rosterShaped
  credits : s.creditsKept → t.creditsKept
  events : s.eventsKept → t.eventsKept

theorem Keeps.refl (p : Prop) (s : State) : Keeps p s s :=
  ⟨rfl, Nat.le_refl _, List.prefix_refl _, Nat.le_refl _, id, fun _ => id, id, id, id, id, id, id, id, id⟩

theorem Keeps.trans {p : Prop} {a b c : State} (h₁ : Keeps p a b) (h₂ : Keeps p b c) : Keeps p a c where
  queue := h₂.queue.trans h₁.queue
  time := h₁.time.trans h₂.time
  sent := h₁.sent.trans h₂.sent
  numbered := h₁.numbered.trans h₂.numbered
  lanes := h₂.lanes ∘ h₁.lanes
  shape := fun hp => h₂.shape hp ∘ h₁.shape hp
  factors := h₂.factors ∘ h₁.factors
  awaiting := h₂.awaiting ∘ h₁.awaiting
  pool := h₂.pool ∘ h₁.pool
  fifo := h₂.fifo ∘ h₁.fifo
  plan := h₂.plan ∘ h₁.plan
  roster := h₂.roster ∘ h₁.roster
  credits := h₂.credits ∘ h₁.credits
  events := h₂.events ∘ h₁.events

/-- What is granted may follow from the shape itself. -/
theorem Keeps.grant {p q : Prop} {s t : State} (h : Keeps p s t) (hp : q → s.sessionShaped → p) : Keeps q s t :=
  { h with shape := fun hq hs => h.shape (hp hq hs) hs }

theorem Keeps.weaken {p q : Prop} {s t : State} (h : Keeps p s t) (hp : q → p) : Keeps q s t :=
  h.grant fun hq _ => hp hq

/-- An operation that leaves HIF alone keeps everything, if it changes nothing that an invariant reads, or shortens a
list that an invariant bounds. -/
theorem Keeps.of_same {p : Prop} {s t : State} (hif : t.hif = s.hif := by rfl)
    (session : t.ses.session = s.ses.session := by rfl) (lanes : t.ses.lanes = s.ses.lanes := by rfl)
    (startLink : t.ses.startLink = s.ses.startLink := by rfl) (host : t.ses.quiet.host = s.ses.quiet.host := by rfl)
    (cadence : t.ses.quiet.cadence = s.ses.quiet.cadence := by rfl)
    (termLoss : t.ses.termLoss = s.ses.termLoss := by rfl) (walking : t.rwk.walking = s.rwk.walking := by rfl)
    (wait : t.rwk.wait = s.rwk.wait := by rfl) (roster : t.rwk.roster = s.rwk.roster := by rfl)
    (factor : t.bss.factor = s.bss.factor := by rfl) (hostFactor : t.bss.hostFactor = s.bss.hostFactor := by rfl)
    (announced : t.bss.announced = s.bss.announced := by rfl) (pending : t.bss.pending = s.bss.pending := by rfl)
    (plan : t.bss.plan = s.bss.plan := by rfl)
    (awaiting : t.apq.awaiting.length ≤ s.apq.awaiting.length := by exact Nat.le_refl _)
    (pool : poolHeld t.apq ≤ poolHeld s.apq := by exact Nat.le_refl _)
    (fifo : t.ain.fifo.length ≤ s.ain.fifo.length := by exact Nat.le_refl _)
    (queue : t.pending = s.pending := by rfl) (time : s.now ≤ t.now := by exact Nat.le_refl _)
    (sent : s.out <+: t.out := by exact List.prefix_refl _) : Keeps p s t where
  queue := queue
  time := time
  sent := sent
  numbered := by rw [hif]
  lanes := by simp only [State.lanesAgree, session, lanes, imp_self]
  shape := fun _ => by
    simp only [State.sessionShaped, session, startLink, host, cadence, termLoss, walking, wait, imp_self]
  factors := by simp only [State.factorsLegal, factor, hostFactor, announced, pending, imp_self]
  awaiting := awaiting.trans
  pool := by
    simp only [State.poolBounded, hif]
    exact (Nat.add_le_add_right pool _).trans
  fifo := fifo.trans
  plan := by simp only [State.planFits, plan, imp_self]
  roster := by simp only [State.rosterShaped, roster, imp_self]
  credits := by simp only [State.creditsKept, hif, imp_self]
  events := by simp only [State.eventsKept, hif, imp_self]

theorem Aside.keeps {s t : State} (h : Aside s t) (p : Prop) : Keeps p s t := by
  obtain ⟨ses, rwk, apq, ain, bss, hif, queue, time, sent⟩ := h
  refine .of_same hif ?_ ?_ ?_ ?_ ?_ ?_ ?_ ?_ ?_ ?_ ?_ ?_ ?_ ?_ ?_ ?_ ?_ queue time sent <;>
    simp only [ses, rwk, apq, ain, bss, Nat.le_refl]

/-- An operation of HIF keeps everything, if the record rings and the credits stay as they have to be. -/
theorem Keeps.of_rings {p : Prop} {s : State} {h : Hif} (numbered : s.hif.nextId ≤ h.nextId)
    (fetch : h.fetch = some dispatchRing → s.hif.fetch = some dispatchRing)
    (credits : s.creditsKept → State.creditsKept { s with hif := h })
    (events : s.eventsKept → State.eventsKept { s with hif := h }) : Keeps p s { s with hif := h } where
  queue := rfl
  time := Nat.le_refl _
  sent := List.prefix_refl _
  numbered := numbered
  lanes := id
  shape := fun _ => id
  factors := id
  awaiting := id
  pool := by
    intro k
    simp only [State.poolBounded] at k ⊢
    by_cases hf : h.fetch = some dispatchRing
    · simpa only [hf, fetch hf] using k
    · rw [if_neg hf]
      omega
  fifo := id
  plan := id
  roster := id
  credits := credits
  events := events

/-- The completion ring's credits depend on the ring and on the commands taken alone. -/
theorem creditsKept_of_eq {s : State} {h : Hif} (comp : h.comp = s.hif.comp) (taken : takenCount h = takenCount s.hif)
    (k : s.creditsKept) : State.creditsKept { s with hif := h } := by
  simpa only [State.creditsKept, comp, taken] using k

theorem eventsKept_of_eq {s : State} {h : Hif} (event : h.event = s.hif.event) (k : s.eventsKept) :
    State.eventsKept { s with hif := h } := by
  simpa only [State.eventsKept, event] using k

/-- An operation of HIF beside the record rings and the fetch. -/
theorem Keeps.of_hif {p : Prop} {s : State} {h : Hif} (numbered : h.nextId = s.hif.nextId := by rfl)
    (fetch : h.fetch = s.hif.fetch := by rfl) (flight : h.inFlight = s.hif.inFlight := by rfl)
    (comp : h.comp = s.hif.comp := by rfl) (event : h.event = s.hif.event := by rfl) :
    Keeps p s { s with hif := h } :=
  .of_rings numbered.ge fetch.symm.trans (creditsKept_of_eq comp (by rw [takenCount, takenCount, fetch, flight]))
    (eventsKept_of_eq event)

/-- A fold keeps what each of its steps keeps. -/
theorem Keeps.foldl {p : Prop} {α : Type} {f : State → α → State} (h : ∀ s x, Keeps p s (f s x)) (l : List α)
    (s : State) : Keeps p s (l.foldl f s) := by
  induction l generalizing s with
  | nil => exact .refl p s
  | cons x l ih => exact (h s x).trans (ih _)

/-! ### CAUSE and FATAL (R181, R182) -/

section
variable (p : Prop)

theorem raiseCause_keeps (b : CauseBit) (s : State) : Keeps p s (raiseCause b s) := by
  have msi : Keeps p s (if s.hif.causeEmpty && s.hif.irqEn && s.pins.msiEnable then emit .msi s else s) := by
    split
    · exact (emit_aside _ s).keeps p
    · exact .refl p s
  unfold raiseCause
  cases b <;> exact msi.trans .of_hif

/-- The fetch given up frees a credit. -/
theorem creditsKept_noFetch {s : State} {h : Hif} (comp : h.comp = s.hif.comp) (flight : h.inFlight = s.hif.inFlight)
    (fetch : h.fetch = none) (k : s.creditsKept) : State.creditsKept { s with hif := h } := by
  intro r hr
  obtain ⟨hin, hle⟩ := k r (comp ▸ hr)
  refine ⟨hin, ?_⟩
  simp only [takenCount, flight, fetch] at hle ⊢
  simp only [Option.isSome_none, Bool.false_eq_true, if_false]
  omega

theorem enterFatal_keeps (c : FatalCause) (s : State) : Keeps p s (enterFatal c s) := by
  unfold enterFatal
  split
  · exact .refl p s
  · exact Keeps.trans (.of_rings (h := { s.hif with state := .fatal, fatalCause := c, fetch := none }) (Nat.le_refl _)
      (by simp) (creditsKept_noFetch rfl rfl rfl) id) (raiseCause_keeps p _ _)

/-! ### Record rings (R178, R180) -/

/-- The distance from b forward to a in a ring of n places. -/
theorem distance_eq {n a b : Nat} (ha : a < n) (hb : b < n) :
    (a + n - b) % n = if b ≤ a then a - b else a + n - b := by
  split
  · have h : a + n - b = a - b + n := by omega
    rw [h, Nat.add_mod_right, Nat.mod_eq_of_lt (by omega)]
  · exact Nat.mod_eq_of_lt (by omega)

theorem advance_size (r : RecordRing) : r.advance.size = r.size := by
  unfold RecordRing.advance
  split <;> rfl

theorem advance_inRange {r : RecordRing} (h : r.inRange) : r.advance.inRange := by
  obtain ⟨hw, hh⟩ := h
  unfold RecordRing.advance
  split
  · exact ⟨by assumption, hh⟩
  · exact ⟨show 0 < r.size by omega, hh⟩

/-- One record more is unreleased, where there is a place for it. -/
theorem advance_unreleased {r : RecordRing} (h : r.inRange) (room : r.unreleased < r.size - 1) :
    r.advance.unreleased = r.unreleased + 1 := by
  obtain ⟨hw, hh⟩ := h
  unfold RecordRing.unreleased at room ⊢
  rw [distance_eq hw hh] at room ⊢
  unfold RecordRing.advance
  split
  · rename_i hlt
    rw [show (r.write + 1 + r.size - r.host) % r.size = _ from distance_eq hlt hh]
    split <;> split at room <;> split <;> omega
  · rename_i hlt
    rw [show (0 + r.size - r.host) % r.size = _ from distance_eq (by omega) hh]
    split <;> split at room <;> split <;> omega

theorem unreleased_le {r : RecordRing} (h : r.inRange) : r.unreleased ≤ r.size - 1 :=
  Nat.le_pred_of_lt (Nat.mod_lt _ (Nat.zero_lt_of_lt h.1))

/-- The host releases records, and none comes back. -/
theorem release_spec {r r' : RecordRing} {i : Nat} (h : r.inRange) (e : r.release i = some r') :
    r'.inRange ∧ r'.size = r.size ∧ r'.unreleased ≤ r.unreleased := by
  obtain ⟨hw, hh⟩ := h
  unfold RecordRing.release at e
  split at e
  · rename_i hi
    cases e
    obtain ⟨hlt, hle⟩ := hi
    refine ⟨⟨hw, hlt⟩, rfl, ?_⟩
    simp only [RecordRing.unreleased] at hle ⊢
    rw [distance_eq hlt hh, distance_eq hw hh] at hle
    rw [distance_eq hw hlt, distance_eq hw hh]
    split at hle <;> split at hle <;> split <;> omega
  · cases e

theorem ringSizeOk_pos {max n : Nat} (h : ringSizeOk max n = true) : 0 < n := by
  simp only [ringSizeOk, Bool.and_eq_true, List.contains_iff_mem] at h
  have hpos : ∀ m ∈ [16, 32, 64, 128, 256, 512, 1024], 0 < m := by decide
  exact hpos n h.1

/-- An empty ring has nothing unreleased. -/
theorem fresh_unreleased (base : Addr) (n : Nat) : (RecordRing.fresh base n).unreleased = 0 := by
  simp [RecordRing.fresh, RecordRing.unreleased]

theorem fresh_inRange {base : Addr} {n : Nat} (h : 0 < n) : (RecordRing.fresh base n).inRange := ⟨h, h⟩

/-! ### Completions and events at HIF (R176 to R180) -/

/-- A completion gives its credit back to the record that it writes. -/
theorem writeCompletion_keeps (h : Handle) (st : Status) (a b : Word) (s : State) :
    Keeps p s (writeCompletion h st a b s) := by
  unfold writeCompletion
  split
  · rename_i r hr
    split
    · rename_i hw
      refine Keeps.trans (Keeps.trans (.of_rings (h := { s.hif with comp := some r.advance, inFlight := s.hif.inFlight.erase h })
        (Nat.le_refl _) id ?_ id) ((emit_aside _ _).keeps p)) (raiseCause_keeps p _ _)
      intro k q hq
      cases hq
      obtain ⟨hin, hle⟩ := k r hr
      have hmem : (s.hif.inFlight.erase h).length + 1 = s.hif.inFlight.length := by
        have := List.length_pos_of_mem hw.2
        rw [List.length_erase_of_mem hw.2]
        omega
      refine ⟨advance_inRange hin, ?_⟩
      simp only [takenCount] at hle ⊢
      rw [advance_unreleased hin (by omega), advance_size]
      omega
    · exact .refl p s
  · exact .refl p s

theorem putEvent_keeps (e : Event) (s : State) : Keeps p s (putEvent e s) := by
  unfold putEvent
  split
  · rename_i r hr
    refine Keeps.trans (Keeps.trans (.of_rings (h := { s.hif with event := some r.advance }) (Nat.le_refl _) id id ?_)
      ((emit_aside _ _).keeps p)) (raiseCause_keeps p _ _)
    intro k q hq
    cases hq
    have hin := advance_inRange (k r hr).1
    exact ⟨hin, unreleased_le hin⟩
  · exact .refl p s

theorem putOverrun_keeps (s : State) : Keeps p s (putOverrun s) := by
  unfold putOverrun
  split
  · split
    · exact Keeps.trans (b := { s with hif := { s.hif with overrun := 0 } }) .of_hif (putEvent_keeps p _ _)
    · exact .refl p s
  · exact .refl p s

theorem writeOrCount_keeps (e : Event) (s : State) : Keeps p s (writeOrCount e s) := by
  unfold writeOrCount
  split
  · split
    · exact putEvent_keeps p e s
    · exact .of_hif
  · exact .refl p s

theorem writeEvent_keeps (e : Event) (s : State) : Keeps p s (writeEvent e s) := by
  unfold writeEvent
  split
  · exact .refl p s
  · exact (putOverrun_keeps p s).trans (writeOrCount_keeps p e _)

theorem deliver_keeps (s : State) (x : Handed) : Keeps p s (deliver s x) := by
  unfold deliver
  split
  · exact writeCompletion_keeps p ..
  · exact writeEvent_keeps p ..

theorem finishInOrder_keeps (s : State) : Keeps p s (finishInOrder s) :=
  Keeps.trans (b := { s with handed := [] }) .of_same (Keeps.foldl (deliver_keeps p) _ _)

theorem finishAnyOrder_keeps (s : State) : Keeps p s (finishAnyOrder s) := by
  unfold finishAnyOrder
  dsimp only
  exact Keeps.trans (b := { s with handed := [], choices := _ }) .of_same (Keeps.foldl (deliver_keeps p) _ _)

/-! ### ENABLE, the bootstrap and the registers (R168 to R172, R178 to R181) -/

theorem endDraining_keeps (s : State) : Keeps p s (endDraining s) := by
  unfold endDraining
  split
  · split
    · exact .of_rings (h := { s.hif with
        state := .disabled, rings := [none, none, none], comp := none, event := none, overrun := 0 })
        (Nat.le_refl _) id (fun _ _ h => by cases h) (fun _ _ h => by cases h)
    · exact .refl p s
  · exact .refl p s

theorem setEnable_keeps (s : State) : Keeps p s (setEnable s) := by
  unfold setEnable
  split
  · exact .refl p s
  · dsimp only
    split
    · split
      · exact .of_hif
      · split
        · exact Keeps.trans (b := { s with hif := { s.hif with
            enable := true, configError := false, bootReading := true } }) .of_hif ((emit_aside _ _).keeps p)
        · exact .of_hif
    · exact .of_hif

theorem clearEnable_keeps (s : State) : Keeps p s (clearEnable s) := by
  unfold clearEnable
  split
  · dsimp only
    split
    · exact Keeps.trans (b := { s with hif := { s.hif with enable := false, state := .draining } }) .of_hif
        (endDraining_keeps p _)
    · exact .of_hif
  · exact .refl p s

theorem bootRings_spec {r : BootRecord} {g : Ring} {c : RecordRing} (h : bootRings r = some (g, c)) :
    ∃ b n, c = RecordRing.fresh b n ∧ ringSizeOk 1024 n = true := by
  unfold bootRings at h
  dsimp only at h
  split at h
  · rename_i ok
    cases h
    simp only [Bool.and_eq_true] at ok
    obtain ⟨⟨-, size⟩, -⟩ := ok
    exact ⟨_, _, rfl, size⟩
  · cases h

theorem enterRunning_keeps {r : BootRecord} {g : Ring} {c : RecordRing} (h : bootRings r = some (g, c)) (s : State) :
    Keeps p s (enterRunning g c s) := by
  obtain ⟨b, n, rfl, hn⟩ := bootRings_spec h
  refine .of_rings (Nat.le_refl _) (by simp) ?_ (fun _ _ h => by cases h)
  intro _ q hq
  cases hq
  refine ⟨fresh_inRange (ringSizeOk_pos hn), ?_⟩
  simp [takenCount, fresh_unreleased]

theorem endBootstrap_keeps (record : Option BootRecord) (s : State) : Keeps p s (endBootstrap record s) := by
  unfold endBootstrap
  split
  · dsimp only
    split
    · exact Keeps.trans (b := { s with hif := { s.hif with bootReading := false } }) .of_hif (enterFatal_keeps p _ _)
    · split
      · exact .of_hif
      · rename_i h
        split
        · exact Keeps.trans (b := { s with hif := { s.hif with bootReading := false } }) .of_hif
            (enterRunning_keeps p h _)
        · exact .of_hif
  · exact .refl p s

theorem writeIrqEn_keeps (v : Bool) (s : State) : Keeps p s (writeIrqEn v s) := by
  unfold writeIrqEn
  dsimp only
  split
  · exact Keeps.trans (b := { s with hif := { s.hif with irqEn := v } }) .of_hif ((emit_aside _ _).keeps p)
  · exact .of_hif

theorem writeCause_keeps (v : Word) (s : State) : Keeps p s (writeCause v s) := .of_hif

theorem moveProducer_keeps (r i : Nat) (s : State) : Keeps p s (moveProducer r i s) := by
  unfold moveProducer
  split
  · split
    · exact .of_hif
    · exact .refl p s
  · exact .refl p s

theorem writeProducer_keeps (ring : BitVec 2) (index : BitVec 10) (s : State) :
    Keeps p s (writeProducer ring index s) := by
  unfold writeProducer
  dsimp only
  split
  · exact Keeps.trans (b := { s with hif := { s.hif with
      producerReg := word (index.toNat + 2 ^ 16 * ring.toNat) } }) .of_hif (moveProducer_keeps p _ _ _)
  · exact .of_hif

theorem releaseCompletions_keeps (index : BitVec 10) (s : State) : Keeps p s (releaseCompletions index s) := by
  unfold releaseCompletions
  dsimp only
  split
  · split
    · rename_i r hr
      split
      · rename_i r1 h1
        refine .of_rings (Nat.le_refl _) (fun h => h) ?_ (eventsKept_of_eq rfl)
        intro k q hq
        cases hq
        obtain ⟨hin, hle⟩ := k r hr
        obtain ⟨hin', hsize, hless⟩ := release_spec hin h1
        refine ⟨hin', ?_⟩
        simp only [takenCount] at hle ⊢
        omega
      · exact .of_hif
    · exact .of_hif
  · exact .of_hif

theorem releasedEvents_keeps {s : State} {r r' : RecordRing} {i : Nat} (hr : s.hif.event = some r)
    (h : r.release i = some r') (reg : Word) :
    let s1 : State := { s with hif := { s.hif with consumerReg := reg } }
    Keeps p s { s1 with hif := { s1.hif with event := some r' } } := by
  refine .of_rings (Nat.le_refl _) (fun h => h) (creditsKept_of_eq rfl rfl) ?_
  intro k q hq
  cases hq
  have hin := (release_spec (k r hr).1 h).1
  exact ⟨hin, unreleased_le hin⟩

theorem releaseEvents_keeps (index : BitVec 10) (s : State) : Keeps p s (releaseEvents index s) := by
  unfold releaseEvents
  extract_lets hif s1
  have read : Keeps p s s1 := .of_hif
  split
  · split
    · rename_i r hr
      split
      · rename_i r1 h1
        extract_lets s2
        have moved : Keeps p s s2 := releasedEvents_keeps p hr h1 _
        split
        · exact moved.trans (putOverrun_keeps p s2)
        · exact moved
      · exact read
    · exact read
  · exact read

theorem writePlain_keeps (r : PlainReg) (v : Word) (s : State) : Keeps p s (writePlain r v s) := by
  cases r
  case ident => exact .refl p s
  case status => exact .refl p s
  case bootLo => exact .of_hif
  case bootHi => exact .of_hif

/-! ### Ring commands, READ-STATUS and the fetch (R173 to R175, R179, R182, R183) -/

theorem takeCreateRing_keeps (h : Handle) (id : Byte) (base : Addr) (size : Half) (s : State) :
    Keeps p s (takeCreateRing h id base size s) := by
  unfold takeCreateRing
  split
  · exact (complete_aside ..).keeps p
  · split
    · exact (complete_aside ..).keeps p
    · split
      · exact Keeps.trans (b := { s with hif := setRing _ _ s.hif }) .of_hif ((complete_aside ..).keeps p)
      · exact (complete_aside ..).keeps p

theorem takeDestroyRing_keeps (h : Handle) (id : Byte) (s : State) : Keeps p s (takeDestroyRing h id s) := by
  unfold takeDestroyRing
  split
  · exact (complete_aside ..).keeps p
  · split
    · exact (complete_aside ..).keeps p
    · split
      · exact (complete_aside ..).keeps p
      · exact Keeps.trans (b := { s with hif := setRing _ _ s.hif }) .of_hif ((complete_aside ..).keeps p)

theorem takeConfigureEvents_keeps (h : Handle) (base : Addr) (size : Half) (keep : Bool) (mask : Word) (s : State) :
    Keeps p s (takeConfigureEvents h base size keep mask s) := by
  unfold takeConfigureEvents
  split
  · split
    · exact (complete_aside ..).keeps p
    · exact Keeps.trans (b := { s with hif := { s.hif with mask := kindBits mask } }) .of_hif ((complete_aside ..).keeps p)
  · split
    · rename_i ok
      rw [Bool.and_eq_true] at ok
      refine Keeps.trans (.of_rings (h := { s.hif with event := some (RecordRing.fresh base size.toNat), mask := kindBits mask })
        (Nat.le_refl _) (fun h => h) (creditsKept_of_eq rfl rfl) ?_) ((complete_aside ..).keeps p)
      intro _ q hq
      cases hq
      have hin := fresh_inRange (base := base) (ringSizeOk_pos ok.1)
      exact ⟨hin, unreleased_le hin⟩
    · exact (complete_aside ..).keeps p

theorem takeReadStatus_keeps (h : Handle) (addr : Addr) (len : Word) (s : State) :
    Keeps p s (takeReadStatus h addr len s) := by
  unfold takeReadStatus
  split
  · exact (complete_aside ..).keeps p
  · exact .of_hif

theorem endCopyOf_aside (o : Owner) (c : Copy) (ok : Bool) (s : State) : Aside s (endCopyOf o c ok s) := by
  unfold endCopyOf
  split
  · exact (emit_aside _ s).trans (complete_aside ..)
  · exact (emitPart_aside _ _ s).trans (complete_aside ..)

theorem endStatusCopy_keeps (n : Nat) (ok : Bool) (s : State) : Keeps p s (endStatusCopy n ok s) := by
  unfold endStatusCopy
  split
  · exact Keeps.trans (b := { s with hif := { s.hif with copies := s.hif.copies.eraseIdx n } }) .of_hif
      ((endCopyOf_aside ..).keeps p)
  · exact .refl p s

/-- A ring chosen for a fetch is eligible, with a credit free (R175, R176). -/
theorem fetchChoice_spec {s : State} {r : Nat} (h : fetchChoice s = some r) :
    s.hif.state = .running ∧ s.hif.fetch = none ∧ 0 < freeCredits s.hif ∧ ringEligible s r = true := by
  unfold fetchChoice at h
  split at h
  · rename_i run
    split at h
    · rename_i free
      rw [Bool.and_eq_true, Option.isNone_iff_eq_none, decide_eq_true_eq] at free
      obtain ⟨idle, credit⟩ := free
      exact ⟨run, idle, credit, List.find?_some h⟩
    · cases h
  · cases h

/-- A fetch takes one credit, and one from DISPATCH one free buffer. -/
theorem beginFetch_keeps (s : State) : Keeps p s (beginFetch s) := by
  unfold beginFetch
  split
  · rename_i r h
    obtain ⟨-, idle, credit, eligible⟩ := fetchChoice_spec h
    split
    · rename_i g hg
      refine Keeps.trans (b := { s with hif := { s.hif with fetch := some r, lastRing := r } })
        ?_ ((emit_aside _ _).keeps p)
      refine { Keeps.refl p s with pool := ?_, credits := ?_ }
      · intro k
        by_cases hr : r = dispatchRing
        · subst hr
          have room : 0 < poolFree s.apq := by
            simp only [ringEligible, hg, ne_eq, not_true_eq_false, decide_false, Bool.false_or, Bool.and_eq_true,
              decide_eq_true_eq] at eligible
            exact eligible.2
          simp only [poolFree] at room
          simp only [State.poolBounded, if_true]
          omega
        · simp only [State.poolBounded, Option.some.injEq, hr, if_false] at k ⊢
          omega
      · intro k q hq
        obtain ⟨hin, hle⟩ := k q hq
        refine ⟨hin, ?_⟩
        have hq' : s.hif.comp = some q := hq
        simp only [freeCredits, hq'] at credit
        simp only [takenCount, idle, Option.isSome_none, Option.isSome_some, Bool.false_eq_true, if_false, if_true]
          at hle credit ⊢
        omega
    · exact .refl p s
  · exact .refl p s

theorem failFetch_keeps (s : State) : Keeps p s (failFetch s) := by
  unfold failFetch
  split
  · split
    · exact enterFatal_keeps p _ s
    · exact .refl p s
  · exact .refl p s

theorem failRecordWrite_keeps (k : RecordKind) (s : State) : Keeps p s (failRecordWrite k s) := by
  unfold failRecordWrite
  split
  · cases k
    all_goals
      dsimp only
      split
      · exact enterFatal_keeps p _ s
      · exact .refl p s
  · exact .refl p s

/-- The take moves the credit of the fetch to the command. -/
theorem beginTake_keeps {tag : HostTag} {s t : State} {h : Handle} (e : beginTake tag s = some (h, t)) :
    Keeps p s t := by
  obtain ⟨r, g, hf, -, -, -, rfl⟩ := beginTake_spec e
  refine .of_rings (Nat.le_succ _) (by simp) ?_ (eventsKept_of_eq rfl)
  intro k q hq
  obtain ⟨hin, hle⟩ := k q hq
  refine ⟨hin, ?_⟩
  simp only [takenCount, hf, Option.isSome_none, Option.isSome_some, Bool.false_eq_true, if_false, if_true,
    List.length_append, List.length_singleton] at hle ⊢
  omega

theorem takeFrom_keeps {owner : Handle → State → State} (h : ∀ k s, Keeps p s (owner k s)) (ring : Nat)
    (tag : HostTag) (s : State) : Keeps p s (takeFrom ring tag owner s) := by
  unfold takeFrom
  split
  · exact .refl p s
  · rename_i e
    split
    · exact (beginTake_keeps p e).trans (h _ _)
    · exact (beginTake_keeps p e).trans ((complete_aside ..).keeps p)

theorem takeUnknown_keeps (tag : HostTag) (s : State) : Keeps p s (takeUnknown tag s) := by
  unfold takeUnknown
  split
  · rename_i e
    exact (beginTake_keeps p e).trans ((complete_aside ..).keeps p)
  · exact .refl p s

end

end Sys2Proof.Machine
end

section
/-!
PROOFS. `Keeps` and the blocks: the packet queues, the audio intake, the format monitor, the cadence and the session.
-/

namespace Sys2Proof.Machine

set_option Elab.async false

section
variable (p : Prop)

/-! ### Packets (section 8) -/

theorem setApq_keeps {s : State} {q : Apq}
    (awaiting : q.awaiting.length ≤ s.apq.awaiting.length := by exact Nat.le_refl _)
    (pool : poolHeld q ≤ poolHeld s.apq := by exact Nat.le_refl _) : Keeps p s { s with apq := q } :=
  .of_same (awaiting := awaiting) (pool := pool)

theorem finishPacket_aside (k : Packet) (st : Status) (s : State) : Aside s (finishPacket k st s) :=
  complete_aside ..

theorem finishPackets_aside (st : Status) (ps : List Packet) (s : State) : Aside s (finishPackets st ps s) :=
  foldl_aside (fun s k => finishPacket_aside k st s) ps s

/-- A packet that joins a class queue takes one buffer. -/
theorem poolHeld_setQueue (c : PacketClass) (ps : List Packet) (q : Apq) :
    poolHeld (setQueue c ps q) + (queueOf q c).length = poolHeld q + ps.length := by
  cases c <;> simp only [poolHeld, setQueue, queueOf] <;> omega

theorem poolHeld_joinTail (k : Packet) (q : Apq) :
    poolHeld (setQueue k.cls (queueOf q k.cls ++ [k]) q) = poolHeld q + 1 := by
  have h := poolHeld_setQueue k.cls (queueOf q k.cls ++ [k]) q
  rw [List.length_append, List.length_singleton] at h
  omega

theorem poolHeld_joinHead (k : Packet) (q : Apq) :
    poolHeld (setQueue k.cls (k :: queueOf q k.cls) q) = poolHeld q + 1 := by
  have h := poolHeld_setQueue k.cls (k :: queueOf q k.cls) q
  rw [List.length_cons] at h
  omega

theorem setQueue_awaiting (c : PacketClass) (ps : List Packet) (q : Apq) :
    (setQueue c ps q).awaiting = q.awaiting := by
  cases c <;> rfl

theorem startSendRead_keeps (s : State) : Keeps p s (startSendRead s) := by
  unfold startSendRead
  split
  · split
    · exact .refl p s
    · exact (setApq_keeps p).trans ((emit_aside _ _).keeps p)
  · exact .refl p s

theorem endSendRead_keeps (data : Option (List Byte)) (s : State) : Keeps p s (endSendRead data s) := by
  unfold endSendRead
  split
  · rename_i k ps hf
    split
    · dsimp only
      have off : Keeps p s { s with apq := { s.apq with fetching := ps, reading := false } } :=
        setApq_keeps p (Nat.le_refl _) (by simp only [poolHeld, hf, List.length_cons]; omega)
      split
      · exact off.trans ((finishPacket_aside ..).keeps p)
      · split
        · refine setApq_keeps p (by rw [setQueue_awaiting]) ((poolHeld_joinTail _ _).trans_le ?_)
          simp only [poolHeld, hf, List.length_cons]
          omega
        · exact off.trans ((finishPacket_aside ..).keeps p)
    · exact .refl p s
  · exact .refl p s

theorem expirePackets_keeps (s : State) : Keeps p s (expirePackets s) := by
  unfold expirePackets
  refine Keeps.trans (setApq_keeps p (pool := ?_)) ((finishPackets_aside ..).keeps p)
  have hu := List.length_filter_le (fun k => !Packet.late k s.fmon.fsn) s.apq.urgent
  have hn := List.length_filter_le (fun k => !Packet.late k s.fmon.fsn) s.apq.normal
  have hb := List.length_filter_le (fun k => !Packet.late k s.fmon.fsn) s.apq.bulk
  simp only [poolHeld]
  omega

theorem markDue_keeps (s : State) : Keeps p s (markDue s) :=
  setApq_keeps p (by rw [List.length_map]) (by simp only [poolHeld, List.length_map, Nat.le_refl])

theorem dropAwaiting_length_le (id : Nat) (q : Apq) : (dropAwaiting id q).awaiting.length ≤ q.awaiting.length :=
  List.length_filter_le ..

theorem dropAwaiting_poolHeld_le (id : Nat) (q : Apq) : poolHeld (dropAwaiting id q) ≤ poolHeld q :=
  Nat.add_le_add_left (dropAwaiting_length_le id q) _

/-- A packet of the list leaves at least its own place. -/
theorem dropAwaiting_length_lt {k : Packet} {id : Nat} {q : Apq} (h : awaitingWith q id = some k) :
    (dropAwaiting id q).awaiting.length < q.awaiting.length := by
  have hmem : k ∈ q.awaiting := List.mem_of_find?_eq_some h
  have hid : k.handle.id = id := by simpa using List.find?_some h
  exact List.length_filter_lt_length_iff_exists.2 ⟨k, hmem, by simp [hid]⟩

theorem dropAwaiting_keeps (id : Nat) (s : State) : Keeps p s { s with apq := dropAwaiting id s.apq } :=
  setApq_keeps p (dropAwaiting_length_le id _) (dropAwaiting_poolHeld_le id _)

theorem finishAwaiting_keeps (k : Packet) (st : Status) (s : State) : Keeps p s (finishAwaiting k st s) :=
  (dropAwaiting_keeps p _ s).trans ((finishPacket_aside ..).keeps p)

/-- The buffer that a retransmitted packet takes in its class is the one that it had. -/
theorem notReceived_keeps {k : Packet} {s : State} (h : awaitingWith s.apq k.handle.id = some k) :
    Keeps p s (notReceived k s) := by
  unfold notReceived
  split
  · exact finishAwaiting_keeps p k _ s
  · split
    · exact finishAwaiting_keeps p k _ s
    · have hlt := dropAwaiting_length_lt h
      refine setApq_keeps p (by rw [setQueue_awaiting]; exact hlt.le) ((poolHeld_joinHead _ _).trans_le ?_)
      simp only [poolHeld, dropAwaiting] at hlt ⊢
      omega

theorem judgeReceipt_keeps {k : Packet} {s : State} (h : awaitingWith s.apq k.handle.id = some k) (o : TxOutcome) :
    Keeps p s (judgeReceipt k o s) := by
  unfold judgeReceipt
  split
  · exact finishAwaiting_keeps p k _ s
  · split
    · exact finishAwaiting_keeps p k _ s
    · split
      · split
        · exact notReceived_keeps p h
        · exact finishAwaiting_keeps p k _ s
      · exact finishAwaiting_keeps p k _ s
    · exact finishAwaiting_keeps p k _ s

theorem judgeReceipt_linkDown_keeps (k : Packet) (s : State) : Keeps p s (judgeReceipt k .linkDown s) := by
  unfold judgeReceipt
  split <;> exact finishAwaiting_keeps p k _ s

theorem nextReceipt_keeps (s : State) : Keeps p s (nextReceipt s) := by
  unfold nextReceipt
  split
  · exact .refl p s
  · split
    · exact .refl p s
    · split
      · exact (setApq_keeps p).trans ((joinSet_aside ..).keeps p)
      · exact Keeps.foldl (fun s k => judgeReceipt_linkDown_keeps p k s) _ s

theorem settleReceipt_keeps (s : State) : Keeps p s (settleReceipt s) := by
  unfold settleReceipt
  split
  · split
    · exact .refl p s
    · split
      · exact .refl p s
      · exact (setApq_keeps p).trans ((withdraw_aside ..).keeps p)
  · exact .refl p s

theorem awaitingWith_handle {q : Apq} {id : Nat} {k : Packet} (h : awaitingWith q id = some k) : k.handle.id = id := by
  simpa using List.find?_some h

theorem judgeAndNext_keeps {k : Packet} {id : Nat} {s : State} (h : awaitingWith s.apq id = some k) (o : TxOutcome) :
    Keeps p s (judgeAndNext k o s) := by
  obtain rfl := awaitingWith_handle h
  let s1 : State := { s with apq := { s.apq with acPacket := none, held := none } }
  have judged : Keeps p s1 (judgeReceipt k o s1) := judgeReceipt_keeps p (s := s1) h o
  exact (Keeps.trans (setApq_keeps p) judged).trans (nextReceipt_keeps p _)

theorem acResult_keeps (o : TxOutcome) (s : State) : Keeps p s (acResult o s) := by
  unfold acResult
  split
  · exact .refl p s
  · split
    · exact (setApq_keeps p).trans (nextReceipt_keeps p _)
    · rename_i h
      split
      · exact setApq_keeps p
      · exact judgeAndNext_keeps p h o

theorem markReading_length_le (st : Status) (q : Apq) : (markReading st q).1.length ≤ q.fetching.length := by
  unfold markReading
  split
  · split <;> simp_all
  · simp

theorem endAllPackets_keeps (st : Status) (s : State) : Keeps p s (endAllPackets st s) := by
  have hf := markReading_length_le st s.apq
  refine Keeps.trans (setApq_keeps p (Nat.zero_le _) ?_) ((finishPackets_aside ..).keeps p)
  simp only [poolHeld, List.length_nil]
  omega

theorem packetsFullWalk_keeps (s : State) : Keeps p s (packetsFullWalk s) :=
  (endAllPackets_keeps p _ s).trans (settleReceipt_keeps p _)

theorem packetsSweep_keeps (s : State) : Keeps p s (packetsSweep s) := by
  unfold packetsSweep
  extract_lets keep src s1 s2
  have swept : Keeps p s s2 := by
    refine Keeps.trans (Keeps.trans (setApq_keeps p ?_ ?_) ((finishPackets_aside ..).keeps p)) (settleReceipt_keeps p _)
    · exact List.length_filter_le ..
    · have hu : (keep s.apq.urgent).length ≤ _ := List.length_filter_le ..
      have hn : (keep s.apq.normal).length ≤ _ := List.length_filter_le ..
      have hb : (keep s.apq.bulk).length ≤ _ := List.length_filter_le ..
      have ha : (keep s.apq.awaiting).length ≤ _ := List.length_filter_le ..
      simp only [poolHeld, src]
      omega
  split
  · split
    · rename_i h
      exact swept.trans (judgeAndNext_keeps p h _)
    · exact swept
  · exact swept.trans (nextReceipt_keeps p _)

theorem packetsDrop_keeps (s : State) : Keeps p s (packetsDrop s) := by
  unfold packetsDrop
  extract_lets named s0 s1 s2
  have chosen : Keeps p s s0 := .of_same
  have first : Keeps p s s1 := by
    unfold s1
    clear_value named s0
    cases named with
    | none => exact .refl p s
    | some k =>
      dsimp only
      split
      · exact chosen.trans (finishAwaiting_keeps p k _ s0)
      · exact chosen
  exact (first.trans (endAllPackets_keeps p .linkDown s1)).trans (setApq_keeps p)

theorem takeCancel_keeps (h : Handle) (target : HostTag) (s : State) : Keeps p s (takeCancel h target s) := by
  unfold takeCancel
  have drop (k : Packet) : Keeps p s { s with apq := dropQueued k.handle.id s.apq } := by
    refine setApq_keeps p (Nat.le_refl _) ?_
    have hlen (l : List Packet) := List.length_filter_le (fun x => !decide (x.handle.id = k.handle.id)) l
    have hf := hlen s.apq.fetching
    have hu := hlen s.apq.urgent
    have hn := hlen s.apq.normal
    have hb := hlen s.apq.bulk
    simp only [poolHeld, dropQueued]
    omega
  split
  · exact (complete_aside ..).keeps p
  · dsimp only
    split
    · refine Keeps.trans (setApq_keeps p (pool := ?_)) ((complete_aside ..).keeps p)
      simp only [poolHeld, markHead]
      split <;> simp [*]
    · exact (complete_aside ..).keeps p
    · exact ((drop _).trans ((finishPacket_aside ..).keeps p)).trans ((complete_aside ..).keeps p)

/-- SEND at its take is refused, or its packet joins the fetch list. -/
theorem takeSend_cases (h : Handle) (index : Byte) (broadcast ack : Bool) (cls : Byte) (deadline : Half)
    (serial : Serial) (addr : Addr) (len : Byte) (s : State) :
    Aside s (takeSend h index broadcast ack cls deadline serial addr len s)
      ∨ ∃ k, takeSend h index broadcast ack cls deadline serial addr len s
          = { s with apq := { s.apq with fetching := s.apq.fetching ++ [k] } } := by
  unfold takeSend
  extract_lets t
  split
  · exact .inl (complete_aside ..)
  · split
    · exact .inl (complete_aside ..)
    · split
      · exact .inl (complete_aside ..)
      · split
        · exact .inl (complete_aside ..)
        · exact .inr ⟨_, rfl⟩

/-- The buffer of a SEND is the one that its fetch from DISPATCH has kept (R127, R128). -/
theorem takeFrom_takeSend_keeps (tag : HostTag) (index : Byte) (broadcast ack : Bool) (cls : Byte) (deadline : Half)
    (serial : Serial) (addr : Addr) (len : Byte) (s : State) : Keeps p s
      (takeFrom dispatchRing tag (fun h => takeSend h index broadcast ack cls deadline serial addr len) s) := by
  unfold takeFrom
  split
  · exact .refl p s
  · rename_i h s1 e
    have taken := beginTake_keeps p e
    split
    · rename_i hring
      rcases takeSend_cases h index broadcast ack cls deadline serial addr len s1 with refused | ⟨k, joined⟩
      · exact taken.trans (refused.keeps p)
      · beta_reduce
        rw [joined]
        obtain ⟨r, g, hfetch, -, -, rfl, rfl⟩ := beginTake_spec e
        obtain rfl : r = dispatchRing := hring
        refine { taken with pool := fun hp => ?_ }
        simp only [State.poolBounded, hfetch, if_true] at hp
        simp only [State.poolBounded, poolHeld, List.length_append, List.length_singleton, reduceCtorEq, if_false]
          at hp ⊢
        omega
    · exact taken.trans ((complete_aside ..).keeps p)

theorem packetsIfReset_keeps (s : State) : Keeps p s (packetsIfReset s) :=
  ((withdraw_aside .ac s).keeps p).trans (setApq_keeps p (Nat.zero_le _) (Nat.zero_le _))

/-! ### Roster entries (section 4.1) -/

theorem entryAt_of_getElem? {s : State} {i : Nat} {e : Entry} (h : s.rwk.roster[i]? = some e) : entryAt s i = e := by
  simp [entryAt, List.getD, h]

/-- An entry changed by f keeps the roster's shape, if f makes no VACANT entry but one with the values of one. -/
theorem modify_rosterShaped {s : State} {i : Nat} {f : Entry → Entry}
    (h : s.rosterShaped → (f (entryAt s i)).state = .vacant → f (entryAt s i) = Entry.vacant) (k : s.rosterShaped) :
    (s.rwk.roster.modify i f).length = 64 ∧ ∀ e ∈ s.rwk.roster.modify i f, e.state = .vacant → e = Entry.vacant := by
  refine ⟨by rw [List.length_modify, k.1], fun e he hv => ?_⟩
  obtain ⟨j, hj⟩ := List.mem_iff_getElem?.1 he
  rw [List.getElem?_modify] at hj
  cases hr : s.rwk.roster[j]? with
  | none => simp [hr] at hj
  | some x =>
    have hx := k.2 x (List.mem_of_getElem? hr)
    by_cases hij : i = j
    · subst hij
      obtain rfl : f x = e := by simpa [hr] using hj
      have hf := h k
      rw [entryAt_of_getElem? hr] at hf
      exact hf hv
    · obtain rfl : x = e := by simpa [hr, hij] using hj
      exact hx hv

theorem setRoster_keeps {s : State} {r : List Entry}
    (h : s.rosterShaped → r.length = 64 ∧ ∀ e ∈ r, e.state = .vacant → e = Entry.vacant) :
    Keeps p s { s with rwk := { s.rwk with roster := r } } :=
  { Keeps.refl p s with roster := h }

theorem updEntry_keeps {s : State} {i : Nat} {f : Entry → Entry}
    (h : s.rosterShaped → (f (entryAt s i)).state = .vacant → f (entryAt s i) = Entry.vacant) :
    Keeps p s (updEntry i f s) :=
  setRoster_keeps p (modify_rosterShaped h)

/-- An ACTIVE entry changed in its other fields. -/
theorem updActive_keeps {s : State} {i : Nat} {f : Entry → Entry} (active : (entryAt s i).isActive = true)
    (h : ∀ e, (f e).state = e.state) : Keeps p s (updEntry i f s) := by
  refine updEntry_keeps p fun _ hv => ?_
  rw [h] at hv
  simp [Entry.isActive, hv] at active

/-- A map over the roster that leaves the VACANT values and makes no other VACANT entry. -/
theorem mapRoster_keeps {s : State} {f : Entry → Entry} (vacant : f Entry.vacant = Entry.vacant)
    (other : ∀ e, (f e).state = .vacant → e.state = .vacant) :
    Keeps p s { s with rwk := { s.rwk with roster := s.rwk.roster.map f } } := by
  refine setRoster_keeps p fun k => ⟨by rw [List.length_map, k.1], fun e he hv => ?_⟩
  obtain ⟨x, hx, rfl⟩ := List.mem_map.1 he
  rw [k.2 x hx (other x hv), vacant]

/-! ### Placement (R131 to R134) -/

theorem takeTag_keeps {i : Nat} {sn : Serial} {s t : State} {tag : Byte} (h : takeTag i sn s = some (tag, t)) :
    Keeps p s t := by
  unfold takeTag at h
  dsimp only at h
  split at h
  · rename_i held
    cases h
    rw [Bool.and_eq_true] at held
    exact updActive_keeps p held.1 (fun _ => rfl)
  · cases h

theorem tagFor_keeps (k : Packet) (s : State) : Keeps p s (tagFor k s).2 := by
  unfold tagFor
  split
  · split
    · exact takeTag_keeps p ‹_›
    · exact .refl p s
  · exact .refl p s

theorem tagFor_apq (k : Packet) (s : State) : (tagFor k s).2.apq = s.apq := by
  unfold tagFor
  split
  · split
    · rename_i h
      unfold takeTag at h
      dsimp only at h
      split at h <;> cases h
      rfl
    · rfl
  · rfl

/-- The state with the queue of a class replaced, as a selection leaves it when it has worked the class. -/
def State.withClass (c : PacketClass) (ps : List Packet) (s : State) : State :=
  { s with apq := setQueue c ps s.apq }

theorem withClass_queueOf (c : PacketClass) (s : State) : s.withClass c (queueOf s.apq c) = s := by
  cases c <;> rfl

theorem finishPacket_withClass (c : PacketClass) (k : Packet) (ps : List Packet) (st : Status) (s : State) :
    Keeps p (s.withClass c (k :: ps)) ((finishPacket k st s).withClass c ps) := by
  refine Keeps.trans (setApq_keeps p (q := setQueue c ps s.apq) ?_ ?_)
    ((finishPacket_aside k st (s.withClass c ps)).keeps p)
  · simp only [State.withClass, setQueue_awaiting, Nat.le_refl]
  · have h₁ := poolHeld_setQueue c ps s.apq
    have h₂ := poolHeld_setQueue c (k :: ps) s.apq
    simp only [State.withClass, List.length_cons] at h₂ ⊢
    omega

/-- A packet placed leaves its class, for the awaiting-ack list if it is acknowledged. -/
theorem placePacket_withClass {c : PacketClass} {k : Packet} {ps : List Packet} {pos : Nat} {x : Selection}
    (h : headCase x k = .place pos) :
    Keeps p (x.state.withClass c (k :: ps)) ((placePacket pos k x).state.withClass c ps) := by
  have tagged : Keeps p (x.state.withClass c (k :: ps)) ((tagFor k x.state).2.withClass c (k :: ps)) := by
    have t := tagFor_keeps p k x.state
    have q := tagFor_apq k x.state
    exact { t with
      awaiting := by simp only [State.awaitingBounded, State.withClass, q, imp_self]
      pool := by
        have hif : (tagFor k x.state).2.hif = x.state.hif := by
          unfold tagFor
          split
          · split
            · rename_i h
              unfold takeTag at h
              dsimp only at h
              split at h <;> cases h
              rfl
            · rfl
          · rfl
        simp only [State.poolBounded, State.withClass, q, hif]
        exact fun h => h }
  refine tagged.trans ?_
  have hq := tagFor_apq k x.state
  have h₁ := poolHeld_setQueue c ps x.state.apq
  have h₂ := poolHeld_setQueue c (k :: ps) x.state.apq
  unfold placePacket
  dsimp only
  split
  · rename_i ack
    have room : x.state.apq.awaiting.length < awaitingMax := by
      unfold headCase at h
      split at h
      · cases h
      · split at h
        · cases h
        · split at h
          · cases h
          · rename_i hfree
            simpa [ack] using hfree
    refine { Keeps.refl p _ with awaiting := fun _ => ?_, pool := ?_ }
    · simp only [State.awaitingBounded, State.withClass, setQueue_awaiting, List.length_append, hq,
        List.length_singleton]
      omega
    · have hpool (l : List Packet) : poolHeld (setQueue c ps { x.state.apq with awaiting := l })
          + x.state.apq.awaiting.length = poolHeld (setQueue c ps x.state.apq) + l.length := by
        cases c <;> simp only [poolHeld, setQueue] <;> omega
      have h₃ := hpool (x.state.apq.awaiting ++ [{ k with
        attempts := k.attempts + 1, placed := some x.state.fmon.fsn, tag := (tagFor k x.state).1, due := false }])
      simp only [List.length_append, List.length_cons, List.length_nil] at h₂ h₃
      simp only [State.poolBounded, State.withClass, hq]
      omega
  · refine Keeps.trans (setApq_keeps p (q := setQueue c ps (tagFor k x.state).2.apq) ?_ ?_)
      ((finishPacket_aside _ _ ((tagFor k x.state).2.withClass c ps)).keeps p)
    · simp only [State.withClass, setQueue_awaiting, Nat.le_refl]
    · simp only [State.withClass, hq, List.length_cons] at h₂ ⊢
      omega

theorem selectClass_withClass (c : PacketClass) (ps : List Packet) (x : Selection) :
    Keeps p (x.state.withClass c ps) ((selectClass ps x).2.state.withClass c (selectClass ps x).1) := by
  induction ps generalizing x with
  | nil => exact .refl p _
  | cons k ps ih =>
    unfold selectClass
    split
    · exact .refl p _
    · split
      · exact (finishPacket_withClass p c k ps .targetGone x.state).trans
          (ih { x with state := finishPacket k .targetGone x.state })
      · exact .refl p _
      · rename_i h
        exact (placePacket_withClass p h).trans (ih _)

theorem starveStep_withClass (ps : List Packet) (x : Selection) :
    Keeps p (x.state.withClass .bulk ps) ((starveStep ps x).2.1.state.withClass .bulk (starveStep ps x).1) := by
  induction ps generalizing x with
  | nil => exact .refl p _
  | cons k ps ih =>
    unfold starveStep
    split
    · exact (finishPacket_withClass p .bulk k ps .targetGone x.state).trans
        (ih { x with state := finishPacket k .targetGone x.state })
    · exact .refl p _
    · rename_i h
      exact placePacket_withClass p h

theorem selectQueue_keeps (c : PacketClass) (x : Selection) :
    Keeps p x.state (withQueue c (selectClass (queueOf x.state.apq c) x)).state := by
  have h := selectClass_withClass p c (queueOf x.state.apq c) x
  rw [withClass_queueOf] at h
  exact h

theorem setStarve_keeps (n : Nat) (x : Selection) : Keeps p x.state (setStarve n x).state :=
  setApq_keeps p

theorem classStep_keeps (waiting starved bulkBlocked : Bool) (x : Selection) :
    Keeps p x.state (classStep waiting starved bulkBlocked x).state := by
  have urgentNormal := (selectQueue_keeps p .urgent x).trans (selectQueue_keeps p .normal _)
  unfold classStep
  dsimp only
  refine Keeps.trans ?_ (setStarve_keeps p _ _)
  split
  · exact urgentNormal
  · exact urgentNormal.trans (selectQueue_keeps p .bulk _)

theorem selectPackets_keeps (x : Selection) : Keeps p x.state (selectPackets x).state := by
  unfold selectPackets
  dsimp only
  split
  · have h := starveStep_withClass p (queueOf x.state.apq .bulk) x
    rw [withClass_queueOf] at h
    exact h.trans (classStep_keeps p _ _ _ (withQueue .bulk
      ((starveStep x.state.apq.bulk x).1, (starveStep x.state.apq.bulk x).2.1)))
  · exact classStep_keeps p _ _ _ x

theorem addressedStage_keeps (x : Selection) : Keeps p x.state (addressedStage x).state := by
  unfold addressedStage
  split
  · exact selectPackets_keeps p x
  · exact .refl p _

/-! ### Audio (section 9) -/

theorem emptyFifo_keeps (s : State) : Keeps p s (emptyFifo s) := .of_same (fifo := Nat.zero_le _)

theorem joinFifo_keeps (f : AudioFormat) (g : List (BitVec 24)) (s : State) : Keeps p s (joinFifo f g s) := by
  unfold joinFifo
  split
  · rename_i room
    refine { Keeps.refl p s with fifo := fun _ => ?_ }
    simp only [State.fifoBounded, List.length_append, List.length_singleton]
    omega
  · split
    · exact .of_same
    · exact .refl p s

theorem countEdge_keeps (s : State) : Keeps p s (countEdge s) := .of_same

theorem beginCapture_keeps (s : State) : Keeps p s (beginCapture s) := by
  unfold beginCapture
  split
  · exact .refl p s
  · exact .of_same

theorem groupComplete_keeps (halves : List (List Bool)) (s : State) : Keeps p s (groupComplete halves s) := by
  unfold groupComplete
  split
  · exact .refl p s
  · split
    · dsimp only
      split
      · exact (countEdge_keeps p s).trans (joinFifo_keeps p _ _ _)
      · exact countEdge_keeps p s
    · exact .refl p s

theorem setPendingAudio_keeps (a : PendingAudio) (s : State) : Keeps p s (setPendingAudio a s) := by
  unfold setPendingAudio
  dsimp only
  split <;> exact .of_same

theorem formatInForce_keeps (f : Option AudioFormat) (s : State) : Keeps p s (formatInForce f s) :=
  .of_same (fifo := Nat.zero_le _)

theorem applyAudio_keeps (s : State) : Keeps p s (applyAudio s) := by
  unfold applyAudio
  split
  · exact (formatInForce_keeps p _ s).trans ((complete_aside ..).keeps p)
  · exact .refl p s

theorem audioSession_keeps (s : State) : Keeps p s (audioSession s) := by
  unfold audioSession
  split
  · exact .refl p s
  · dsimp only
    split
    · exact (emptyFifo_keeps p s).trans .of_same
    · exact emptyFifo_keeps p s

theorem audioFill_keeps (s : State) : Keeps p s (audioFill s) := by
  unfold audioFill
  split
  · split
    · exact .of_same
    · exact .refl p s
  · exact .refl p s

theorem handOverGroups_keeps (n : Nat) (s : State) : Keeps p s (handOverGroups n s) :=
  .of_same (fifo := by rw [handOverGroups]; exact (List.drop_sublist ..).length_le)

theorem judgeWindow_keeps (f : AudioFormat) (edges : Nat) (s : State) : Keeps p s (judgeWindow f edges s) := by
  unfold judgeWindow
  dsimp only
  split
  · split
    · exact .refl p s
    · exact Keeps.trans (b := { s with ain := { s.ain with audio := .halted } }) .of_same (emptyFifo_keeps p _)
        |>.trans ((post_aside ..).keeps p)
  · split
    · exact .of_same
    · exact .refl p s

theorem windowEnd_keeps (s : State) : Keeps p s (windowEnd s) := by
  unfold windowEnd
  split
  · exact (((advanceTo_aside _ s).keeps p).trans .of_same).trans (judgeWindow_keeps p _ _ _)
  · exact .refl p s

end

end Sys2Proof.Machine
end

section
/-!
PROOFS. `Keeps` and the session: the format monitor, the cadence, the link session and the frame plan.
-/

namespace Sys2Proof.Machine

set_option Elab.async false

/-! ### What the packet queues leave alone -/

/-- t is s but for APQ, the sideband and what is handed over. -/
structure Queues (s t : State) : Prop where
  ses : t.ses = s.ses
  rwk : t.rwk = s.rwk
  fmon : t.fmon = s.fmon
  bss : t.bss = s.bss

theorem Queues.refl (s : State) : Queues s s := ⟨rfl, rfl, rfl, rfl⟩

theorem Queues.trans {a b c : State} (h₁ : Queues a b) (h₂ : Queues b c) : Queues a c :=
  ⟨h₂.ses.trans h₁.ses, h₂.rwk.trans h₁.rwk, h₂.fmon.trans h₁.fmon, h₂.bss.trans h₁.bss⟩

theorem Queues.foldl {α : Type} {f : State → α → State} (h : ∀ s x, Queues s (f s x)) (l : List α) (s : State) :
    Queues s (l.foldl f s) := by
  induction l generalizing s with
  | nil => exact .refl s
  | cons x l ih => exact (h s x).trans (ih _)

theorem setApq_queues (s : State) (q : Apq) : Queues s { s with apq := q } := ⟨rfl, rfl, rfl, rfl⟩

theorem finishPacket_queues (k : Packet) (st : Status) (s : State) : Queues s (finishPacket k st s) :=
  ⟨rfl, rfl, rfl, rfl⟩

theorem joinSet_queues (r : Requester) (q : Request) (s : State) : Queues s (joinSet r q s) := by
  unfold joinSet
  split <;> exact ⟨rfl, rfl, rfl, rfl⟩

theorem withdraw_queues (r : Requester) (s : State) : Queues s (withdraw r s) := ⟨rfl, rfl, rfl, rfl⟩

theorem finishPackets_queues (st : Status) (ps : List Packet) (s : State) : Queues s (finishPackets st ps s) :=
  .foldl (fun s k => finishPacket_queues k st s) ps s

theorem expirePackets_queues (s : State) : Queues s (expirePackets s) :=
  (setApq_queues s _).trans (finishPackets_queues ..)

theorem finishAwaiting_queues (k : Packet) (st : Status) (s : State) : Queues s (finishAwaiting k st s) :=
  ⟨rfl, rfl, rfl, rfl⟩

theorem notReceived_queues (k : Packet) (s : State) : Queues s (notReceived k s) := by
  unfold notReceived
  split
  · exact finishAwaiting_queues ..
  · split
    · exact finishAwaiting_queues ..
    · exact ⟨rfl, rfl, rfl, rfl⟩

theorem judgeReceipt_queues (k : Packet) (o : TxOutcome) (s : State) : Queues s (judgeReceipt k o s) := by
  unfold judgeReceipt
  split
  · exact finishAwaiting_queues ..
  · split
    · exact finishAwaiting_queues ..
    · split
      · split
        · exact notReceived_queues k s
        · exact finishAwaiting_queues ..
      · exact finishAwaiting_queues ..
    · exact finishAwaiting_queues ..

theorem nextReceipt_queues (s : State) : Queues s (nextReceipt s) := by
  unfold nextReceipt
  split
  · exact .refl s
  · split
    · exact .refl s
    · split
      · exact (setApq_queues s _).trans (joinSet_queues ..)
      · exact .foldl (fun s k => judgeReceipt_queues k .linkDown s) _ s

theorem settleReceipt_queues (s : State) : Queues s (settleReceipt s) := by
  unfold settleReceipt
  split
  · split
    · exact .refl s
    · split
      · exact .refl s
      · exact ⟨rfl, rfl, rfl, rfl⟩
  · exact .refl s

theorem judgeAndNext_queues (k : Packet) (o : TxOutcome) (s : State) : Queues s (judgeAndNext k o s) :=
  ((setApq_queues s _).trans (judgeReceipt_queues k o _)).trans (nextReceipt_queues _)

theorem endAllPackets_queues (st : Status) (s : State) : Queues s (endAllPackets st s) :=
  (setApq_queues s _).trans (finishPackets_queues ..)

theorem packetsFullWalk_queues (s : State) : Queues s (packetsFullWalk s) :=
  (endAllPackets_queues _ s).trans (settleReceipt_queues _)

theorem packetsSweep_queues (s : State) : Queues s (packetsSweep s) := by
  unfold packetsSweep
  extract_lets keep src s1 s2
  have swept : Queues s s2 :=
    ((setApq_queues s _).trans (finishPackets_queues ..)).trans
      (settleReceipt_queues s1)
  split
  · split
    · exact swept.trans (judgeAndNext_queues ..)
    · exact swept
  · exact swept.trans (nextReceipt_queues s2)

section
variable (p : Prop)

/-! ### The session state (R3, R7, R11, R12) -/

/-- A change of the session state to another state than TRAINING, once no START-LINK is in flight. -/
theorem setSession_keeps {new : SessionState} (c : SessionCause) {s : State} (other : new ≠ .training)
    (ended : p → s.sessionShaped → s.ses.session = .training → s.ses.startLink = none) :
    Keeps p s (setSession new c s) := by
  obtain ⟨o, e⟩ := setSession_spec new c s
  have sent : s.out <+: (setSession new c s).out := by
    unfold setSession
    dsimp only
    split
    · exact List.prefix_append _ _
    · exact List.prefix_refl _
  have start : (setSession new c s).ses.startLink = s.ses.startLink := by
    unfold setSession; dsimp only; split <;> rfl
  have loss : (setSession new c s).ses.termLoss = if new.lanesOn then s.ses.termLoss else 0 := by
    unfold setSession; dsimp only; split <;> rfl
  have session := setSession_session new c s
  have lanes := setSession_lanes new c s
  have quiet := setSession_quiet new c s
  rw [e] at sent start loss session lanes quiet ⊢
  refine { Keeps.refl p s with sent := sent, lanes := fun _ => ?_, shape := fun hp hs => ?_ }
  · exact lanes.trans (congrArg _ session.symm)
  · have unheld := ended hp hs
    obtain ⟨h₁, h₂, h₃, h₄, h₅⟩ := hs
    refine ⟨fun k => ?_, fun k => absurd (session.symm.trans k) other, fun k => ?_, fun k => ?_, h₅⟩
    · rw [start] at k
      have tr := h₁ k
      rw [unheld tr] at k
      cases k
    · rw [quiet, quietOnEntry]
      rw [session] at k
      rw [if_pos k]
      exact ⟨rfl, rfl⟩
    · rw [session] at k
      rw [loss, if_neg (by simp [k])]

/-- A change from a state other than TRAINING. -/
theorem setSession_keeps_of_ne {new : SessionState} (c : SessionCause) {s : State} (other : new ≠ .training)
    (from_ : s.ses.session ≠ .training) : Keeps p s (setSession new c s) :=
  setSession_keeps p c other fun _ _ h => absurd h from_

theorem endStartLink_keeps (st : Status) (s : State) : Keeps p s (endStartLink st s) := by
  refine Keeps.trans (b := { s with ses := { s.ses with startLink := none } }) ?_ ((completeOpt_aside ..).keeps p)
  refine { Keeps.refl p s with shape := fun _ hs => ?_ }
  obtain ⟨h₁, h₂, h₃, h₄, h₅⟩ := hs
  exact ⟨fun k => (nomatch k), h₂, h₃, h₄, h₅⟩

theorem endStartLink_startLink (st : Status) (s : State) : (endStartLink st s).ses.startLink = none := by
  simp only [endStartLink, (completeOpt_aside ..).ses]

/-- SES ends a START-LINK in flight and leaves TRAINING. -/
theorem endStartLink_setSession_keeps (st : Status) {new : SessionState} (c : SessionCause) (s : State)
    (other : new ≠ .training) : Keeps p s (setSession new c (endStartLink st s)) :=
  (endStartLink_keeps p st s).trans (setSession_keeps p c other fun _ _ _ => endStartLink_startLink st s)

/-- The quiet reason set changed, with HOST and CADENCE as the session's shape allows them. -/
theorem setQuiet_keeps {s : State} {q : QuietSet}
    (h : s.ses.session.clearsQuiet = true → q.host = s.ses.quiet.host ∧ q.cadence = s.ses.quiet.cadence) :
    Keeps p s { s with ses := { s.ses with quiet := q } } := by
  refine { Keeps.refl p s with shape := fun _ hs => ?_ }
  obtain ⟨h₁, h₂, h₃, h₄, h₅⟩ := hs
  refine ⟨h₁, h₂, fun k => ?_, h₄, h₅⟩
  obtain ⟨eh, ec⟩ := h k
  exact ⟨eh.trans (h₃ k).1, ec.trans (h₃ k).2⟩

/-! ### Input formats (section 2) -/

theorem postLocked_keeps (s : State) : Keeps p s (postLocked s) :=
  Keeps.trans (b := { s with ses := { s.ses with formatDrop := true } }) .of_same ((post_aside ..).keeps p)

theorem postLost_keeps (c : LossCause) (s : State) : Keeps p s (postLost c s) := by
  unfold postLost
  refine Keeps.trans ?_ ((post_aside ..).keeps p)
  split
  · exact .of_same
  · exact .refl p s

theorem reportInputMode_keeps (s : State) : Keeps p s (reportInputMode s) := by
  unfold reportInputMode
  split
  · exact ((setFmon_aside s _).keeps p).trans (postLost_keeps p _ _)
  · exact .refl p s

theorem lockOn_keeps (r : Measurement) (s : State) : Keeps p s (lockOn r s) :=
  ((setFmon_aside s _).keeps p).trans (postLocked_keeps p _)

theorem newRun_aside (m : Measurement) (s : State) : Aside s (newRun m s) := setFmon_aside s _

theorem noRun_aside (s : State) : Aside s (noRun s) := setFmon_aside s _

theorem countEqual_keeps (r : Measurement) (s : State) : Keeps p s (countEqual r s) := by
  unfold countEqual
  split
  · exact (setFmon_aside s _).keeps p
  · exact lockOn_keeps p r s

theorem judgeAcquiring_keeps (m : Measurement) (valid : Bool) (s : State) :
    Keeps p s (judgeAcquiring m valid s) := by
  unfold judgeAcquiring
  split
  · split
    · split
      · exact countEqual_keeps p _ s
      · exact (newRun_aside m s).keeps p
    · exact (newRun_aside m s).keeps p
  · exact (noRun_aside s).keeps p

theorem judgeLocked_keeps (m : Measurement) (valid : Bool) (s : State) : Keeps p s (judgeLocked m valid s) := by
  unfold judgeLocked
  split
  · split
    · split
      · exact .refl p s
      · exact ((newRun_aside m s).keeps p).trans (postLost_keeps p _ _)
    · exact ((newRun_aside m s).keeps p).trans (postLost_keeps p _ _)
  · exact ((noRun_aside s).keeps p).trans (postLost_keeps p _ _)

theorem judgeMeasurement_keeps (m : Measurement) (valid : Bool) (s : State) :
    Keeps p s (judgeMeasurement m valid s) := by
  unfold judgeMeasurement
  split
  · exact judgeAcquiring_keeps p m valid s
  · exact judgeLocked_keeps p m valid s
  · exact .refl p s

theorem closeMeasurement_keeps (s : State) : Keeps p s (closeMeasurement s) := by
  unfold closeMeasurement
  split
  · exact ((setFmon_aside s _).keeps p).trans (judgeMeasurement_keeps p _ _ _)
  · exact .refl p s

theorem countFrame_keeps (s : State) : Keeps p s (countFrame s) :=
  ((setFmon_aside s _).keeps p).trans (reportInputMode_keeps p _)

theorem fmonBoundary_keeps (s : State) : Keeps p s (fmonBoundary s) :=
  ((countFrame_keeps p s).trans (closeMeasurement_keeps p _)).trans ((openMeasurement_aside _).keeps p)

theorem fmonFlywheel_keeps (s : State) : Keeps p s (fmonFlywheel s) :=
  ((setFmon_aside s _).keeps p).trans (countFrame_keeps p _)

theorem fmonNoSignal_keeps (s : State) : Keeps p s (fmonNoSignal s) := by
  unfold fmonNoSignal
  extract_lets wasLocked src s1
  have flown : Keeps p s s1 := ((setFmon_aside s _).keeps p).trans (fmonFlywheel_keeps p _)
  split
  · exact flown.trans (postLost_keeps p _ s1)
  · exact flown

theorem noteSecondField_aside (s : State) : Aside s (noteSecondField s) := setFmon_aside s _

theorem reclassify_keeps (s : State) : Keeps p s (reclassify s) := by
  unfold reclassify
  split
  · dsimp only
    split
    · exact .refl p s
    · exact ((setFmon_aside s _).keeps p).trans (postLocked_keeps p _)
  · exact .refl p s

theorem loadFormat_keeps (h : Handle) (code : Nat) (clear : Bool) (e : FormatEntry) (s : State) :
    Keeps p s (loadFormat h code clear e s) := by
  unfold loadFormat
  split
  · exact (((setFmon_aside s _).keeps p).trans (reclassify_keeps p _)).trans ((complete_aside ..).keeps p)
  · exact (complete_aside ..).keeps p

/-! ### The cadence (R103 to R109) -/

theorem setBss_keeps {s : State} {b : Bss} (factors : s.factorsLegal → State.factorsLegal { s with bss := b })
    (plan : b.plan = s.bss.plan) : Keeps p s { s with bss := b } :=
  { Keeps.refl p s with factors := factors, plan := by simp only [State.planFits, plan, imp_self] }

theorem setCadenceReason_keeps {b : Bool} {s : State} (h : s.ses.session.clearsQuiet = true → b = false) :
    Keeps p s (setCadenceReason b s) := by
  refine { Keeps.refl p s with shape := fun _ hs => ?_ }
  obtain ⟨h₁, h₂, h₃, h₄, h₅⟩ := hs
  exact ⟨h₁, h₂, fun k => ⟨(h₃ k).1, h k⟩, h₄, h₅⟩

theorem linkUp_of_clearsQuiet {x : SessionState} (h : x.clearsQuiet = true) : x.linkUp = false := by
  cases x <;> first | rfl | cases h

theorem applyCadence_keeps (s : State) : Keeps p s (applyCadence s) := by
  unfold applyCadence
  split
  · rename_i q hq
    refine setBss_keeps p (fun k => ?_) rfl
    obtain ⟨factor, host, announced, pending⟩ := k
    exact ⟨factor, pending q hq, announced, fun _ h => by cases h⟩
  · exact .refl p s

theorem moveFactor_keeps {d f : Nat} {s : State} (h : s.factorsLegal → factorLegal f) :
    Keeps p s (moveFactor d f s) := by
  let s1 : State := { s with bss := { s.bss with factor := f, announced := none, lowerFits := 0 } }
  have moved : Keeps p s s1 := by
    refine setBss_keeps p (fun k => ?_) rfl
    have new := h k
    obtain ⟨factor, host, announced, pending⟩ := k
    exact ⟨new, host, fun _ h => (nomatch h), pending⟩
  have reason : Keeps p s1 (setCadenceReason s.ses.session.linkUp s1) :=
    setCadenceReason_keeps p (s := s1) linkUp_of_clearsQuiet
  exact (moved.trans reason).trans ((post_aside ..).keeps p)

theorem cadenceDecision_keeps {d needed : Nat} {s : State} (h : s.factorsLegal → factorLegal needed) :
    Keeps p s (cadenceDecision d needed s).1 := by
  unfold cadenceDecision
  extract_lets r fits short up moves src s1 change s2
  have decided : Keeps p s s1 := by
    refine setBss_keeps p (fun k => ?_) rfl
    have new := h k
    obtain ⟨factor, host, announced, pending⟩ := k
    refine ⟨?_, host, fun f hf => ?_, pending⟩
    · show factorLegal (if moves = true then needed else s.bss.factor)
      split
      · exact new
      · exact factor
    · have hf : (if (r.2 && up) = true then some needed else none) = some f := hf
      split at hf
      · cases hf
        exact new
      · cases hf
  have posted : Keeps p s1 s2 := by
    unfold s2
    clear_value moves short s1 change
    cases moves with
    | true =>
      cases short with
      | true => exact (postEither_aside ..).keeps p
      | false => exact (post_aside ..).keeps p
    | false =>
      cases short with
      | true => exact (post_aside ..).keeps p
      | false => exact .refl p s1
  exact decided.trans posted

theorem cadenceStep_keeps (s : State) : Keeps p s (cadenceStep s).1 := by
  have legal (d : Nat) (k : s.factorsLegal) : factorLegal (neededFactor s.bss s.fmon.geometry d) :=
    neededFactor_legal k.2.1
  unfold cadenceStep
  dsimp only
  split
  · rename_i f hf
    split
    · exact moveFactor_keeps p fun k => k.2.2.1 f hf
    · exact moveFactor_keeps p (legal _)
  · split
    · exact cadenceDecision_keeps p (legal _)
    · exact moveFactor_keeps p (legal _)

theorem bssFrameStart_keeps (s : State) : Keeps p s (bssFrameStart s).1 := by
  have stepped := ((setCadenceReason_keeps p (b := false) (s := s) fun _ => rfl).trans (applyCadence_keeps p _)).trans
    (cadenceStep_keeps p _)
  unfold bssFrameStart
  dsimp only
  split
  · exact stepped.trans ((complete_aside ..).keeps p)
  · exact stepped

theorem setShortfall_keeps (b : Bool) (s : State) :
    Keeps p s { s with bss := { s.bss with shortfall := b } } := setBss_keeps p (fun k => k) rfl

theorem judgeSkips_keeps (w : CadenceWork) (skips : Bool) (s : State) : Keeps p s (judgeSkips w skips s) := by
  unfold judgeSkips
  split
  · split
    · exact .refl p s
    · exact (setShortfall_keeps p true s).trans ((post_aside ..).keeps p)
  · split
    · exact setShortfall_keeps p false s
    · exact .refl p s

theorem cadenceRecord_legal {h : Handle} {mode factor reserve : Byte} {c : PendingCadence}
    (e : cadenceRecord h mode factor reserve = some c) : factorLegal c.factor := by
  unfold cadenceRecord at e
  split at e
  · split at e
    · rename_i ok
      cases e
      obtain ⟨rfl | rfl | rfl, -⟩ := ok
      · exact .inl rfl
      · exact .inr (.inl rfl)
      · exact .inr (.inr rfl)
    · cases e
  · cases e

theorem setPendingCadence_keeps {c : PendingCadence} (h : factorLegal c.factor) (s : State) :
    Keeps p s (setPendingCadence c s) := by
  unfold setPendingCadence
  extract_lets s1
  have superseded : Keeps p s s1 := by
    unfold s1
    split
    · exact (complete_aside ..).keeps p
    · exact .refl p s
  refine superseded.trans (setBss_keeps p (fun k => ?_) rfl)
  obtain ⟨factor, host, announced, pending⟩ := k
  exact ⟨factor, host, announced, fun _ e => by cases e; exact h⟩

/-! ### Link checks (R9, R18, R19) -/

theorem lcPlace_keeps (i : Nat) (training : Bool) (s : State) : Keeps p s (lcPlace i training s) := by
  unfold lcPlace
  split
  · exact Keeps.trans (b := { s with ses := { s.ses with
      linkCheck := some ⟨i, (entryAt s i).serial, s.ses.linkFrames, training, false⟩ } }) .of_same
      ((joinSet_aside ..).keeps p)
  · exact .refl p s

theorem issueLinkCheck_keeps (s : State) : Keeps p s (issueLinkCheck s) := by
  unfold issueLinkCheck
  split
  · split
    · rename_i i _
      exact Keeps.trans (b := { s with ses := { s.ses with cursor := i } }) .of_same (lcPlace_keeps p _ _ _)
    · exact .refl p s
  · exact .refl p s

theorem lcWalkStart_keeps (s : State) : Keeps p s (lcWalkStart s) := by
  unfold lcWalkStart
  split
  · exact Keeps.trans (b := { s with ses := { s.ses with linkCheck := none } }) .of_same ((withdraw_aside ..).keeps p)
  · exact .refl p s

theorem checkPass_keeps {i : Nat} {s : State} (active : (entryAt s i).isActive = true) :
    Keeps p s (checkPass i s) := by
  have passed : Keeps p s (updEntry i (fun e => { e with miss := 0, suspect := false }) s) :=
    updActive_keeps p active fun _ => rfl
  unfold checkPass
  dsimp only
  split
  · exact passed.trans ((post_aside ..).keeps p)
  · exact passed

theorem checkMiss_keeps {i : Nat} {s : State} (active : (entryAt s i).isActive = true)
    (carries : s.ses.session.carries = true) : Keeps p s (checkMiss i s) := by
  have other : s.ses.session ≠ .training := fun h => by rw [h] at carries; cases carries
  have suspect : Keeps p s (updEntry i (fun e => { e with miss := 3, suspect := true }) s) :=
    updActive_keeps p active fun _ => rfl
  unfold checkMiss
  dsimp only
  split
  · exact updActive_keeps p active fun _ => rfl
  · split
    · have posted := suspect.trans ((post_aside .ses (.tileSuspect i 3 (entryAt s i).serial) _).keeps p)
      split
      · exact posted.trans (setSession_keeps_of_ne p _ (by decide) other)
      · exact posted
    · exact .refl p s

theorem judgeCheck_keeps (c : LinkCheck) (o : TxOutcome) (s : State) : Keeps p s (judgeCheck c o s) := by
  unfold judgeCheck
  split
  · rename_i h
    simp only [Bool.and_eq_true] at h
    obtain ⟨⟨⟨carries, -⟩, active⟩, -⟩ := h
    split
    · split
      · exact checkPass_keeps p active
      · exact checkMiss_keeps p active carries
    · exact .refl p s
    · exact .refl p s
    · exact checkMiss_keeps p active carries
  · exact .refl p s

theorem lcResult_keeps (o : TxOutcome) (s : State) : Keeps p s (lcResult o s) := by
  unfold lcResult
  split
  · exact .refl p s
  · extract_lets src s1
    have cleared : Keeps p s s1 := .of_same
    split
    · exact cleared
    · split
      · split
        · split
          · exact .of_same
          · exact cleared
        · exact cleared
      · exact cleared.trans (judgeCheck_keeps p _ o s1)

/-! ### SES at a frame start (R2, R9 to R17) -/

theorem dropFormat_keeps (s : State) : Keeps p s (dropFormat s) := by
  unfold dropFormat
  split
  · exact .of_same
  · exact .refl p s

theorem sampleTerm_keeps (term : Bool) (s : State) : Keeps p s (sampleTerm term s) := by
  refine { Keeps.refl p s with shape := fun _ hs => ?_ }
  obtain ⟨h₁, h₂, h₃, h₄, h₅⟩ := hs
  refine ⟨h₁, h₂, h₃, fun k => ?_, h₅⟩
  have k : s.ses.session.lanesOn = false := k
  have off : (sampleTerm term s).ses.termLoss = s.ses.termLoss := by simp [sampleTerm, k]
  exact off.trans (h₄ k)

theorem terminationLoss_keeps (s : State) : Keeps p s (terminationLoss s) := by
  unfold terminationLoss
  split
  · exact endStartLink_setSession_keeps p _ _ s (by decide)
  · rename_i h
    exact setSession_keeps_of_ne p _ (by decide) (by rw [h]; decide)
  · rename_i h
    exact setSession_keeps_of_ne p _ (by decide) (by rw [h]; decide)
  · exact .refl p s

theorem trainingFail_keeps (s : State) : Keeps p s (trainingFail s) :=
  endStartLink_setSession_keeps p _ _ s (by decide)

theorem restartTraining_keeps (s : State) : Keeps p s (restartTraining s) := .of_same

theorem linkLocked_keeps (s : State) : Keeps p s (linkLocked s) := by
  have ended := endStartLink_keeps p .ok s
  unfold linkLocked
  extract_lets s1 s2
  have cleared : Keeps p s s2 ∧ s2.ses.startLink = none := by
    unfold s2
    split
    · rename_i active
      have same : s1.rwk = s.rwk := (completeOpt_aside ..).rwk
      refine ⟨ended.trans (updActive_keeps p ?_ fun _ => rfl), endStartLink_startLink .ok s⟩
      rw [entryAt, same]
      exact active
    · exact ⟨ended, endStartLink_startLink .ok s⟩
  obtain ⟨cleared, none⟩ := cleared
  have counted : Keeps p s2 { s2 with ses := { s2.ses with linkFrames := 0, cursor := 63 } } := .of_same
  refine (cleared.trans counted).trans (setSession_keeps p _ ?_ fun _ _ _ => none)
  split <;> decide

theorem countTraining_keeps (s : State) : Keeps p s (countTraining s) := by
  unfold countTraining
  extract_lets n src s1
  have counted : Keeps p s s1 := .of_same
  split
  · exact counted.trans (trainingFail_keeps p s1)
  · split
    · exact counted.trans (lcPlace_keeps p 0 true s1)
    · exact counted

theorem trainingStep_keeps (restart : Bool) (s : State) : Keeps p s (trainingStep restart s) := by
  unfold trainingStep
  split
  · exact terminationLoss_keeps p s
  · split
    · exact restartTraining_keeps p s
    · split
      · exact linkLocked_keeps p s
      · exact countTraining_keeps p s

theorem judgeQuiet_keeps (s : State) : Keeps p s (judgeQuiet s) := by
  unfold judgeQuiet
  split
  · rename_i h _
    exact setSession_keeps_of_ne p _ (by decide) (by rw [h]; decide)
  · rename_i h _
    exact setSession_keeps_of_ne p _ (by decide) (by rw [h]; decide)
  · exact .refl p s

theorem carryingStep_keeps (s : State) : Keeps p s (carryingStep s) := by
  unfold carryingStep
  split
  · exact terminationLoss_keeps p s
  · exact Keeps.trans .of_same (judgeQuiet_keeps p _)

theorem completeQuiets_keeps (s : State) : Keeps p s (completeQuiets s) :=
  Keeps.trans (b := { s with ses := { s.ses with pendingQuiet := [] } }) .of_same
    (Keeps.foldl (fun _ _ => (complete_aside ..).keeps p) _ _)

theorem sesFrameStart_keeps (restart : Bool) (s : State) : Keeps p s (sesFrameStart restart s) := by
  unfold sesFrameStart
  refine Keeps.trans ?_ (completeQuiets_keeps p _)
  split
  · exact trainingStep_keeps p restart s
  · exact carryingStep_keeps p s
  · exact carryingStep_keeps p s
  · exact .refl p s

theorem terminationLimit_keeps (s : State) : Keeps p s (terminationLimit s) := by
  unfold terminationLimit
  split
  · rename_i on
    rw [Bool.and_eq_true] at on
    refine Keeps.trans ?_ (terminationLoss_keeps p _)
    refine { Keeps.refl p s with shape := fun _ hs => ?_ }
    obtain ⟨h₁, h₂, h₃, -, h₅⟩ := hs
    exact ⟨h₁, h₂, h₃, fun off => absurd (on.1.symm.trans off) (by decide), h₅⟩
  · exact .refl p s

theorem trainingLimit_keeps (s : State) : Keeps p s (trainingLimit s) := by
  unfold trainingLimit
  split
  · split
    · split
      · exact linkLocked_keeps p s
      · exact Keeps.trans (b := { s with ses := { s.ses with trainCount := trainingFrames } }) .of_same
          (trainingFail_keeps p _)
    · exact .refl p s
  · exact .refl p s

/-! ### The commands of the link session (R8, R11, R16, R20) -/

theorem startLinkRefusal_none {s : State} (h : startLinkRefusal s = none) : s.rwk.walking = false := by
  unfold startLinkRefusal at h
  split at h
  · cases h
  · split at h
    · cases h
    · simpa using ‹¬ s.rwk.walking = true›

/-- START-LINK enters TRAINING with the command held, while no walk runs. -/
theorem takeStartLink_keeps (h : Handle) (s : State) : Keeps p s (takeStartLink h s) := by
  unfold takeStartLink
  split
  · exact (complete_aside ..).keeps p
  · rename_i none
    have idle := startLinkRefusal_none none
    obtain ⟨o, e⟩ := setSession_spec .training .hostStart { s with ses := { s.ses with
      startLink := some h, trainCount := 0, termLoss := 0, lockSeen := false } }
    have sent : s.out <+: (setSession .training .hostStart { s with ses := { s.ses with
        startLink := some h, trainCount := 0, termLoss := 0, lockSeen := false } }).out := by
      unfold setSession
      dsimp only
      split
      · exact List.prefix_append _ _
      · exact List.prefix_refl _
    have session := setSession_session .training .hostStart { s with ses := { s.ses with
      startLink := some h, trainCount := 0, termLoss := 0, lockSeen := false } }
    have lanes := setSession_lanes .training .hostStart { s with ses := { s.ses with
      startLink := some h, trainCount := 0, termLoss := 0, lockSeen := false } }
    rw [e] at sent session lanes ⊢
    refine { Keeps.refl p s with sent := sent, lanes := fun _ => ?_, shape := fun hp hs => ?_ }
    · exact lanes.trans (congrArg _ session.symm)
    · obtain ⟨h₁, h₂, h₃, h₄, h₅⟩ := hs
      refine ⟨fun _ => session, fun _ => idle, fun k => ?_, fun k => ?_, h₅⟩
      · rw [session] at k
        cases k
      · rw [session] at k
        cases k

theorem takeQuiet_keeps (on : Bool) (h : Handle) (s : State) : Keeps p s (takeQuiet on h s) := by
  unfold takeQuiet
  split
  · exact (complete_aside ..).keeps p
  · rename_i carries
    split
    · exact (complete_aside ..).keeps p
    · refine { Keeps.refl p s with shape := fun _ hs => ?_ }
      obtain ⟨h₁, h₂, h₃, h₄, h₅⟩ := hs
      refine ⟨h₁, h₂, fun k => absurd k ?_, h₄, h₅⟩
      intro k
      cases hx : s.ses.session <;> simp_all [SessionState.carries, SessionState.clearsQuiet]

theorem takeSetSession_keeps (h : Handle) (e r q : Bool) (s : State) : Keeps p s (takeSetSession h e r q s) := by
  unfold takeSetSession
  extract_lets old set src
  refine Keeps.trans (.of_same (host := ?_) (cadence := ?_)) ((complete_aside ..).keeps p)
  · show set.host = _
    unfold set
    split <;> rfl
  · show set.cadence = _
    unfold set
    split <;> rfl

theorem presenceLow_keeps (s : State) : Keeps p s (presenceLow s) := by
  unfold presenceLow
  dsimp only
  split <;> exact .of_same

theorem presenceRise_keeps (s : State) : Keeps p s (presenceRise s) := by
  unfold presenceRise
  extract_lets pins s1 src s2
  have rose : Keeps p s s2 := .of_same
  split
  · exact .of_same
  · split
    · rename_i h
      have timed : Keeps p s2 { s2 with ses := { s2.ses with settle := some s.now } } := .of_same
      refine (rose.trans timed).trans (setSession_keeps_of_ne p _ (by decide) ?_)
      show s.ses.session ≠ .training
      rw [h]
      decide
    · exact rose

theorem presenceHigh_keeps (s : State) : Keeps p s (presenceHigh s) := by
  unfold presenceHigh
  split
  · exact .of_same
  · exact presenceRise_keeps p s

end

/-! ### The plan (R110 to R113) -/

/-- The slots placed so far lie before the cursor, and the cursor in the frame. -/
def StandingStage.fits (cap : Nat) (x : StandingStage) : Prop := (x.placed.map (·.2)).sum ≤ x.cursor ∧ x.cursor ≤ cap

theorem placeStanding_fits {s : State} {x : StandingStage}
    (h : x.fits (capacity s.fmon.geometry s.bss.factor)) (i : Nat) :
    (placeStanding s x i).fits (capacity s.fmon.geometry s.bss.factor) := by
  obtain ⟨sum, cursor⟩ := h
  unfold placeStanding
  dsimp only
  split
  · rename_i pos hp
    obtain ⟨after, within⟩ := placeAt_bounds hp
    refine ⟨?_, within⟩
    simp only [List.map_append, List.map_cons, List.map_nil, List.sum_append, List.sum_cons, List.sum_nil]
    omega
  · exact ⟨sum, cursor⟩

theorem standingStage_fits (s : State) : (standingStage s).fits (capacity s.fmon.geometry s.bss.factor) := by
  have fold (l : List Nat) (x : StandingStage) (h : x.fits (capacity s.fmon.geometry s.bss.factor)) :
      (l.foldl (placeStanding s) x).fits (capacity s.fmon.geometry s.bss.factor) := by
    induction l generalizing x with
    | nil => exact h
    | cons i l ih => exact ih _ (placeStanding_fits h i)
  exact fold _ _ ⟨Nat.le_refl _, Nat.zero_le _⟩

/-- From x to y the cursor stays within the frame, and has passed the slots of what has been placed. -/
structure Selection.Advances (x y : Selection) : Prop where
  layout : KeepsLayout x.state y.state
  grown : (y.placed.map (·.slots)).sum + x.cursor ≤ (x.placed.map (·.slots)).sum + y.cursor
  within : x.cursor ≤ capacity x.state.fmon.geometry x.state.bss.factor →
    y.cursor ≤ capacity x.state.fmon.geometry x.state.bss.factor

theorem Selection.Advances.refl (x : Selection) : x.Advances x := ⟨.refl _, Nat.le_refl _, id⟩

theorem Selection.Advances.trans {x y z : Selection} (h₁ : x.Advances y) (h₂ : y.Advances z) : x.Advances z := by
  obtain ⟨lay₁, grown₁, within₁⟩ := h₁
  obtain ⟨lay₂, grown₂, within₂⟩ := h₂
  refine ⟨lay₁.trans lay₂, by omega, fun h => ?_⟩
  rw [lay₁.1, lay₁.2] at within₂
  exact within₂ (within₁ h)

/-- Only the state of the selection changes. -/
theorem Selection.Advances.of_state {x : Selection} {t : State} (h : KeepsLayout x.state t) :
    x.Advances { x with state := t } := ⟨h, Nat.le_refl _, id⟩

theorem headCase_place {x : Selection} {k : Packet} {pos : Nat} (h : headCase x k = .place pos) :
    placeAt x.state.fmon.geometry x.state.bss.factor x.cursor k.slots = some pos := by
  unfold headCase at h
  split at h
  · cases h
  · split at h
    · cases h
    · rename_i hp
      split at h
      · cases h
      · cases h
        exact hp

theorem placePacket_advances {x : Selection} {k : Packet} {pos : Nat} (h : headCase x k = .place pos) :
    x.Advances (placePacket pos k x) := by
  obtain ⟨after, within⟩ := placeAt_bounds (headCase_place h)
  refine ⟨placePacket_keepsLayout pos k x, ?_, fun _ => within⟩
  simp only [placePacket, List.map_append, List.map_cons, List.map_nil, List.sum_append, List.sum_cons, List.sum_nil]
  omega

theorem selectClass_advances (ps : List Packet) (x : Selection) : x.Advances (selectClass ps x).2 := by
  induction ps generalizing x with
  | nil => exact .refl x
  | cons k ps ih =>
    unfold selectClass
    split
    · exact .refl x
    · split
      · exact (Selection.Advances.of_state (finishPacket_keepsLayout k .targetGone x.state)).trans (ih _)
      · exact .refl x
      · rename_i h
        exact (placePacket_advances h).trans (ih _)

theorem starveStep_advances (ps : List Packet) (x : Selection) : x.Advances (starveStep ps x).2.1 := by
  induction ps generalizing x with
  | nil => exact .refl x
  | cons k ps ih =>
    unfold starveStep
    split
    · exact (Selection.Advances.of_state (finishPacket_keepsLayout k .targetGone x.state)).trans (ih _)
    · exact .refl x
    · rename_i h
      exact placePacket_advances h

theorem withQueue_advances {x : Selection} {c : PacketClass} {r : List Packet × Selection} (h : x.Advances r.2) :
    x.Advances (withQueue c r) := h.trans (.of_state (withQueue_keepsLayout c r))

theorem classStep_advances (waiting starved bulkBlocked : Bool) (x : Selection) :
    x.Advances (classStep waiting starved bulkBlocked x) := by
  have urgentNormal := (withQueue_advances (c := .urgent) (selectClass_advances x.state.apq.urgent x)).trans
    (withQueue_advances (c := .normal) (selectClass_advances
      (withQueue .urgent (selectClass x.state.apq.urgent x)).state.apq.normal _))
  unfold classStep
  dsimp only
  refine Selection.Advances.trans ?_ (.of_state (setStarve_keepsLayout _ _))
  split
  · exact urgentNormal
  · exact urgentNormal.trans (withQueue_advances (c := .bulk) (selectClass_advances _ _))

theorem addressedStage_advances (x : Selection) : x.Advances (addressedStage x) := by
  unfold addressedStage
  split
  · unfold selectPackets
    dsimp only
    split
    · exact (withQueue_advances (c := .bulk) (r := (_, _)) (starveStep_advances x.state.apq.bulk x)).trans
        (classStep_advances _ _ _ _)
    · exact classStep_advances _ _ _ x
  · exact .refl x

theorem audioAllowance_le (s : State) (cursor : Nat) :
    audioAllowance s cursor ≤ capacity s.fmon.geometry s.bss.factor - cursor := by
  unfold audioAllowance
  split
  · exact (Nat.min_le_right _ _).trans (Nat.min_le_right _ _)
  · exact Nat.zero_le _

/-- The three stages of a plan stay within the slots of the frame (R110 to R113). -/
theorem stages_fit (s : State) :
    let st := standingStage s
    let n := audioAllowance s st.cursor
    (st.placed.map (·.2)).sum + n + ((addressedStage (audioStage n ⟨s, st.cursor, [], st.sent⟩)).placed.map (·.slots)).sum
      ≤ capacity s.fmon.geometry s.bss.factor := by
  intro st n
  obtain ⟨sum, cursor⟩ : (standingStage s).fits (capacity s.fmon.geometry s.bss.factor) := standingStage_fits s
  have allowance : n ≤ capacity s.fmon.geometry s.bss.factor - st.cursor := audioAllowance_le s st.cursor
  obtain ⟨-, grown, within⟩ := addressedStage_advances (audioStage n ⟨s, st.cursor, [], st.sent⟩)
  have placed : (audioStage n ⟨s, st.cursor, [], st.sent⟩).placed = [] := rfl
  have begins : (audioStage n ⟨s, st.cursor, [], st.sent⟩).cursor = st.cursor + n := rfl
  have same : capacity (audioStage n ⟨s, st.cursor, [], st.sent⟩).state.fmon.geometry
    (audioStage n ⟨s, st.cursor, [], st.sent⟩).state.bss.factor = capacity s.fmon.geometry s.bss.factor := rfl
  rw [placed, begins, List.map_nil, List.sum_nil] at grown
  rw [begins, same] at within
  have stage : st = standingStage s := rfl
  rw [← stage] at sum cursor
  have inside := within (by omega)
  omega

section
variable (p : Prop)

theorem sendFrame_keeps (packets : List (List Byte)) (s : State) : Keeps p s (sendFrame packets s) := by
  unfold sendFrame
  split
  · exact (emit_aside _ s).keeps p
  · exact .refl p s

/-- A new plan keeps everything, if it fits the frame. -/
theorem setPlan_keeps {s : State} {q : Plan} (h : q.used ≤ q.slots) :
    Keeps p s { s with bss := { s.bss with plan := some q } } :=
  { Keeps.refl p s with plan := fun _ _ hq => by cases hq; exact h }

theorem buildPlan_keeps (w : CadenceWork) (s : State) : Keeps p s (buildPlan w s) := by
  unfold buildPlan
  extract_lets s1 st n x1 x2 plan
  have built : Keeps p s s1 := (buildFixed_aside s).keeps p
  have audio : Keeps p s1 x1.state := handOverGroups_keeps p n s1
  have addressed : Keeps p x1.state x2.state := addressedStage_keeps p x1
  have fits : plan.used ≤ plan.slots := stages_fit s1
  exact ((((built.trans audio).trans addressed).trans (setPlan_keeps p fits)).trans (judgeSkips_keeps p _ _ _)).trans
    (sendFrame_keeps p _ _)

/-! ### The whole frame start -/

theorem sessionPart_keeps (s : State) : Keeps p s (sessionPart s).1 := by
  have stepped := (bssFrameStart_keeps p s).trans (sesFrameStart_keeps p (bssFrameStart s).2.restart _)
  unfold sessionPart
  dsimp only
  split
  · exact stepped.trans (issueLinkCheck_keeps p _)
  · exact stepped

theorem apqFrameStart_keeps (s : State) : Keeps p s (apqFrameStart s) :=
  ((expirePackets_keeps p s).trans (markDue_keeps p _)).trans (nextReceipt_keeps p _)

theorem frameStart_keeps {fmonPart : State → State} (h : ∀ s, Keeps p s (fmonPart s)) (term : Bool) (s : State) :
    Keeps p s (frameStart fmonPart term s) := by
  have fmon := (((dropFormat_keeps p s).trans (h _)).trans ((pxpNewFrame_aside _).keeps p)).trans
    (sampleTerm_keeps p term _)
  have session := ((fmon.trans ((replaceEntries_aside _).keeps p)).trans (applyAudio_keeps p _)).trans
    (sessionPart_keeps p _)
  have packets := ((session.trans (audioSession_keeps p _)).trans (audioFill_keeps p _)).trans (apqFrameStart_keeps p _)
  exact (packets.trans ((pxpFrameStart_aside _).keeps p)).trans (buildPlan_keeps p _ _)

theorem takeBoundary_keeps (a : Alignment) (term : Bool) (s : State) : Keeps p s (takeBoundary a term s) := by
  have noted (s : State) := (noteBoundary_aside a s).keeps p
  have left (s : State) := (noted s).trans ((leaveNoSignal_aside (noteBoundary a s)).keeps p)
  unfold takeBoundary
  split
  · split
    · exact frameStart_keeps p (fun s => (left s).trans (countFrame_keeps p _)) term s
    · exact left s
  · split
    · exact (noted s).trans ((noteSecondField_aside _).keeps p)
    · exact frameStart_keeps p (fun s => (noted s).trans (fmonBoundary_keeps p _)) term s

theorem seeBoundary_keeps (i : BoundaryInput) (term : Bool) (s : State) : Keeps p s (seeBoundary i term s) := by
  have seen := (boundaryOf_aside i s).keeps p
  unfold seeBoundary
  split
  · rename_i h
    rw [h] at seen
    exact seen.trans (takeBoundary_keeps p _ term _)
  · rename_i h
    rw [h] at seen
    exact seen

theorem flywheelElapsed_keeps (term : Bool) (s : State) : Keeps p s (flywheelElapsed term s) := by
  unfold flywheelElapsed
  split
  · exact ((advanceTo_aside _ s).keeps p).trans (frameStart_keeps p (fmonFlywheel_keeps p) term _)
  · exact .refl p s

theorem activityElapsed_keeps (term : Bool) (s : State) : Keeps p s (activityElapsed term s) := by
  unfold activityElapsed
  split
  · exact .refl p s
  · exact ((advanceTo_aside _ s).keeps p).trans (frameStart_keeps p (fmonNoSignal_keeps p) term _)
  · exact .refl p s

theorem frameNow_keeps (s : State) : Keeps p s (frameNow s) := by
  unfold frameNow
  split
  · exact flywheelElapsed_keeps p _ s
  · exact seeBoundary_keeps p _ _ s
  · exact takeBoundary_keeps p _ _ s

theorem limitFrame_keeps (reaches : State → State → Bool) (s : State) : Keeps p s (limitFrame reaches s) := by
  unfold limitFrame
  dsimp only
  split
  · exact frameNow_keeps p s
  · exact .refl p s

end

end Sys2Proof.Machine
end

section
/-!
PROOFS. `Keeps` and the walker, the ends of transactions and the resets.
-/

namespace Sys2Proof.Machine

set_option Elab.async false

/-! ### What walker operations leave of the walk and of the session -/

theorem reportRoot_rwk (st : EntryState) (s : State) : (reportRoot st s).rwk = s.rwk := by
  have set (c : SessionCause) : (setSession .faulted c s).rwk = s.rwk := by
    obtain ⟨o, e⟩ := setSession_spec .faulted c s
    rw [e]
  unfold reportRoot
  split
  · split
    · exact set _
    · exact set _
    · rfl
  · rfl

theorem vacate_walking (i : Nat) (s : State) : (vacate i s).rwk.walking = s.rwk.walking := by
  unfold vacate
  split <;> rfl

theorem clearTwin_walking (sn : Serial) (s : State) : (clearTwin sn s).rwk.walking = s.rwk.walking := by
  unfold clearTwin
  split
  · rw [vacate_walking]
    split <;> rfl
  · rfl

section
variable (p : Prop)

/-! ### The roster (R60, R75 to R77) -/

theorem lose_vacant (gen : Half) : Entry.vacant.lose gen = Entry.vacant := rfl

theorem lose_state_vacant {gen : Half} {e : Entry} (h : (e.lose gen).state = .vacant) : e.state = .vacant := by
  unfold Entry.lose at h
  split at h
  · cases h
  · exact h

theorem loseWhere_keeps (f : Nat → Bool) (s : State) : Keeps p s (loseWhere f s) := by
  refine setRoster_keeps p fun k => ⟨by rw [List.length_mapIdx, k.1], fun e he hv => ?_⟩
  obtain ⟨j, hj, rfl⟩ := List.mem_mapIdx.1 he
  have hx := k.2 s.rwk.roster[j] (List.getElem_mem hj)
  split at hv
  · rename_i lost
    rw [if_pos lost, hx (lose_state_vacant hv), lose_vacant]
  · rename_i kept
    rw [if_neg kept, hx hv]

theorem loseBelow_keeps (i : Nat) (s : State) : Keeps p s (loseBelow i s) := loseWhere_keeps p _ s

theorem loseEntry_keeps (i : Nat) (s : State) : Keeps p s (loseEntry i s) := loseWhere_keeps p _ s

theorem orphanChildren_keeps (i : Nat) (s : State) : Keeps p s (orphanChildren i s) := by
  refine mapRoster_keeps p rfl fun e h => ?_
  split at h <;> exact h

theorem vacantEntry_keeps (i : Nat) (s : State) : Keeps p s (updEntry i (fun _ => Entry.vacant) s) :=
  updEntry_keeps p fun _ _ => rfl

theorem vacate_keeps (i : Nat) (s : State) : Keeps p s (vacate i s) := by
  unfold vacate
  split
  · exact .refl p s
  · exact (vacantEntry_keeps p i s).trans (orphanChildren_keeps p i _)

theorem clearRoster_keeps (s : State) :
    Keeps p s { s with rwk := { s.rwk with roster := s.rwk.roster.map (fun _ => Entry.vacant) } } :=
  setRoster_keeps p fun k => ⟨by rw [List.length_map, k.1], fun e he _ => by
    obtain ⟨x, -, rfl⟩ := List.mem_map.1 he
    rfl⟩

theorem clearTwin_keeps (sn : Serial) (s : State) : Keeps p s (clearTwin sn s) := by
  unfold clearTwin
  split
  · refine Keeps.trans ?_ (vacate_keeps p _ _)
    split
    · exact loseBelow_keeps p _ s
    · exact .refl p s
  · exact .refl p s

/-- A walk runs in no session of TRAINING, so a change of the session during one leaves no START-LINK. -/
theorem setSession_keeps_of_walking {new : SessionState} (c : SessionCause) {s : State} (other : new ≠ .training)
    (w : p → s.rwk.walking = true) : Keeps p s (setSession new c s) :=
  setSession_keeps p c other fun hp ⟨_, idle, _⟩ tr => absurd ((w hp).symm.trans (idle tr)) (by decide)

theorem reportRoot_keeps (st : EntryState) (s : State) : Keeps p s (reportRoot st s) := by
  unfold reportRoot
  split
  · rename_i h
    rw [Bool.and_eq_true] at h
    have other : s.ses.session ≠ .training := fun e => by
      have carries := h.1
      rw [e] at carries
      cases carries
    split
    · exact setSession_keeps_of_ne p _ (by decide) other
    · exact setSession_keeps_of_ne p _ (by decide) other
    · exact .refl p s
  · exact .refl p s

/-! ### The walker's steps (R61 to R79) -/

theorem wkPlace_keeps (x : WalkWait) (dest : Byte) (k : RequestKind) (ps : List Byte) {s : State}
    (w : p → s.rwk.walking = true) : Keeps p s (wkPlace x dest k ps s) := by
  refine Keeps.trans (b := { s with rwk := { s.rwk with wait := some x } }) ?_ ((joinSet_aside ..).keeps p)
  refine { Keeps.refl p s with shape := fun hp hs => ?_ }
  obtain ⟨h₁, h₂, h₃, h₄, h₅⟩ := hs
  exact ⟨h₁, h₂, h₃, h₄, fun off => absurd ((w hp).symm.trans off) (by decide)⟩

/-- A change of RWK beside the roster, the walk's running and what it waits for. -/
theorem setRwk_keeps {s : State} {r : Rwk} (walking : r.walking = s.rwk.walking := by rfl)
    (wait : r.wait = s.rwk.wait := by rfl) (roster : r.roster = s.rwk.roster := by rfl) :
    Keeps p s { s with rwk := r } := .of_same (walking := walking) (wait := wait) (roster := roster)

theorem warn_keeps (s : State) : Keeps p s (warn s) := setRwk_keeps p

theorem advancePort_keeps (s : State) : Keeps p s (advancePort s) := setRwk_keeps p

theorem closePort_keeps {s : State} (w : p → s.rwk.walking = true) : Keeps p s (closePort s) := by
  unfold closePort
  split
  · exact (advancePort_keeps p s).trans (wkPlace_keeps p _ _ _ _ w)
  · exact .refl p s

theorem portEmpty_keeps (t q : Nat) (s : State) : Keeps p s (portEmpty t q s) := by
  unfold portEmpty
  split
  · exact .refl p s
  · exact loseWhere_keeps p _ s

theorem portEmpty_walking (t q : Nat) (s : State) : (portEmpty t q s).rwk.walking = s.rwk.walking := by
  unfold portEmpty
  split <;> rfl

/-- The walk is over: nothing runs, and the walker waits for nothing. -/
theorem closeWalk_keeps (o : WalkOutcome) (s : State) : Keeps p s (closeWalk o (stepGeneration s)) := by
  have closed : Keeps p s { s with rwk := { (stepGeneration s).rwk with
      walking := false
      lastWalk := some ⟨s.rwk.kind, s.rwk.starter, o, s.rwk.warnings, (stepGeneration s).rwk.generation⟩ } } := by
    refine { Keeps.refl p s with shape := fun hp hs => ?_ }
    obtain ⟨h₁, h₂, h₃, h₄, h₅⟩ := hs
    exact ⟨h₁, fun _ => rfl, h₃, h₄, fun _ => rfl⟩
  exact (closed.trans ((grantDecision_aside _).keeps p)).trans ((pollCheck_aside _).keeps p)

theorem closeWalk_ses (o : WalkOutcome) (s : State) : (closeWalk o (stepGeneration s)).ses = s.ses :=
  ((pollCheck_aside _).ses).trans (grantDecision_aside _).ses

theorem leaveWalking_keeps (o : WalkOutcome) {s : State} (other : p → s.ses.session ≠ .training) :
    Keeps p s (leaveWalking o s) := by
  have leave {new : SessionState} (c : SessionCause) (h : new ≠ .training) : Keeps p s (setSession new c s) :=
    setSession_keeps p c h fun hp _ tr => absurd tr (other hp)
  unfold leaveWalking
  split
  · exact .refl p s
  · split
    · exact leave _ (by decide)
    · split
      · exact leave _ (by decide)
      · exact leave _ (by decide)

theorem reportWalk_keeps (o : WalkOutcome) (s : State) : Keeps p s (reportWalk o s) := by
  unfold reportWalk
  dsimp only
  split
  · exact Keeps.trans (b := { s with rwk := { s.rwk with enumerate := none } }) .of_same
      ((completeOpt_aside ..).keeps p)
  · exact (post_aside ..).keeps p

theorem endWalk_keeps_of_ne (o : WalkOutcome) {s : State} (other : p → s.ses.session ≠ .training) :
    Keeps p s (endWalk o s) := by
  have closed := closeWalk_keeps p o s
  have swept := closed.trans (packetsSweep_keeps p _)
  have judged := swept.trans ((judgeHeldBlock_aside _).keeps p)
  have ses : (judgeHeldBlock (packetsSweep (closeWalk o (stepGeneration s)))).ses = s.ses :=
    ((judgeHeldBlock_aside _).ses.trans (packetsSweep_queues _).ses).trans (closeWalk_ses o s)
  exact (judged.trans (leaveWalking_keeps p o (by rw [ses]; exact other))).trans (reportWalk_keeps p o _)

/-- The end of a running walk: the session's shape says that it is not in TRAINING. -/
theorem endWalk_keeps (o : WalkOutcome) {s : State} (w : p → s.rwk.walking = true) : Keeps p s (endWalk o s) :=
  (endWalk_keeps_of_ne (s.ses.session ≠ .training) o fun h => h).grant fun hp ⟨_, idle, _⟩ tr =>
    absurd ((w hp).symm.trans (idle tr)) (by decide)

theorem endOwn_keeps {s : State} (w : p → s.rwk.walking = true) : Keeps p s (endOwn s) := endWalk_keeps p _ w

theorem walkLoop_keeps (n : Nat) {s : State} (w : p → s.rwk.walking = true) : Keeps p s (walkLoop n s) := by
  induction n generalizing s with
  | zero => exact .refl p s
  | succ n ih =>
    unfold walkLoop
    split
    · exact endOwn_keeps p w
    · rename_i t q rest _
      extract_lets e src s1
      have popped : Keeps p s s1 := setRwk_keeps p
      split
      · split
        · exact popped.trans (endOwn_keeps p w)
        · exact popped.trans (closePort_keeps p w)
      · split
        · refine ((portEmpty_keeps p t q s).trans (advancePort_keeps p _)).trans (ih ?_)
          show p → (portEmpty t q s).rwk.walking = true
          rw [portEmpty_walking]
          exact w
        · split
          · have marked : Keeps p s { s with rwk := { s.rwk with depthMark := true } } := setRwk_keeps p
            exact (marked.trans (advancePort_keeps p _)).trans (ih w)
          · exact wkPlace_keeps p _ _ _ _ w

theorem walkOn_keeps {s : State} (w : p → s.rwk.walking = true) : Keeps p s (walkOn s) := walkLoop_keeps p _ w

theorem afterEntry_keeps (i : Nat) (root : Bool) {s : State} (w : p → s.rwk.walking = true) :
    Keeps p s (afterEntry i root s) := by
  unfold afterEntry
  dsimp only
  split
  · have pushed : Keeps p s { s with rwk := { s.rwk with stack := (i, 0) :: s.rwk.stack } } := setRwk_keeps p
    exact pushed.trans (walkOn_keeps p w)
  · split
    · exact endOwn_keeps p w
    · exact closePort_keeps p w

/-- An entry written and given a state that is not VACANT. -/
theorem updEntry_state_keeps {i : Nat} (f : Entry → Entry) {x : EntryState} (h : x ≠ .vacant) (s : State) :
    Keeps p s (updEntry i (fun e => { e with state := x }) (updEntry i f s)) := by
  have twice : updEntry i (fun e => { e with state := x }) (updEntry i f s)
      = updEntry i (fun e => { f e with state := x }) s := by
    simp only [updEntry, List.modify_modify_eq]
    rfl
  rw [twice]
  exact updEntry_keeps p fun _ hv => absurd hv h

/-- The deny check settles the state of an entry that has been written, so what was written may be anything. -/
theorem denyCheck_keeps (i : Nat) (root : Bool) (old : EntryState) (fresh : Bool) (f : Entry → Entry) {s : State}
    (w : p → s.rwk.walking = true) : Keeps p s (denyCheck i root old fresh (updEntry i f s)) := by
  have denied : Keeps p s (updEntry i (fun e => { e with state := .denied }) (updEntry i f s)) :=
    updEntry_state_keeps p f (by decide) s
  have active : Keeps p s (updEntry i (fun e => { e with state := .active }) (updEntry i f s)) :=
    updEntry_state_keeps p f (by decide) s
  have told (t : State) (k : Keeps p s t) (walking : t.rwk.walking = s.rwk.walking) :
      Keeps p s (if root then reportRoot .denied t else t)
        ∧ (if root then reportRoot .denied t else t).rwk.walking = s.rwk.walking := by
    split
    · exact ⟨k.trans (reportRoot_keeps p _ t), by rw [reportRoot_rwk, walking]⟩
    · exact ⟨k, walking⟩
  unfold denyCheck sendBlank
  dsimp only
  split
  · split
    · obtain ⟨told, walking⟩ := told _ (denied.trans (loseBelow_keeps p i _)) rfl
      exact told.trans (wkPlace_keeps p _ _ _ _ fun hp => walking.trans (w hp))
    · exact denied.trans (afterEntry_keeps p i root w)
  · split
    · exact active.trans (wkPlace_keeps p _ _ _ _ w)
    · exact active.trans (afterEntry_keeps p i root w)

theorem admitBelow_keeps (i : Nat) (reuse : Bool) (q : Probe) {s : State} (w : p → s.rwk.walking = true) :
    Keeps p s (admitBelow i reuse q s) := by
  unfold admitBelow
  dsimp only
  split
  · exact denyCheck_keeps p i false _ _ _ w
  · refine (vacate_keeps p i s).trans (denyCheck_keeps p i false _ _ _ ?_)
    rw [vacate_walking]
    exact w

theorem admitRoot_keeps (q : Probe) {s : State} (w : p → s.rwk.walking = true) : Keeps p s (admitRoot q s) := by
  refine (clearTwin_keeps p q.serial s).trans (denyCheck_keeps p 0 true _ _ _ ?_)
  rw [clearTwin_walking]
  exact w

/-! ### Outcomes of the walker's transactions -/

theorem rootProbed_keeps (o : TxOutcome) {s : State} (w : p → s.rwk.walking = true) : Keeps p s (rootProbed o s) := by
  unfold rootProbed
  split
  · exact wkPlace_keeps p _ _ _ _ w
  · exact endOwn_keeps p w

theorem rootAssigned_keeps (q : Probe) (o : TxOutcome) {s : State} (w : p → s.rwk.walking = true) :
    Keeps p s (rootAssigned q o s) := by
  unfold rootAssigned
  split
  · exact admitRoot_keeps p q w
  · exact (warn_keeps p s).trans (endOwn_keeps p w)

theorem rootVerified_keeps (o : TxOutcome) {s : State} (w : p → s.rwk.walking = true) :
    Keeps p s (rootVerified o s) := by
  unfold rootVerified
  extract_lets lost
  have gone : Keeps p s lost := by
    unfold lost
    refine Keeps.trans ?_ (wkPlace_keeps p _ _ _ _ ?_)
    · split
      · exact (loseEntry_keeps p 0 s).trans (reportRoot_keeps p _ _)
      · exact loseEntry_keeps p 0 s
    · split
      · rw [reportRoot_rwk]
        exact w
      · exact w
  split
  · split
    · exact denyCheck_keeps p 0 true _ _ _ w
    · exact gone
  · exact gone

theorem portOpened_keeps (child : Option Nat) (o : TxOutcome) {s : State} (w : p → s.rwk.walking = true) :
    Keeps p s (portOpened child o s) := by
  unfold portOpened
  split
  · split
    · exact wkPlace_keeps p _ _ _ _ w
    · exact wkPlace_keeps p _ _ _ _ w
  · exact ((warn_keeps p s).trans (advancePort_keeps p _)).trans (walkOn_keeps p w)

theorem childVerified_keeps (c : Nat) (o : TxOutcome) {s : State} (w : p → s.rwk.walking = true) :
    Keeps p s (childVerified c o s) := by
  unfold childVerified
  extract_lets lost
  have gone : Keeps p s lost := (loseEntry_keeps p c s).trans (wkPlace_keeps p _ _ _ _ w)
  split
  · split
    · exact denyCheck_keeps p c false _ _ _ w
    · exact gone
  · exact gone

theorem closeAll_keeps (ports : List (Nat × Nat)) {s : State} (w : p → s.rwk.walking = true) :
    Keeps p s (closeAll ports s) := by
  unfold closeAll
  split
  · exact wkPlace_keeps p _ _ _ _ w
  · exact endOwn_keeps p w

theorem portProbed_keeps (o : TxOutcome) {s : State} (w : p → s.rwk.walking = true) : Keeps p s (portProbed o s) := by
  have warned : Keeps p s (closePort (warn s)) := (warn_keeps p s).trans (closePort_keeps p w)
  unfold portProbed
  split
  · dsimp only
    split
    · exact warned
    · exact wkPlace_keeps p _ _ _ _ w
    · have marked : Keeps p s { s with rwk := { s.rwk with countMark := true } } := setRwk_keeps p
      exact marked.trans (closeAll_keeps p _ w)
  · exact warned

theorem portAssigned_keeps (i : Nat) (reuse : Bool) (q : Probe) (o : TxOutcome) {s : State}
    (w : p → s.rwk.walking = true) : Keeps p s (portAssigned i reuse q o s) := by
  unfold portAssigned
  split
  · exact admitBelow_keeps p i reuse q w
  · exact (warn_keeps p s).trans (closePort_keeps p w)

theorem blankDone_keeps (i : Nat) (root : Bool) (o : TxOutcome) {s : State} (w : p → s.rwk.walking = true) :
    Keeps p s (blankDone i root o s) := by
  unfold blankDone
  split
  · exact afterEntry_keeps p i root w
  · exact (warn_keeps p s).trans (afterEntry_keeps p i root w)

theorem clearWait_keeps (s : State) : Keeps p s { s with rwk := { s.rwk with wait := none } } := by
  refine { Keeps.refl p s with shape := fun hp hs => ?_ }
  obtain ⟨h₁, h₂, h₃, h₄, h₅⟩ := hs
  exact ⟨h₁, h₂, h₃, h₄, fun _ => rfl⟩

theorem wkResult_keeps_of_walking (o : TxOutcome) {s : State} (w : p → s.rwk.walking = true) :
    Keeps p s (wkResult o s) := by
  have cleared := clearWait_keeps p s
  unfold wkResult
  extract_lets src s1
  have w1 : p → s1.rwk.walking = true := w
  split
  · exact .refl p s
  · exact cleared.trans (wkPlace_keeps p _ _ _ _ w1)
  · exact cleared.trans (rootProbed_keeps p o w1)
  · exact cleared.trans (rootAssigned_keeps p _ o w1)
  · exact cleared.trans (rootVerified_keeps p o w1)
  · exact cleared.trans (portOpened_keeps p _ o w1)
  · exact cleared.trans (childVerified_keeps p _ o w1)
  · exact cleared.trans (portProbed_keeps p o w1)
  · exact cleared.trans (portAssigned_keeps p _ _ _ o w1)
  · exact cleared.trans (blankDone_keeps p _ _ o w1)
  · exact cleared.trans (walkOn_keeps p w1)
  · exact cleared.trans (closeAll_keeps p _ w1)

/-- The walker waits for an outcome only during a walk, which the session's shape says. -/
theorem wkResult_keeps (o : TxOutcome) (s : State) : Keeps p s (wkResult o s) := by
  cases hw : s.rwk.wait with
  | none =>
    have nothing : wkResult o s = s := by
      unfold wkResult
      rw [hw]
    rw [nothing]
    exact .refl p s
  | some x =>
    refine (wkResult_keeps_of_walking (s.rwk.walking = true) o fun h => h).grant fun _ hs => ?_
    obtain ⟨-, -, -, -, idle⟩ := hs
    by_contra off
    rw [Bool.not_eq_true] at off
    rw [idle off] at hw
    cases hw

/-! ### Walks' starts (R64 to R66, R71) -/

/-- A walk starts in a session other than TRAINING. -/
theorem walkBegun_keeps (k : WalkKind) (st : WalkStarter) {s : State} (other : p → s.ses.session ≠ .training) :
    Keeps p s { s with rwk := { s.rwk with
      walking := true, kind := k, starter := st, stack := [], depthMark := false, countMark := false
      warnings := 0, wait := none
      roster := s.rwk.roster.map (fun e => { e with verified := false }) } } := by
  have roster := (mapRoster_keeps p (s := s) (f := fun e => { e with verified := false }) rfl fun _ h => h).roster
  refine { Keeps.refl p s with roster := roster, shape := fun hp hs => ?_ }
  obtain ⟨h₁, h₂, h₃, h₄, h₅⟩ := hs
  exact ⟨h₁, fun tr => absurd tr (other hp), h₃, h₄, fun _ => rfl⟩

theorem lcWalkStart_walking (s : State) : (lcWalkStart s).rwk.walking = s.rwk.walking := by
  unfold lcWalkStart
  split <;> rfl

theorem beginFull_keeps {s : State} (w : p → s.rwk.walking = true) : Keeps p s (beginFull s) := by
  refine ((clearRoster_keeps p s).trans (packetsFullWalk_keeps p _)).trans (wkPlace_keeps p _ _ _ _ ?_)
  rw [(packetsFullWalk_queues _).rwk]
  exact w

theorem beginRefresh_keeps {s : State} (w : p → s.rwk.walking = true) : Keeps p s (beginRefresh s) := by
  unfold beginRefresh
  split <;> exact wkPlace_keeps p _ _ _ _ w

theorem startWalk_keeps (k : WalkKind) (st : WalkStarter) {s : State} (other : p → s.ses.session ≠ .training) :
    Keeps p s (startWalk k st s) := by
  unfold startWalk
  extract_lets src s1 s2 s3
  have begun : Keeps p s s1 := walkBegun_keeps p k st other
  have posted : Aside s1 s2 := by
    unfold s2
    split
    · exact .refl s1
    · exact post_aside ..
  have told : Keeps p s s3 := ((begun.trans (posted.keeps p)).trans (lcWalkStart_keeps p _)).trans
    ((pollWalkStart_aside _).keeps p)
  have w : p → s3.rwk.walking = true := fun _ => by
    rw [(pollWalkStart_aside _).rwk, lcWalkStart_walking, posted.rwk]
  cases k
  · exact told.trans (beginFull_keeps p w)
  · exact told.trans (beginRefresh_keeps p w)

/-! ### Commands of the roster (R5, R63, R65, R80) -/

theorem setEnumerate_keeps (h : Option Handle) (s : State) :
    Keeps p s { s with rwk := { s.rwk with enumerate := h } } := .of_same

/-- A session that a refresh walk may start in is not in TRAINING. -/
theorem refreshes_ne_training {x : SessionState} (h : x.refreshes = true) : x ≠ .training := fun e => by
  rw [e] at h
  cases h

theorem takeEnumerate_keeps (h : Handle) (kind : Byte) (s : State) : Keeps p s (takeEnumerate h kind s) := by
  have held := setEnumerate_keeps p (some h) s
  unfold takeEnumerate
  split
  · split
    · exact (complete_aside ..).keeps p
    · rename_i may
      split
      · exact (complete_aside ..).keeps p
      · refine (held.trans (setSession_keeps_of_ne p _ (by decide) ?_)).trans (startWalk_keeps p _ _ fun _ => ?_)
        · intro e
          have e : s.ses.session = .training := e
          rw [e] at may
          exact may rfl
        · rw [setSession_session]
          decide
  · split
    · exact (complete_aside ..).keeps p
    · rename_i may
      split
      · exact (complete_aside ..).keeps p
      · exact held.trans (startWalk_keeps p _ _ fun _ => refreshes_ne_training (by simpa using may))
  · exact (complete_aside ..).keeps p

/-- STOP-LINK aborts a walk in WALKING. -/
theorem abortWalk_keeps {s : State} (other : s.ses.session ≠ .training) : Keeps p s (abortWalk s) := by
  have stopped := (withdraw_aside .wk s).trans (orphanFlight_aside .wk _)
  unfold abortWalk
  exact ((stopped.keeps p).trans (clearRoster_keeps p _)).trans
    (endWalk_keeps_of_ne p _ fun _ => stopped.ses ▸ other)

theorem takeStopLink_keeps (h : Handle) (s : State) : Keeps p s (takeStopLink h s) := by
  have fromOther (i : HandedItem) (s : State) (other : s.ses.session ≠ .training) :
      Keeps p s (setSession .ready .hostStop (hand .ses i s)) :=
    ((hand_aside _ i s).keeps p).trans (setSession_keeps_of_ne p _ (by decide) other)
  unfold takeStopLink
  dsimp only
  split
  · rename_i e
    exact (abortWalk_keeps p (by rw [e]; decide)).trans ((handAnywhere_aside ..).keeps p)
  · refine ((endStartLink_keeps p .aborted s).trans ((hand_aside ..).keeps p)).trans (setSession_keeps p _ (by decide) ?_)
    exact fun _ _ _ => endStartLink_startLink .aborted s
  · rename_i e
    exact fromOther _ s (by rw [e]; decide)
  · rename_i e
    exact fromOther _ s (by rw [e]; decide)
  · rename_i e
    exact fromOther _ s (by rw [e]; decide)
  · exact (hand_aside ..).keeps p

theorem storeDeny_keeps (x : DenyWork) (serials : List Serial) (s : State) : Keeps p s (storeDeny x serials s) := by
  unfold storeDeny
  extract_lets src s1 go
  have stored : Keeps p s s1 := setRwk_keeps p
  refine Keeps.trans ?_ ((complete_aside ..).keeps p)
  split
  · rename_i started
    simp only [go, Bool.and_eq_true] at started
    exact stored.trans (startWalk_keeps p _ _ fun _ => refreshes_ne_training started.1.2)
  · exact stored

theorem workDeny_keeps (n : Nat) (s : State) : Keeps p s (workDeny n s) := by
  induction n generalizing s with
  | zero => exact .refl p s
  | succ n ih =>
    unfold workDeny
    split
    · split
      · rename_i x ws _ _
        have popped : Keeps p s { s with rwk := { s.rwk with denyWork := ws } } := setRwk_keeps p
        exact (popped.trans (storeDeny_keeps p x [] _)).trans (ih _)
      · exact .refl p s
    · exact .refl p s

theorem denyOn_keeps (s : State) : Keeps p s (denyOn s) := workDeny_keeps p _ s

theorem takeDenyList_keeps (h : Handle) (count : Byte) (apply : Bool) (addr : Addr) (s : State) :
    Keeps p s (takeDenyList h count apply addr s) := by
  unfold takeDenyList
  split
  · exact (complete_aside ..).keeps p
  · exact Keeps.trans (setRwk_keeps p) (denyOn_keeps p _)

theorem startDenyRead_keeps (s : State) : Keeps p s (startDenyRead s) := by
  unfold startDenyRead
  split
  · split
    · exact .refl p s
    · exact Keeps.trans (setRwk_keeps p) ((emit_aside ..).keeps p)
  · exact .refl p s

theorem endDenyRead_keeps (data : Option (List Byte)) (s : State) : Keeps p s (endDenyRead data s) := by
  unfold endDenyRead
  split
  · split
    · extract_lets src s1
      have popped : Keeps p s s1 := setRwk_keeps p
      refine Keeps.trans ?_ (denyOn_keeps p _)
      split
      · exact popped.trans (storeDeny_keeps p _ _ s1)
      · exact popped.trans ((complete_aside ..).keeps p)
    · exact .refl p s
  · exact .refl p s

theorem takeReadRoster_keeps (h : Handle) (addr : Addr) (len : Word) (s : State) :
    Keeps p s (takeReadRoster h addr len s) := by
  unfold takeReadRoster
  split
  · exact (complete_aside ..).keeps p
  · split
    · exact (complete_aside ..).keeps p
    · exact setRwk_keeps p

theorem rosterIfReset_keeps (s : State) : Keeps p s (rosterIfReset s) := setRwk_keeps p

/-! ### Presence (R1, R4, R5, R21) -/

theorem settled_keeps (s : State) : Keeps p s (settled s) := by
  unfold settled
  split
  · rename_i t e _
    extract_lets s1 src s2
    have timed : Keeps p s s1 := (advanceTo_aside _ s).keeps p
    have quiet : Keeps p s1 { s1 with ses := { s1.ses with settle := none } } := .of_same
    have up : Keeps p s s2 := ((timed.trans quiet).trans ((post_aside ..).keeps p)).trans
      (setSession_keeps_of_ne p _ (by decide) (by show s.ses.session ≠ _; rw [e]; decide))
    split
    · refine (up.trans (setSession_keeps_of_ne p _ (by decide) ?_)).trans (startWalk_keeps p _ _ fun _ => ?_)
      · rw [setSession_session]
        decide
      · rw [setSession_session]
        decide
    · exact up
  · exact .refl p s

/-- The session at a drop is at rest, with nothing held. -/
theorem sessionDrop_keeps (s : State) : Keeps p s (sessionDrop s) := by
  have ended := endStartLink_keeps p .linkDown s
  unfold sessionDrop
  extract_lets s1 s2 s3
  have posted : Aside s1 s2 := by
    unfold s2
    split
    · exact .refl s1
    · exact post_aside ..
  have down : Keeps p s s3 := (ended.trans (posted.keeps p)).trans (setSession_keeps p _ (by decide) fun _ _ _ => by
    rw [posted.ses]
    exact endStartLink_startLink .linkDown s)
  have off : s3.ses.session = .detached := setSession_session ..
  refine down.trans { Keeps.refl p s3 with shape := fun _ hs => ?_ }
  obtain ⟨h₁, h₂, h₃, h₄, h₅⟩ := hs
  exact ⟨h₁, h₂, h₃, fun _ => rfl, h₅⟩

/-- RWK at a drop: no walk runs, and every entry held is LOST. -/
theorem rosterDrop_keeps (s : State) : Keeps p s (rosterDrop s) := by
  unfold rosterDrop
  extract_lets s1
  have lost := loseWhere_keeps p (fun _ => true) s
  have stepped : Keeps p (loseWhere (fun _ => true) s) s1 := by
    refine { Keeps.refl p _ with shape := fun _ hs => ?_ }
    obtain ⟨h₁, h₂, h₃, h₄, h₅⟩ := hs
    exact ⟨h₁, h₂, h₃, h₄, fun _ => rfl⟩
  split
  · refine ((lost.trans stepped).trans ?_).trans (reportWalk_keeps p _ _)
    refine { Keeps.refl p s1 with shape := fun _ hs => ?_ }
    obtain ⟨h₁, h₂, h₃, h₄, h₅⟩ := hs
    exact ⟨h₁, fun _ => rfl, h₃, h₄, fun _ => rfl⟩
  · exact lost.trans stepped

theorem presenceDrop_keeps (s : State) : Keeps p s (presenceDrop s) :=
  (((((sideDrop_aside s).keeps p).trans (rosterDrop_keeps p _)).trans (packetsDrop_keeps p _)).trans
    ((dropRequests_aside _).keeps p)).trans (sessionDrop_keeps p _)

theorem presenceTimeout_keeps (s : State) : Keeps p s (presenceTimeout s) := by
  unfold presenceTimeout
  split
  · split
    · exact ((advanceTo_aside _ s).keeps p).trans (presenceDrop_keeps p _)
    · exact .refl p s
  · exact .refl p s

/-! ### The ends of transactions (R43 to R45, R56, R57) -/

theorem handleNotice_keeps (i : Nat) (kind arg : Byte) (s : State) : Keeps p s (handleNotice i kind arg s) := by
  unfold handleNotice
  extract_lets s1
  have told : Keeps p s s1 := (post_aside ..).keeps p
  split
  · rename_i go
    obtain ⟨-, refreshes, -⟩ := go
    exact told.trans (startWalk_keeps p _ _ fun _ => refreshes_ne_training refreshes)
  · exact told

theorem apResult_keeps (i : Nat) (orphan : Bool) (o : TxOutcome) (s : State) : Keeps p s (apResult i orphan o s) := by
  unfold apResult
  split
  · exact (setSbc_aside ..).keeps p
  · extract_lets sbc s0 src s1
    have seen : Keeps p s s0 := (setSbc_aside ..).keeps p
    have told : Keeps p s s1 := by
      unfold s1
      split
      · exact (seen.trans ((setSbc_aside ..).keeps p)).trans (handleNotice_keeps p _ _ _ _)
      · exact seen
    split
    · exact told
    · exact told.trans ((pollAfter_aside ..).keeps p)

theorem handOutcome_keeps (t : Transaction) (o : TxOutcome) (s : State) : Keeps p s (handOutcome t o s) := by
  unfold handOutcome
  split
  · split
    · exact .refl p s
    · exact wkResult_keeps p o s
  · exact lcResult_keeps p o s
  · exact apResult_keeps p _ _ o s
  · exact acResult_keeps p o s
  · split
    · exact .refl p s
    · exact (drResult_aside o s).keeps p

theorem endTransaction_keeps (o : TxOutcome) (s : State) : Keeps p s (endTransaction o s) := by
  unfold endTransaction
  split
  · exact (((freeChannel_aside s).trans (placeDeferred_aside _ _)).keeps p).trans (handOutcome_keeps p _ o _)
      |>.trans ((grantDecision_aside _).keeps p)
  · exact .refl p s

theorem failAttempt_keeps (k : FailKind) (s : State) : Keeps p s (failAttempt k s) := by
  unfold failAttempt
  split
  · split
    · exact (sendAttempt_aside ..).keeps p
    · exact endTransaction_keeps p _ s
  · exact .refl p s

theorem receiveFrame_keeps (f : List Byte) (s : State) : Keeps p s (receiveFrame f s) := by
  unfold receiveFrame
  split
  · split
    · exact endTransaction_keeps p _ s
    · exact endTransaction_keeps p _ s
    · exact failAttempt_keeps p _ s
    · split
      · exact failAttempt_keeps p _ s
      · exact .refl p s
  · exact .refl p s

theorem responseTimeout_keeps (frameArriving : Bool) (s : State) : Keeps p s (responseTimeout frameArriving s) := by
  unfold responseTimeout
  split
  · split
    · exact .refl p s
    · rename_i t _ _ _
      have timed : Keeps p s (advanceTo (t + responseTicks) s) := (advanceTo_aside _ s).keeps p
      split
      · exact timed.trans ((setSbc_aside ..).keeps p)
      · exact timed.trans (failAttempt_keeps p _ _)
  · exact .refl p s

theorem releaseQuietEnd_keeps (s : State) : Keeps p s (releaseQuietEnd s) := by
  unfold releaseQuietEnd
  split
  · exact ((advanceTo_aside _ s).keeps p).trans (endTransaction_keeps p _ _)
  · exact .refl p s

end

end Sys2Proof.Machine
end

section
/-!
PROOFS. Every row keeps the invariants: the resets, the rows one by one, and a step.
-/

namespace Sys2Proof.Machine

set_option Elab.async false

/-! ### The reset state (R185) -/

theorem reset_lanesAgree : State.reset.lanesAgree := rfl

theorem reset_sessionShaped : State.reset.sessionShaped :=
  ⟨fun h => (nomatch h), fun h => (nomatch h), fun _ => ⟨rfl, rfl⟩, fun _ => rfl, fun _ => rfl⟩

theorem reset_factorsLegal : State.reset.factorsLegal :=
  ⟨.inl rfl, .inl rfl, fun _ h => (nomatch h), fun _ h => (nomatch h)⟩

theorem reset_rosterShaped : State.reset.rosterShaped := by
  refine ⟨List.length_replicate, fun e he _ => ?_⟩
  exact (List.mem_replicate.1 he).2

theorem reset_awaitingBounded : State.reset.awaitingBounded := Nat.zero_le _

theorem reset_poolBounded : State.reset.poolBounded := Nat.zero_le 64

theorem reset_fifoBounded : State.reset.fifoBounded := Nat.zero_le _

theorem reset_planFits : State.reset.planFits := fun _ h => (nomatch h)

theorem reset_creditsKept : State.reset.creditsKept := fun _ h => (nomatch h)

theorem reset_eventsKept : State.reset.eventsKept := fun _ h => (nomatch h)

section
variable (p : Prop)

theorem stopCopies_aside (s : State) : Aside s (stopCopies s) :=
  foldl_aside (fun s (c : Addr × List Byte) => emitPart_aside c.1 c.2 s) (copiesRunning s) s

/-- HIF at its reset values has no record ring, and no command in flight. -/
theorem resetHif_keeps (s : State) : Keeps p s { s with hif := Hif.reset s.hif.nextId } :=
  .of_rings (Nat.le_refl _) (fun h => (nomatch h)) (fun _ _ h => (nomatch h)) (fun _ _ h => (nomatch h))

theorem resetBlocks_keeps (s : State) : Keeps p s (resetBlocks s) where
  queue := rfl
  time := Nat.le_refl _
  sent := by
    refine (stopCopies_aside s).sent.trans ?_
    unfold resetBlocks
    dsimp only
    split
    · exact List.prefix_append _ _
    · exact List.prefix_refl _
  numbered := Nat.le_refl _
  lanes := fun _ => reset_lanesAgree
  shape := fun _ _ => reset_sessionShaped
  factors := fun _ => reset_factorsLegal
  awaiting := fun _ => reset_awaitingBounded
  pool := fun _ => reset_poolBounded
  fifo := fun _ => reset_fifoBounded
  plan := fun _ => reset_planFits
  roster := fun _ => reset_rosterShaped
  credits := fun _ _ h => (nomatch h)
  events := fun _ _ h => (nomatch h)

theorem resetMsi_aside (s : State) : Aside s (resetMsi s) := {}

theorem sttIfReset_aside (s : State) : Aside s (sttIfReset s) := setStt_aside s _

theorem interfaceReset_keeps (s : State) : Keeps p s (interfaceReset s) := by
  have stopped : Keeps p s { stopCopies s with hif := Hif.reset s.hif.nextId } := by
    have hif : s.hif = (stopCopies s).hif := (stopCopies_aside s).hif.symm
    refine ((stopCopies_aside s).keeps p).trans ?_
    rw [hif]
    exact resetHif_keeps p _
  exact (((stopped.trans (rosterIfReset_keeps p _)).trans ((dcrIfReset_aside _).keeps p)).trans
    (packetsIfReset_keeps p _)).trans ((sttIfReset_aside _).keeps p)

/-! ### The ends of rows -/

/-- A row answers a next state that keeps what s has, and hands nothing over to the next step. -/
def Kept (s : State) (r : Result) : Prop := ∃ t, r = .next t ∧ t.handed = [] ∧ Keeps p s t

theorem done_kept {s u : State} (h : Keeps p s u) : Kept p s (done u) := by
  obtain ⟨t, e, settled⟩ := done_next u
  refine ⟨t, e, settled, h.trans ?_⟩
  cases e
  exact finishInOrder_keeps p u

theorem doneAny_kept {s u : State} (h : Keeps p s u) : Kept p s (doneAny u) := by
  obtain ⟨t, e, settled⟩ := doneAny_next u
  refine ⟨t, e, settled, h.trans ?_⟩
  cases e
  exact finishAnyOrder_keeps p u

/-- The take of a command from a ring other than DISPATCH, its owner's part given. -/
theorem take_kept {owner : Handle → State → State} (h : ∀ k s, Keeps p s (owner k s)) (ring : Nat) (tag : HostTag)
    (s : State) : Kept p s (done (takeFrom ring tag owner s)) := done_kept p (takeFrom_keeps p h ring tag s)

/-- A record spells nothing but host commands, each taken by its own row (R177; log entry 1). -/
theorem takeDecoded_eq_exec {r : CommandRecord} {i : Instr} (h : decodeRecord r = some i) (s : State) :
    takeDecoded i s = exec i s := by
  unfold decodeRecord at h
  dsimp only at h
  split at h <;> cases h <;> rfl

theorem decodeRecord_ne_commandTake {r : CommandRecord} {i : Instr} (h : decodeRecord r = some i)
    (x : Option CommandRecord) : i ≠ .commandTake x := by
  rintro rfl
  unfold decodeRecord at h
  dsimp only at h
  split at h <;> cases h

/-! ### Take of the stream ring's commands -/

theorem takeCadence_keeps (mode factor reserve : Byte) (h : Handle) (s : State) : Keeps p s
    (match cadenceRecord h mode factor reserve with
      | some c => setPendingCadence c s
      | none => complete .bss h .badParam 0 0 s) := by
  split
  · exact setPendingCadence_keeps p (cadenceRecord_legal ‹_›) s
  · exact (complete_aside ..).keeps p

theorem takeStanding_keeps (index enable period phase kind : Byte) (addr : Addr) (len : Byte) (h : Handle)
    (s : State) : Keeps p s
    (match standingWork h index enable period phase kind addr len with
      | some w => joinStanding w s
      | none => complete .stt h .badParam 0 0 s) := by
  split
  · exact (joinStanding_aside ..).keeps p
  · exact (complete_aside ..).keeps p

theorem takeAudio_keeps (channels wordLength : Byte) (rate : Word) (h : Handle) (s : State) : Keeps p s
    (match audioFormatOf channels wordLength rate with
      | some f => setPendingAudio ⟨f, h⟩ s
      | none => complete .ain h .badParam 0 0 s) := by
  split
  · exact setPendingAudio_keeps p _ s
  · exact (complete_aside ..).keeps p

theorem takePixelInput_keeps (mode method : Byte) (h : Handle) (s : State) : Keeps p s
    (match modeOf mode, methodOf method with
      | some m, some c => setPixelInput h m c s
      | _, _ => complete .pxp h .badParam 0 0 s) := by
  split
  · exact (setPixelInput_aside ..).keeps p
  · exact (complete_aside ..).keeps p

theorem takeTransform_keeps (coeffs offsets : List Half) (range : Byte) (h : Handle) (s : State) : Keeps p s
    (match transformOf coeffs offsets, rangeOf range with
      | some t, some r => loadTransform h t r s
      | _, _ => complete .pxp h .badParam 0 0 s) := by
  split
  · exact (loadTransform_aside ..).keeps p
  · exact (complete_aside ..).keeps p

theorem takeFill_keeps (c0 c1 c2 : Half) (h : Handle) (s : State) : Keeps p s
    (if c0.toNat ≤ 1023 ∧ c1.toNat ≤ 1023 ∧ c2.toNat ≤ 1023 then setFillTo h ⟨c0.toNat, c1.toNat, c2.toNat⟩ s
      else complete .pxp h .badParam 0 0 s) := by
  split
  · exact (setFillTo_aside ..).keeps p
  · exact (complete_aside ..).keeps p

theorem endRosterCopy_keeps (n : Nat) (ok : Bool) (s : State) : Keeps p s (endRosterCopy n ok s) := by
  unfold endRosterCopy
  split
  · exact Keeps.trans (b := { s with rwk := { s.rwk with copies := s.rwk.copies.eraseIdx n } }) .of_same
      ((endCopyOf_aside ..).keeps p)
  · exact .refl p s

/-! ### The rows -/

/-- Every row but the take of a record, whose meaning is another row's. -/
theorem exec_kept_of_ne {i : Instr} (s : State) (h : ∀ r, i ≠ .commandTake r) : Kept p s (exec i s) := by
  cases i with
  | powerOnReset => exact done_kept p ((resetBlocks_keeps p s).trans ((resetMsi_aside _).keeps p))
  | peRst => exact done_kept p ((interfaceReset_keeps p s).trans ((resetMsi_aside _).keeps p))
  | functionReset => exact done_kept p (resetBlocks_keeps p s)
  | ifReset => exact done_kept p (interfaceReset_keeps p s)
  | enableSet => exact done_kept p (setEnable_keeps p s)
  | enableClear => exact done_kept p (clearEnable_keeps p s)
  | irqEn v => exact done_kept p (writeIrqEn_keeps p v s)
  | registerWrite r v => exact done_kept p (writePlain_keeps p r v s)
  | producer r n => exact done_kept p (writeProducer_keeps p r n s)
  | completionRelease n => exact done_kept p (releaseCompletions_keeps p n s)
  | eventRelease n => exact done_kept p (releaseEvents_keeps p n s)
  | cause v => exact done_kept p (writeCause_keeps p v s)
  | bootstrapReadEnd r => exact done_kept p (endBootstrap_keeps p r s)
  | fetchBegin => exact done_kept p (beginFetch_keeps p s)
  | commandTake r => exact absurd rfl (h r)
  | recordWriteFailure k => exact done_kept p (failRecordWrite_keeps p k s)
  | drainComplete => exact done_kept p (endDraining_keeps p s)
  | createRing t r b n => exact take_kept p (fun h => takeCreateRing_keeps p h r b n) _ t s
  | destroyRing t r => exact take_kept p (fun h => takeDestroyRing_keeps p h r) _ t s
  | configureEvents t b n k m => exact take_kept p (fun h => takeConfigureEvents_keeps p h b n k m) _ t s
  | readStatus t a n => exact take_kept p (fun h => takeReadStatus_keeps p h a n) _ t s
  | statusCopyEnd n ok => exact done_kept p (endStatusCopy_keeps p n ok s)
  | setSession t e r q => exact take_kept p (fun h => takeSetSession_keeps p h e r q) _ t s
  | startLink t => exact take_kept p (takeStartLink_keeps p) _ t s
  | stopLink t => exact take_kept p (takeStopLink_keeps p) _ t s
  | quiet t => exact take_kept p (takeQuiet_keeps p true) _ t s
  | resume t => exact take_kept p (takeQuiet_keeps p false) _ t s
  | loadFormatEntry t c cl il ht ha vt va r => exact take_kept p (fun h => loadFormat_keeps p h _ _ _) _ t s
  | enumerate t k => exact take_kept p (fun h => takeEnumerate_keeps p h k) _ t s
  | readRoster t a n => exact take_kept p (fun h => takeReadRoster_keeps p h a n) _ t s
  | rosterCopyEnd n ok => exact done_kept p (endRosterCopy_keeps p n ok s)
  | setDenyList t c ap a => exact take_kept p (fun h => takeDenyList_keeps p h c ap a) _ t s
  | denyListReadStart => exact done_kept p (startDenyRead_keeps p s)
  | denyListReadEnd d => exact done_kept p (endDenyRead_keeps p d s)
  | readDescriptor t x sn a n =>
    exact take_kept p (fun h s => (takeReadDescriptor_aside h x sn a n s).keeps p) _ t s
  | descriptorRequestTurn => exact done_kept p ((descriptorTurn_aside s).keeps p)
  | descriptorCopyEnd ok => exact done_kept p ((endCopy_aside ok s).keeps p)
  | dropDescriptors t => exact take_kept p (fun h s => (takeDrop_aside h s).keeps p) _ t s
  | cancel t g => exact take_kept p (fun h => takeCancel_keeps p h g) _ t s
  | setCadence t m f r => exact take_kept p (takeCadence_keeps p m f r) _ t s
  | setStanding t x e period ph k a n => exact take_kept p (takeStanding_keeps p x e period ph k a n) _ t s
  | standingPayloadReadStart => exact done_kept p ((startStandingRead_aside s).keeps p)
  | standingPayloadReadEnd d => exact done_kept p ((endStandingRead_aside d s).keeps p)
  | setAudio t c w r => exact take_kept p (takeAudio_keeps p c w r) _ t s
  | setPixelInput t m c => exact take_kept p (takePixelInput_keeps p m c) _ t s
  | loadTransform t c o r => exact take_kept p (takeTransform_keeps p c o r) _ t s
  | setFill t c0 c1 c2 => exact take_kept p (takeFill_keeps p c0 c1 c2) _ t s
  | send t x b ak c d sn a n => exact done_kept p (takeFrom_takeSend_keeps p t x b ak c d sn a n s)
  | sendPayloadReadStart => exact done_kept p (startSendRead_keeps p s)
  | sendPayloadReadEnd d => exact done_kept p (endSendRead_keeps p d s)
  | tlPresLow r =>
    cases r with
    | true => exact done_kept p (presenceHigh_keeps p s)
    | false => exact done_kept p (presenceLow_keeps p s)
  | presenceDetected => exact done_kept p (presenceRise_keeps p s)
  | presenceStable => exact doneAny_kept p (settled_keeps p s)
  | presenceLost => exact doneAny_kept p (presenceTimeout_keeps p s)
  | inputBoundary b tm => exact doneAny_kept p (seeBoundary_keeps p b tm s)
  | flywheelStart tm => exact doneAny_kept p (flywheelElapsed_keeps p tm s)
  | activityTimeout tm => exact doneAny_kept p (activityElapsed_keeps p tm s)
  | formatLocked => exact doneAny_kept p (limitFrame_keeps p lockTaken s)
  | termination => exact done_kept p (terminationLimit_keeps p s)
  | trainingTimeout => exact done_kept p (trainingLimit_keeps p s)
  | lowerFitsExpiry => exact doneAny_kept p (limitFrame_keeps p fallDecided s)
  | packetExpiry => exact done_kept p (expirePackets_keeps p s)
  | ackDue => exact done_kept p ((markDue_keeps p s).trans (nextReceipt_keeps p _))
  | timingCode w last =>
    refine done_kept p ?_
    split
    · exact (timingCode_aside w last s).keeps p
    · exact .refl p s
  | codeErrorLimit => exact done_kept p ((codeErrorLimit_aside s).keeps p)
  | sampleGroupComplete hs => exact done_kept p (groupComplete_keeps p hs s)
  | rateCheckWindowEnd => exact done_kept p (windowEnd_keeps p s)
  | sidebandGrant => exact done_kept p ((grantDecision_aside s).keeps p)
  | sidebandFrameReceived f => exact done_kept p (receiveFrame_keeps p f s)
  | attemptTimeout f => exact done_kept p (responseTimeout_keeps p f s)
  | releaseQuietEnd => exact done_kept p (releaseQuietEnd_keeps p s)
  | attentionAsserted => exact done_kept p ((assertAttention_aside s).keeps p)
  | attentionReleased => exact done_kept p ((releaseAttention_aside s).keeps p)
  | holdoffExpiry => exact done_kept p ((holdoffEnd_aside s).keeps p)
  | lineStart e hi lo =>
    refine done_kept p ?_
    split
    · exact .refl p s
    · exact (seeLine_aside e hi lo s).keeps p
  | activeRunEnd w =>
    refine done_kept p ?_
    split
    · exact .refl p s
    · exact (((seeRun_aside w s).trans (closeRun_aside _)).keeps p)
  | captureStart => exact done_kept p (beginCapture_keeps p s)

/-- Every row keeps what each invariant says, the take of a record as the row that it spells. -/
theorem exec_kept (i : Instr) (s : State) : Kept p s (exec i s) := by
  by_cases h : ∃ r, i = .commandTake r
  · obtain ⟨r, rfl⟩ := h
    cases r with
    | none => exact done_kept p (failFetch_keeps p s)
    | some r =>
      show Kept p s (match decodeRecord r with
        | some i => takeDecoded i s
        | none => done (takeUnknown (recordTag r) s))
      cases hr : decodeRecord r with
      | none => exact done_kept p (takeUnknown_keeps p _ s)
      | some i =>
        show Kept p s (takeDecoded i s)
        rw [takeDecoded_eq_exec hr]
        exact exec_kept_of_ne p s (decodeRecord_ne_commandTake hr)
  · exact exec_kept_of_ne p s fun r e => h ⟨r, e⟩

/-- What the part does by itself changes the choices or the time alone before its row. -/
theorem ownStep_keeps (s : State) : Keeps p s (ownStep s).2 := by
  unfold ownStep
  split
  · exact .refl p s
  · split
    · exact .of_same (time := Nat.le_succ _)
    · exact .refl p s
    · exact .of_same

end

/-- Every invariant of s stands after a step; the queue may lose its front. -/
structure StepKeeps (s t : State) : Prop where
  lanes : s.lanesAgree → t.lanesAgree
  shape : s.sessionShaped → t.sessionShaped
  factors : s.factorsLegal → t.factorsLegal
  awaiting : s.awaitingBounded → t.awaitingBounded
  pool : s.poolBounded → t.poolBounded
  fifo : s.fifoBounded → t.fifoBounded
  plan : s.planFits → t.planFits
  roster : s.rosterShaped → t.rosterShaped
  credits : s.creditsKept → t.creditsKept
  events : s.eventsKept → t.eventsKept

theorem Keeps.stepKeeps {s t : State} (h : Keeps True s t) : StepKeeps s t :=
  ⟨h.lanes, h.shape trivial, h.factors, h.awaiting, h.pool, h.fifo, h.plan, h.roster, h.credits, h.events⟩

theorem exec_stepKeeps {i : Instr} {s t : State} (h : exec i s = .next t) : StepKeeps s t := by
  obtain ⟨u, e, -, k⟩ := exec_kept True i s
  rw [e] at h
  cases h
  exact k.stepKeeps

theorem step_stepKeeps {s t : State} (h : step s = .next t) : StepKeeps s t := by
  unfold step at h
  split at h
  · obtain ⟨lanes, shape, factors, awaiting, pool, fifo, plan, roster, credits, events⟩ := exec_stepKeeps h
    exact ⟨lanes, shape, factors, awaiting, pool, fifo, plan, roster, credits, events⟩
  · have own := ownStep_keeps True s
    split at h
    · rename_i i s1 e
      rw [e] at own
      obtain ⟨u, e', -, k⟩ := exec_kept True i s1
      rw [e'] at h
      cases h
      exact (own.trans k).stepKeeps
    · rename_i s1 e
      rw [e] at own
      cases h
      exact own.stepKeeps

/-! ### The statements -/

/-- Settles O6: the lanes change with the session state alone, which every row keeps. -/
theorem lanesFollowSession : Obligations.LanesFollowSession := by
  unfold Obligations.LanesFollowSession
  exact fun _ _ lanes h => (step_stepKeeps h).lanes lanes

/-- Settles O7, row by row. -/
theorem sessionStaysShaped : Obligations.SessionStaysShaped := by
  unfold Obligations.SessionStaysShaped
  exact fun _ _ shape h => (step_stepKeeps h).shape shape

/-- Settles O8, row by row. -/
theorem boundsStayKept : Obligations.BoundsStayKept := by
  unfold Obligations.BoundsStayKept
  refine ⟨fun _ _ legal h => (step_stepKeeps h).factors legal, fun _ _ h => ?_⟩
  have k := step_stepKeeps h
  exact ⟨k.awaiting, k.pool, k.fifo, k.plan⟩

/-- Settles O9, row by row. -/
theorem rosterStaysShaped : Obligations.RosterStaysShaped := by
  unfold Obligations.RosterStaysShaped
  exact fun _ _ shape h => (step_stepKeeps h).roster shape

/-- Settles O10, row by row. -/
theorem recordRingsStayKept : Obligations.RecordRingsStayKept := by
  unfold Obligations.RecordRingsStayKept
  exact fun _ _ h => ⟨(step_stepKeeps h).credits, (step_stepKeeps h).events⟩

/-- Settles O3: every row ends in HIF's handling, and keeps the queue, the time and what was sent. -/
theorem everyCommandCompletes : Obligations.EveryCommandCompletes := by
  unfold Obligations.EveryCommandCompletes
  intro i s
  obtain ⟨t, e, settled, k⟩ := exec_kept True i s
  exact ⟨t, e, k.queue, settled, k.time, k.sent, k.numbered⟩

/-- Settles O1: a step with a command waiting is that command's row. -/
theorem stepTakesFront : Obligations.StepTakesFront := by
  unfold Obligations.StepTakesFront
  intro s c cs h
  rw [step, h]

/-- With an empty queue a step is what the part does by itself. -/
theorem step_of_ownStep_some {s s1 : State} {i : Instr} (h : s.pending = []) (own : ownStep s = (some i, s1)) :
    step s = exec i s1 := by
  rw [step, h, own]

theorem step_of_ownStep_none {s s1 : State} (h : s.pending = []) (own : ownStep s = (none, s1)) :
    step s = .next s1 := by
  rw [step, h, own]

/-- Settles O2, by the three cases of `ownStep`. -/
theorem emptyQueueStep : Obligations.EmptyQueueStep := by
  unfold Obligations.EmptyQueueStep
  intro s h
  refine ⟨fun i hi => step_of_ownStep_some h ?_, fun none => ⟨fun i hi => step_of_ownStep_some h ?_, fun hi => ?_⟩⟩
  · rw [ownStep, hi]
  · rw [ownStep, none, hi]
  · exact step_of_ownStep_none (s1 := tick s) h (by rw [ownStep, none, hi])

/-- Settles O11, invariant by invariant. -/
theorem resetHoldsInvariants : Obligations.ResetHoldsInvariants := by
  unfold Obligations.ResetHoldsInvariants
  exact ⟨reset_lanesAgree, reset_sessionShaped, reset_factorsLegal, reset_rosterShaped, reset_awaitingBounded,
    reset_poolBounded, reset_fifoBounded, reset_creditsKept, reset_eventsKept, reset_planFits⟩

end Sys2Proof.Machine
end

section
/-!
PROOFS. The take of a record (R177), and the records of commands, completions and events (section 12).
-/

namespace Sys2Proof.Machine

set_option Elab.async false

/-! ### Takes -/

/-- Every host command is a take from the ring of its table, and an owner's work. -/
theorem exec_hostCommand {i : Instr} {ring : Nat} {tag : HostTag} (h : hostCommand i = some (ring, tag)) :
    ∃ owner, ∀ s, exec i s = done (takeFrom ring tag owner s) := by
  unfold hostCommand at h
  split at h <;> cases h <;> exact ⟨_, fun _ => rfl⟩

theorem exec_commandTake_some {i : Instr} {r : CommandRecord} (h : decodeRecord r = some i) (s : State) :
    exec (.commandTake (some r)) s = exec i s := by
  show execCommandTake (some r) s = exec i s
  rw [execCommandTake, h]
  exact takeDecoded_eq_exec h s

theorem exec_commandTake_unknown {r : CommandRecord} (h : decodeRecord r = none) (s : State) :
    exec (.commandTake (some r)) s = done (takeUnknown (recordTag r) s) := by
  show execCommandTake (some r) s = _
  rw [execCommandTake, h]

/-- Settles O5: a record is taken by the row that it spells; another code and another ring complete the command at
once. -/
theorem commandTakes : Obligations.CommandTakes := by
  unfold Obligations.CommandTakes
  refine ⟨fun i r s h => exec_commandTake_some h s, fun s r g c f => ⟨fun rec h => ?unknown, ?wrong⟩⟩
  case unknown =>
    have taken : takeUnknown (recordTag rec) s = complete .hif (s.takenAs r g (recordTag rec)) .unknownCommand 0 0
        (s.taken r g (recordTag rec)) := by
      rw [takeUnknown, f.beginTake]
    rw [exec_commandTake_unknown h, taken]
    exact done_complete .hif .unknownCommand 0 0 (f.pending _)
  case wrong =>
    intro i ring tag h other
    obtain ⟨owner, taking⟩ := exec_hostCommand h
    rw [taking, takeFrom_wrong owner (f.beginTake tag) (Ne.symm other)]
    exact done_complete .hif .wrongRing 0 0 (f.pending tag)

end Sys2Proof.Machine

namespace Sys2Proof

set_option Elab.async false

/-! ### Fields of a record -/

theorem getLsbD_putField {m : Nat} (o : Nat) (v : BitVec m) (k : Nat) :
    (putField o v).getLsbD k = (decide (k < 512) && decide (8 * o ≤ k) && v.getLsbD (k - 8 * o)) := by
  simp only [putField, BitVec.getLsbD_shiftLeft, BitVec.getLsbD_setWidth]
  by_cases h : k < 512
  · by_cases g : 8 * o ≤ k
    · simp [h, g, Nat.not_lt.2 g]
      omega
    · simp [h, g, Nat.lt_of_not_le g]
  · simp [h]

@[simp] theorem recordField_or (n : Nat) (a b : CommandRecord) (o : Nat) :
    recordField n (a ||| b) o = recordField n a o ||| recordField n b o := by
  simp only [recordField, BitVec.extractLsb'_or]

@[simp] theorem recordField_putField_same {n : Nat} (o : Nat) (v : BitVec n) (h : 8 * o + n ≤ 512) :
    recordField n (putField o v) o = v := by
  ext i hi
  simp only [recordField, BitVec.getElem_extractLsb', getLsbD_putField, Nat.add_sub_cancel_left]
  simp [show 8 * o + i < 512 by omega, BitVec.getLsbD_eq_getElem hi]

@[simp] theorem recordField_putField_off {n m : Nat} (o o' : Nat) (v : BitVec m) (h : 8 * o + n ≤ 8 * o' ∨ 8 * o' + m ≤ 8 * o) :
    recordField n (putField o' v) o = 0#n := by
  ext i hi
  simp only [recordField, BitVec.getElem_extractLsb', getLsbD_putField, BitVec.getElem_zero]
  rcases h with h | h
  · simp [show ¬ 8 * o' ≤ 8 * o + i by omega]
  · rw [BitVec.getLsbD_of_ge v _ (by omega), Bool.and_false]

/-- A flag is a field of one bit, at a place of its own. -/
theorem getLsbD_putBit (o j : Nat) (b : Bool) (k : Nat) :
    (putBit o j b).getLsbD k = (decide (k < 512) && decide (k = 8 * o + j) && b) := by
  simp only [putBit, BitVec.getLsbD_shiftLeft, BitVec.getLsbD_setWidth, BitVec.getLsbD_ofBool]
  by_cases g : k = 8 * o + j
  · subst g
    simp
  · by_cases l : k < 8 * o + j
    · simp [g, l]
    · simp [g, show k - (8 * o + j) ≠ 0 by omega]

@[simp] theorem recordField_putBit_off {n : Nat} (o o' j : Nat) (b : Bool) (h : 8 * o + n ≤ 8 * o' + j ∨ 8 * o' + j < 8 * o) :
    recordField n (putBit o' j b) o = 0#n := by
  ext i hi
  simp only [recordField, BitVec.getElem_extractLsb', getLsbD_putBit, BitVec.getElem_zero]
  simp [show 8 * o + i ≠ 8 * o' + j by omega]

@[simp] theorem recordBit_or (a b : CommandRecord) (o j : Nat) :
    recordBit (a ||| b) o j = (recordBit a o j || recordBit b o j) := by
  simp only [recordBit, BitVec.getLsbD_or]

@[simp] theorem recordBit_putBit_same (o j : Nat) (b : Bool) (h : 8 * o + j < 512) : recordBit (putBit o j b) o j = b := by
  simp only [recordBit, getLsbD_putBit, h, decide_true, Bool.true_and]

@[simp] theorem recordBit_putBit_off (o j o' j' : Nat) (b : Bool) (h : 8 * o + j ≠ 8 * o' + j') :
    recordBit (putBit o' j' b) o j = false := by
  simp [recordBit, getLsbD_putBit, h]

@[simp] theorem recordBit_putField_off {m : Nat} (o j o' : Nat) (v : BitVec m) (h : 8 * o + j < 8 * o' ∨ 8 * o' + m ≤ 8 * o + j) :
    recordBit (putField o' v) o j = false := by
  rw [recordBit, getLsbD_putField]
  rcases h with h | h
  · simp [show ¬ 8 * o' ≤ 8 * o + j by omega]
  · rw [BitVec.getLsbD_of_ge v _ (by omega), Bool.and_false]

/-! ### Fields of 16 bits in a row -/

/-- A field beside those written is 0. -/
@[simp] theorem recordField_putHalves_off {n : Nat} (o o' : Nat) (hs : List Half)
    (h : 8 * o + n ≤ 8 * o' ∨ 8 * (o' + 2 * hs.length) ≤ 8 * o) : recordField n (putHalves o' hs) o = 0#n := by
  induction hs generalizing o' with
  | nil =>
    ext i hi
    simp [recordField, putHalves]
  | cons x hs ih =>
    rw [List.length_cons] at h
    rw [putHalves, recordField_or, recordField_putField_off _ _ _ (by omega), ih (o' + 2) (by omega)]
    simp

/-- Fields beside those of a are those of b. -/
theorem recordHalves_or_right (a b : CommandRecord) (n o : Nat)
    (h : ∀ k < n, recordField 16 a (o + 2 * k) = 0#16) : recordHalves (a ||| b) n o = recordHalves b n o := by
  induction n generalizing o with
  | zero => rfl
  | succ n ih =>
    have first : recordField 16 a o = 0#16 := h 0 (Nat.succ_pos n)
    rw [recordHalves, recordHalves, recordField_or, first, ih, BitVec.zero_or]
    intro k hk
    rw [Nat.add_assoc, Nat.add_comm 2, ← Nat.mul_succ]
    exact h (k + 1) (Nat.succ_lt_succ hk)

theorem recordHalves_or_left (a b : CommandRecord) (n o : Nat)
    (h : ∀ k < n, recordField 16 b (o + 2 * k) = 0#16) : recordHalves (a ||| b) n o = recordHalves a n o := by
  rw [BitVec.or_comm]
  exact recordHalves_or_right b a n o h

theorem recordHalves_putHalves (hs : List Half) (o : Nat) (h : 8 * (o + 2 * hs.length) ≤ 512) :
    recordHalves (putHalves o hs) hs.length o = hs := by
  induction hs generalizing o with
  | nil => rfl
  | cons x hs ih =>
    rw [List.length_cons] at h ⊢
    rw [putHalves, recordHalves, recordField_or, recordField_putField_same o x (by omega),
      recordField_putHalves_off o (o + 2) hs (by omega), recordHalves_or_right, ih (o + 2) (by omega)]
    · simp
    · intro k _
      exact recordField_putField_off _ o x (by omega)

/-! ### Records read back -/

@[simp] theorem recordField_putHead_tag (c : Byte) (t : HostTag) : recordField 32 (putHead c t) 4 = t := by
  rw [putHead, recordField_or, recordField_putField_off _ _ _ (by decide),
    recordField_putField_same _ _ (by decide), BitVec.zero_or]

@[simp] theorem recordField_putHead_off {n : Nat} (c : Byte) (t : HostTag) (o : Nat) (h : 8 ≤ o) :
    recordField n (putHead c t) o = 0#n := by
  rw [putHead, recordField_or, recordField_putField_off _ _ _ (by omega), recordField_putField_off _ _ _ (by omega),
    BitVec.zero_or]

@[simp] theorem recordBit_putHead_off (c : Byte) (t : HostTag) (o k : Nat) (h : 8 ≤ o) :
    recordBit (putHead c t) o k = false := by
  rw [putHead, recordBit_or, recordBit_putField_off _ _ _ _ (by omega), recordBit_putField_off _ _ _ _ (by omega)]
  rfl

@[simp] theorem recordField_putHead_code (c : Byte) (t : HostTag) : recordField 8 (putHead c t) 0 = c := by
  rw [putHead, recordField_or, recordField_putField_same _ _ (by decide),
    recordField_putField_off _ _ _ (by decide), BitVec.or_zero]


/-- The coefficients and the offsets of LOAD-TRANSFORM, each in its own part of the record. -/
theorem decodeRecord_loadTransform (t : HostTag) {coeffs offsets : List Half} (range : Byte)
    (hc : coeffs.length = 9) (ho : offsets.length = 3) :
    decodeRecord (putHead 0x24 t ||| putHalves 8 coeffs ||| putHalves 26 offsets ||| putField 32 range)
      = some (.loadTransform t coeffs offsets range) := by
  have coeffsBack : recordHalves
      (putHead 0x24 t ||| putHalves 8 coeffs ||| putHalves 26 offsets ||| putField 32 range) 9 8 = coeffs := by
    rw [recordHalves_or_left, recordHalves_or_left, recordHalves_or_right]
    · simpa only [hc] using recordHalves_putHalves coeffs 8 (by omega)
    · exact fun k _ => recordField_putHead_off _ t _ (by omega)
    · exact fun k _ => recordField_putHalves_off _ 26 offsets (by omega)
    · exact fun k _ => recordField_putField_off _ 32 range (by omega)
  have offsetsBack : recordHalves
      (putHead 0x24 t ||| putHalves 8 coeffs ||| putHalves 26 offsets ||| putField 32 range) 3 26 = offsets := by
    rw [recordHalves_or_left, recordHalves_or_right]
    · simpa only [ho] using recordHalves_putHalves offsets 26 (by omega)
    · intro k _
      rw [recordField_or, recordField_putHead_off _ t _ (by omega), recordField_putHalves_off _ 8 coeffs (by omega),
        BitVec.zero_or]
    · exact fun k _ => recordField_putField_off _ 32 range (by omega)
  simp [decodeRecord, recordCode, recordTag, hc, ho] at coeffsBack offsetsBack ⊢
  exact ⟨coeffsBack, offsetsBack⟩

/-- A record gives back every field from its own place (section 12.4). -/
theorem decodeRecord_encodeRecord {i : Instr} {r : CommandRecord} (wf : i.wellFormed = true)
    (e : encodeRecord i = some r) : decodeRecord r = some i := by
  cases i
  case loadTransform t coeffs offsets range =>
    simp only [Instr.wellFormed, Bool.and_eq_true, beq_iff_eq] at wf
    cases e
    exact decodeRecord_loadTransform t range wf.1 wf.2
  all_goals
    simp only [encodeRecord, Option.some.injEq, reduceCtorEq] at e
  all_goals
    subst e
    simp [decodeRecord, recordCode, recordTag]

end Sys2Proof

namespace Sys2Proof.Machine

set_option Elab.async false

/-! ### Byte orders -/

@[simp] theorem leBytes_length (n v : Nat) : (leBytes n v).length = n := by
  induction n generalizing v with
  | zero => rfl
  | succ n ih => rw [leBytes, List.length_cons, ih]

theorem fromLe_leBytes (n v : Nat) : fromLe (leBytes n v) = v % 256 ^ n := by
  induction n generalizing v with
  | zero => rw [leBytes, fromLe, Nat.pow_zero, Nat.mod_one]
  | succ n ih =>
    rw [leBytes, fromLe, ih, BitVec.toNat_ofNat, Nat.pow_succ' (m := 256)]
    exact Nat.mod_mul.symm

/-- The n low bytes depend on the n low bytes alone. -/
theorem leBytes_mod (n v : Nat) : leBytes n (v % 256 ^ n) = leBytes n v := by
  induction n generalizing v with
  | zero => rfl
  | succ n ih =>
    have low : v % 256 ^ (n + 1) % 256 = v % 256 := Nat.mod_mod_of_dvd _ (Dvd.intro_left _ rfl)
    have high : v % 256 ^ (n + 1) / 256 = v / 256 % 256 ^ n := by
      rw [Nat.pow_succ', Nat.mod_mul_right_div_self]
    rw [leBytes, leBytes, high, ih]
    exact congrArg (· :: _) (BitVec.eq_of_toNat_eq (by rw [BitVec.toNat_ofNat, BitVec.toNat_ofNat]; exact low))

theorem leBytes_word (n : Nat) : leBytes 4 (word n).toNat = leBytes 4 n := leBytes_mod 4 n

theorem leBytes_byte (b : Byte) : leBytes 1 b.toNat = [b] := by
  simp [leBytes]

/-! ### Records in pieces -/

/-- A piece of a record: its number of bytes, and the value of its field; none for bytes that are 0. -/
def pieceBytes : Nat × Option Nat → List Byte
  | (n, some v) => leBytes n v
  | (n, none) => zeros n

/-- The fields of pieces that follow each other from an offset on. -/
def piecesAt : Nat → List (Nat × Option Nat) → List (Nat × Nat × Nat)
  | _, [] => []
  | o, (n, some v) :: ps => (o, n, v) :: piecesAt (o + n) ps
  | o, (n, none) :: ps => piecesAt (o + n) ps

theorem pieceBytes_length (x : Nat × Option Nat) : (pieceBytes x).length = x.1 := by
  obtain ⟨n, _ | v⟩ := x
  · exact List.length_replicate
  · exact leBytes_length n v

theorem fieldAt_append_mid (a b c : List Byte) : fieldAt (a ++ (b ++ c)) a.length b.length = fromLe b := by
  rw [fieldAt, List.drop_left, List.take_left]

/-- Each piece's field stands behind what comes before it. -/
theorem fieldAt_pieces (a : List Byte) (ps : List (Nat × Option Nat)) :
    ∀ f ∈ piecesAt a.length ps, fieldAt (a ++ ps.flatMap pieceBytes) f.1 f.2.1 = f.2.2 % 256 ^ f.2.1 := by
  induction ps generalizing a with
  | nil => exact fun f hf => (nomatch hf)
  | cons x ps ih =>
    have tail := ih (a ++ pieceBytes x)
    rw [List.length_append, pieceBytes_length, List.append_assoc] at tail
    obtain ⟨n, _ | v⟩ := x
    · exact tail
    · intro f hf
      rcases List.mem_cons.1 hf with rfl | hf
      · have mid := fieldAt_append_mid a (leBytes n v) (ps.flatMap pieceBytes)
        rw [leBytes_length, fromLe_leBytes] at mid
        exact mid
      · exact tail f hf

/-- A byte that no piece's field places is 0. -/
theorem zero_pieces (a : List Byte) (ps : List (Nat × Option Nat)) (k : Nat) (low : a.length ≤ k)
    (high : k < a.length + (ps.map (·.1)).sum)
    (free : ∀ f ∈ piecesAt a.length ps, k < f.1 ∨ f.1 + f.2.1 ≤ k) : (a ++ ps.flatMap pieceBytes)[k]? = some 0 := by
  induction ps generalizing a with
  | nil => simp at high; omega
  | cons x ps ih =>
    have tail := ih (a ++ pieceBytes x)
    rw [List.length_append, pieceBytes_length, List.append_assoc] at tail
    rw [List.map_cons, List.sum_cons] at high
    obtain ⟨n, _ | v⟩ := x
    · by_cases inside : k < a.length + n
      · rw [List.flatMap_cons, List.getElem?_append_right low, List.getElem?_append_left]
        · simp only [pieceBytes, zeros]
          rw [List.getElem?_replicate_of_lt (by omega)]
        · rw [pieceBytes_length]
          omega
      · exact tail (by dsimp only; omega) (by dsimp only at high ⊢; omega) free
    · have first := free (a.length, n, v) (List.mem_cons_self ..)
      dsimp only at first high
      exact tail (by dsimp only; omega) (by dsimp only; omega) fun f hf => free f (List.mem_cons_of_mem _ hf)

/-- A record that its pieces spell has their fields and no others (R186). -/
theorem laidOut_pieces {bs : List Byte} {size : Nat} {fields : List (Nat × Nat × Nat)}
    (ps : List (Nat × Option Nat)) (bytes : bs = ps.flatMap pieceBytes) (length : (ps.map (·.1)).sum = size)
    (same : ∀ f, f ∈ fields ↔ f ∈ piecesAt 0 ps) : laidOut bs size fields := by
  subst bytes length
  refine ⟨?_, fun f hf => fieldAt_pieces [] ps f ((same f).1 hf), fun k hk free => ?_⟩
  · rw [List.length_flatMap]
    exact congrArg List.sum (List.map_congr_left fun x _ => pieceBytes_length x)
  · exact zero_pieces [] ps k (Nat.zero_le _) (by simpa using hk) fun f hf => free f ((same f).2 hf)


/-! ### Completion records (section 12.5) -/

theorem completionBytes_laidOut (h : Handle) (phase : Bool) (st : Status) (w1 w2 : Word) :
    laidOut (completionBytes h phase st w1 w2) 16
      [(0, 4, h.tag.toNat), (4, 1, h.ring % 4 + (if phase then 128 else 0)), (5, 1, st.code), (6, 2, h.index),
        (8, 4, w1.toNat), (12, 4, w2.toNat)] := by
  refine laidOut_pieces [(4, some h.tag.toNat), (1, some (h.ring % 4 + bitAt 7 phase)), (1, some st.code),
    (2, some h.index), (4, some w1.toNat), (4, some w2.toNat)] ?_ rfl ?_
  · simp only [completionBytes, List.flatMap_cons, List.flatMap_nil, pieceBytes, List.append_assoc, List.append_nil]
  · exact fun f => Iff.rfl

/-! ### Event records (section 12.5) -/

/-- The pieces of an event's short field. -/
def Event.shortPieces : Event → List (Nat × Option Nat)
  | .sessionChanged n o c _ => [(1, some n.code), (1, some o.code), (1, some c.code)]
  | .formatLocked g => [(3, some g.rate)]
  | .formatLost code c => [(1, some code), (1, some c.code), (1, none)]
  | .walkStarted k st _ => [(1, some k.code), (1, some st.code), (1, none)]
  | .walkDone k st _ => [(1, some k.code), (1, some st.code), (1, none)]
  | .tileNotice i k a _ => [(1, some i), (1, some k.toNat), (1, some a.toNat)]
  | .tileSuspect i m _ => [(1, some i), (1, some m), (1, none)]
  | .tileRecovered i m _ => [(1, some i), (1, some m), (1, none)]
  | .capacityShort k f n _ _ => [(1, some (bitAt 0 k)), (1, some f), (1, some n)]
  | .cadenceChanged o n m _ => [(1, some o), (1, some n), (1, some m.code)]
  | .audioOverflow a c _ => [(1, some a.code), (1, some c), (1, none)]
  | .audioRateMismatch a _ _ => [(1, some a.code), (2, none)]
  | _ => [(3, none)]

/-- The pieces of an event's long field. -/
def Event.longPieces : Event → List (Nat × Option Nat)
  | .sessionChanged _ _ _ q => [(1, some q.code), (7, none)]
  | .formatLocked g => [(8, some (g.ht + 2 ^ 13 * g.ha + 2 ^ 26 * g.vt + 2 ^ 38 * g.va + bitAt 50 g.interlaced
      + 2 ^ 56 * g.code))]
  | .walkStarted _ _ gen => [(2, some gen.toNat), (6, none)]
  | .walkDone _ _ r => [(4, some (r.outcome.code + 2 ^ 3 * r.warnings + 2 ^ 9 * r.count + 2 ^ 16 * r.generation.toNat)),
      (4, some r.check.toNat)]
  | .tileNotice _ _ _ sn => [(6, some sn.toNat), (2, none)]
  | .tileSuspect _ _ sn => [(6, some sn.toNat), (2, none)]
  | .tileRecovered _ _ sn => [(6, some sn.toNat), (2, none)]
  | .capacityShort _ _ _ d sl => [(4, some d), (4, some sl)]
  | .cadenceChanged _ _ _ d => [(4, some d), (4, none)]
  | .audioOverflow _ _ r => [(4, some r), (4, none)]
  | .audioRateMismatch _ d m => [(4, some d), (4, some m)]
  | .audioRateRestored d m => [(4, some d), (4, some m)]
  | .eventOverrun n => [(4, some n), (4, none)]
  | _ => [(8, none)]

theorem Event.short_eq (e : Event) : e.short = e.shortPieces.flatMap pieceBytes := by
  cases e <;> simp [Event.short, Event.shortPieces, pieceBytes, zeros, leBytes_byte, List.replicate]

theorem Event.long_eq (e : Event) : e.long = e.longPieces.flatMap pieceBytes := by
  cases e <;> simp [Event.long, Event.longPieces, pieceBytes, padTo, WalkReport.word1, leBytes_word]

theorem eventBytes_eq (fsn : Fsn) (phase : Bool) (e : Event) : eventBytes fsn phase e
    = ((1, some (e.kind + bitAt 7 phase)) :: e.shortPieces ++ (4, some fsn.toNat) :: e.longPieces).flatMap pieceBytes := by
  simp only [eventBytes, Event.short_eq, Event.long_eq, List.cons_append, List.flatMap_cons, List.flatMap_append,
    pieceBytes, List.append_assoc]

/-- The fields of an event record are those of its header, its short field and its long field. -/
theorem eventBytes_laidOut (fsn : Fsn) (phase : Bool) (e : Event) {fields : List (Nat × Nat × Nat)}
    (same : ∀ f, f ∈ fields
      ↔ f ∈ piecesAt 0 ((1, some (e.kind + bitAt 7 phase)) :: e.shortPieces ++ (4, some fsn.toNat) :: e.longPieces)) :
    laidOut (eventBytes fsn phase e) 16 fields :=
  laidOut_pieces _ (eventBytes_eq fsn phase e) (by cases e <;> rfl) same

/-- Settles O4: commands field by field, records piece by piece, and the codes by evaluation. -/
theorem recordRoundTrip : Obligations.RecordRoundTrip := by
  unfold Obligations.RecordRoundTrip
  refine ⟨fun i r wf e => decodeRecord_encodeRecord wf e, completionBytes_laidOut, fun fsn phase e => ⟨?event, ?kind⟩,
    by decide, by decide, by decide, fun q => rfl, by decide, by decide, by decide, by decide, by decide, by decide⟩
  case event =>
    refine eventBytes_laidOut fsn phase e ?_
    cases e <;>
      simp [piecesAt, Event.shortPieces, Event.longPieces, Event.kind, bitAt, or_comm, or_left_comm, or_assoc]
  case kind => cases e <;> rfl

end Sys2Proof.Machine
end

section
/-!
PROOFS. The resets, the register window and the bootstrap: a row that hands nothing over answers the state that its
meaning gives (sections 11.1, 11.2, 11.10).
-/

namespace Sys2Proof.Machine

set_option Elab.async false

/-- A row whose meaning gives a state with nothing handed over. -/
theorem done_of_eq {s t : State} (e : s = t) (settled : t.handed = []) : done s = .next t :=
  done_settled (e ▸ settled) e

/-! ### Copies that stop -/

theorem foldl_emitPart_out (l : List (Addr × List Byte)) (s : State) :
    (l.foldl (fun s c => emitPart c.1 c.2 s) s).out
      = s.out ++ l.mapIdx (fun k c => .hostWrite c.1 (partWritten (s.choices + k) c.2)) := by
  induction l generalizing s with
  | nil => simp
  | cons c l ih =>
    rw [List.foldl_cons, ih, List.mapIdx_cons, emitPart_out, emitPart_choices, List.append_assoc]
    simp [partWritten, Nat.add_assoc, Nat.add_comm 1]

theorem stopCopies_eq (s : State) : stopCopies s =
    { s with out := s.out ++ s.stoppedWrites, choices := s.choices + (copiesRunning s).length } := by
  obtain ⟨o, e⟩ := stopCopies_spec s
  have ho : (stopCopies s).out = s.out ++ s.stoppedWrites := foldl_emitPart_out _ s
  rw [e] at ho ⊢
  exact congrArg (fun o => { s with out := o, choices := s.choices + (copiesRunning s).length }) ho

theorem resetBlocks_out (s : State) : (resetBlocks s).out =
    s.out ++ s.stoppedWrites ++ (if s.ses.lanes then [.lanes false] else []) := by
  simp only [resetBlocks, stopCopies_eq]
  split <;> simp

/-- Settles O12: no reset hands anything over, and both put the same values into every block. -/
theorem fullResets : Obligations.FullResets := by
  refine ⟨fun s => ⟨resetBlocks s, done_settled rfl rfl, done_settled rfl rfl, rfl, rfl, rfl, rfl, rfl, rfl, rfl, rfl,
    rfl, rfl, rfl, rfl, rfl, resetBlocks_out s⟩, ?_⟩
  and_intros <;> rfl

/-! ### The interface reset (R184) -/

/-- A requester's transaction in flight goes on with its outcome unwanted. -/
theorem orphanFlight_eq (r : Requester) (s : State) : orphanFlight r s = { s with sbc := { s.sbc with
    inFlight := s.sbc.inFlight.map (fun x => if x.requester = r then { x with orphan := true } else x) } } := by
  have kept : s = { s with sbc := { s.sbc with inFlight := s.sbc.inFlight } } := rfl
  unfold orphanFlight
  split
  · next t h =>
    simp only [h, Option.map_some]
    split
    · rfl
    · rw [kept, h]
  · next h => rw [kept, h]; rfl

/-- A withdrawal takes back the requester's own request, and perhaps what it was to place next. -/
theorem withdraw_spec (r : Requester) (s : State) :
    ∃ d, withdraw r s = { s with sbc := { setRequest r none s.sbc with deferred := d } } := by
  unfold withdraw
  dsimp only
  split
  · exact ⟨none, rfl⟩
  · exact ⟨(setRequest r none s.sbc).deferred, rfl⟩

/-- DCR at an interface reset: its request is withdrawn, its transaction in flight goes on unwanted, and the cache keeps
the VALID entries but the one that DROP-DESCRIPTORS has marked (R99). -/
theorem dcrIfReset_eq (s : State) : ∃ d, dcrIfReset s = { s with
    dcr := { Dcr.reset with
      cache := s.dcr.cache.filter (fun e => e.valid && !decide (s.dcr.removal = some e.serial)) }
    sbc := { s.sbc with
      drReq := none, deferred := d
      inFlight := s.sbc.inFlight.map (fun x => if x.requester = .dr then { x with orphan := true } else x) } } := by
  obtain ⟨d, hd⟩ := withdraw_spec .dr s
  refine ⟨d, ?_⟩
  simp only [dcrIfReset, orphanFlight_eq, hd, setRequest]
  cases s.dcr.removal with
  | none => simp [removeFilling]
  | some sn => simp [removeEntry, removeFilling, List.filter_filter, eq_comm, Bool.and_comm]

/-- APQ at an interface reset (R145). -/
theorem packetsIfReset_eq (s : State) : ∃ d a, packetsIfReset s = { s with
    apq := { Apq.reset with acPacket := a }, sbc := { s.sbc with acReq := none, deferred := d } } := by
  obtain ⟨d, hd⟩ := withdraw_spec .ac s
  exact ⟨d, _, by simp only [packetsIfReset, hd, setRequest]; rfl⟩

/-- The interface reset block by block (R184). -/
theorem interfaceReset_eq (s : State) : ∃ d a, interfaceReset s = { s with
    out := s.out ++ s.stoppedWrites, choices := s.choices + (copiesRunning s).length, hif := Hif.reset s.hif.nextId
    rwk := { s.rwk with denyWork := [], denyReading := false, copies := [] }
    stt := { s.stt with work := [], reading := false }
    apq := { Apq.reset with acPacket := a }
    dcr := { Dcr.reset with
      cache := s.dcr.cache.filter (fun e => e.valid && !decide (s.dcr.removal = some e.serial)) }
    sbc := { s.sbc with
      drReq := none, acReq := none, deferred := d
      inFlight := s.sbc.inFlight.map (fun x => if x.requester = .dr then { x with orphan := true } else x) } } := by
  unfold interfaceReset
  rw [stopCopies_eq s]
  dsimp only [rosterIfReset]
  generalize hs : State.mk .. = s1
  obtain ⟨d, hd⟩ := dcrIfReset_eq s1
  obtain ⟨d', a, hp⟩ := packetsIfReset_eq (dcrIfReset s1)
  rw [hd] at hp
  exact ⟨d', a, by rw [hd, hp, ← hs]; rfl⟩

/-- Settles O13: nothing is handed over, and every block is as its own rule leaves it. -/
theorem interfaceResets : Obligations.InterfaceResets := by
  intro s settled
  obtain ⟨d, a, e⟩ := interfaceReset_eq s
  have handed : (interfaceReset s).handed = [] := by rw [e]; exact settled
  have pins : (interfaceReset s).pins = s.pins := by rw [e]
  refine ⟨interfaceReset s, done_settled handed rfl, done_settled handed (by rw [resetMsi, pins]), ?_⟩
  rw [e]
  and_intros <;> rfl

/-! ### ENABLE and DRAINING (R168, R170) -/

/-- DRAINING with nothing in flight is over (R170). -/
theorem endDraining_over {s : State} (hd : s.hif.state = .draining) (h0 : takenCount s.hif = 0) :
    endDraining s = { s with hif := { s.hif with
      state := .disabled, rings := [none, none, none], comp := none, event := none, overrun := 0 } } := by
  simp [endDraining, hd, h0]

theorem endDraining_held {s : State} (h0 : takenCount s.hif ≠ 0) : endDraining s = s := by
  unfold endDraining
  split
  · rw [if_neg h0]
  · rfl

/-- In RUNNING the clearing of ENABLE begins DRAINING, which may be over at once (R168, R170). -/
theorem clearEnable_running {s : State} (on : s.hif.enable = true) (running : s.hif.state = .running) : clearEnable s =
    endDraining { s with hif := { s.hif with enable := false, state := .draining } } := by
  simp [clearEnable, on, running]

/-- Settles O14: the cases of R168 by HIF's state, the bootstrap read and the bootstrap address. -/
theorem enableAndDraining : Obligations.EnableAndDraining := by
  refine ⟨fun s settled => ⟨fun off => ⟨fun disabled idle => ⟨fun aligned => ?_, fun skew => ?_⟩, fun elsewhere => ?_⟩,
    fun on => ⟨fun running busy => ?_, fun running none_ => ?_, fun other => ?_⟩⟩,
    fun s settled draining => ⟨fun none_ => ?_, fun busy => ?_⟩⟩
  · exact done_settled (by simp [setEnable, off, disabled, idle, aligned, settled])
      (by simp [setEnable, off, disabled, idle, aligned, emit])
  · exact done_settled (by simp [setEnable, off, disabled, idle, skew, settled])
      (by simp [setEnable, off, disabled, idle, skew])
  · have e : setEnable s = { s with hif := { s.hif with enable := true } } := by
      rw [setEnable, if_neg (by simp [off])]
      rcases elsewhere with h | h
      · split
        · contradiction
        · rfl
      · split
        · rw [if_pos h]
        · rfl
    exact done_of_eq e settled
  · have e : clearEnable s = { s with hif := { s.hif with enable := false, state := .draining } } := by
      rw [clearEnable_running on running]
      exact endDraining_held busy
    exact done_of_eq e settled
  · have e : clearEnable s = { s with hif := { s.hif with
        enable := false, state := .disabled, rings := [none, none, none], comp := none, event := none
        overrun := 0 } } := by
      rw [clearEnable_running on running]
      exact endDraining_over rfl none_
    exact done_of_eq e settled
  · have e : clearEnable s = { s with hif := { s.hif with enable := false } } := by
      rw [clearEnable, if_pos on]
      split
      · contradiction
      · rfl
    exact done_of_eq e settled
  · have e := endDraining_over draining none_
    exact done_of_eq e settled
  · have e := endDraining_held busy
    exact done_of_eq e settled

/-! ### The bootstrap (R168, R169) -/

theorem raiseCause_fatal (s : State) : raiseCause .fatal s =
    { s with hif := { s.hif with causeFatal := true }, out := s.out ++ s.msiDue } := by
  rw [raiseCause, msiDue_eq]
  split <;> simp [emit]

theorem raiseCause_event (s : State) : raiseCause .event s =
    { s with hif := { s.hif with causeEvent := true }, out := s.out ++ s.msiDue } := by
  rw [raiseCause, msiDue_eq]
  split <;> simp [emit]

/-- The first failure of host memory takes HIF to FATAL (R182). -/
theorem enterFatal_eq {s : State} (c : FatalCause) (h : s.hif.state ≠ .fatal) : enterFatal c s = s.fatalNow c := by
  have e : enterFatal c s = raiseCause .fatal
      { s with hif := { s.hif with state := .fatal, fatalCause := c, fetch := none } } := by
    unfold enterFatal
    split
    · contradiction
    · rfl
  rw [e, raiseCause_fatal]
  rfl

/-- A second failure leaves the first cause in place (R182). -/
theorem enterFatal_again {s : State} (c : FatalCause) (h : s.hif.state = .fatal) : enterFatal c s = s := by
  simp [enterFatal, h]

/-- The model's checks of a bootstrap record are those of R169. -/
theorem bootShape_iff (n0 n1 : Nat) (b0 b1 : Addr) :
    (ringSizeOk 1024 n0 && ringBaseOk b0 && ringSizeOk 1024 n1 && ringBaseOk b1) = true ↔
      powerSize 1024 n0 ∧ powerSize 1024 n1 ∧ b0.toNat % 64 = 0 ∧ b1.toNat % 64 = 0 := by
  rw [Bool.and_assoc, Bool.and_eq_true, ringShapeOk_iff _ _ (Nat.le_refl 1024), ringShapeOk_iff _ _ (Nat.le_refl 1024)]
  tauto

section
variable {s : State} (reading : s.hif.bootReading = true)
include reading

theorem endBootstrap_failed : endBootstrap none s =
    enterFatal .bootRead { s with hif := { s.hif with bootReading := false } } := by
  rw [endBootstrap, if_pos reading]

theorem endBootstrap_invalid {rec : BootRecord} (bad : bootRings rec = none) : endBootstrap (some rec) s =
    { s with hif := { s.hif with bootReading := false, configError := true } } := by
  rw [endBootstrap, if_pos reading]
  simp only [bad]

theorem endBootstrap_valid {rec : BootRecord} {g : Ring} {c : RecordRing} (rings : bootRings rec = some (g, c)) :
    endBootstrap (some rec) s = if s.hif.enable then enterRunning g c { s with hif := { s.hif with bootReading := false } }
      else { s with hif := { s.hif with bootReading := false } } := by
  rw [endBootstrap, if_pos reading]
  simp only [rings]

end

/-- Settles O15: the three ends of the bootstrap read, and the validity of the record. -/
theorem bootstrap : Obligations.Bootstrap := by
  refine ⟨fun s settled reading disabled => ⟨fun rec g c rings => ⟨fun on => ?_, fun off => ?_⟩, fun rec bad => ?_, ?_⟩,
    fun rec => ⟨fun ok => if_pos ((bootShape_iff ..).2 ok), fun bad => if_neg (mt (bootShape_iff ..).1 bad)⟩⟩
  · have e := endBootstrap_valid reading rings
    rw [if_pos on] at e
    exact done_of_eq e settled
  · have e := endBootstrap_valid reading rings
    rw [if_neg (by simp [off])] at e
    exact done_of_eq e settled
  · have e := endBootstrap_invalid reading bad
    exact done_of_eq e settled
  · have e := (endBootstrap_failed reading).trans (enterFatal_eq .bootRead (by simp [disabled]))
    exact done_of_eq e settled

/-! ### Registers (R171, R181) -/

/-- Setting IRQ_EN brings an MSI where it was clear and CAUSE is not empty (R181). -/
theorem writeIrqEn_true (s : State) : writeIrqEn true s = { s with
    hif := { s.hif with irqEn := true }
    out := s.out ++ (if s.hif.irqEn = false ∧ s.pins.msiEnable = true
      ∧ (s.hif.causeCompletion = true ∨ s.hif.causeEvent = true ∨ s.hif.causeFatal = true) then [.msi] else []) } := by
  have due : (true && !s.hif.irqEn && !s.hif.causeEmpty && s.pins.msiEnable) = true ↔
      s.hif.irqEn = false ∧ s.pins.msiEnable = true
        ∧ (s.hif.causeCompletion = true ∨ s.hif.causeEvent = true ∨ s.hif.causeFatal = true) := by
    simp only [Hif.causeEmpty, Bool.and_eq_true, Bool.not_eq_true', Bool.not_eq_false', Bool.or_eq_true]
    tauto
  by_cases h : s.hif.irqEn = false ∧ s.pins.msiEnable = true
      ∧ (s.hif.causeCompletion = true ∨ s.hif.causeEvent = true ∨ s.hif.causeFatal = true)
  · rw [writeIrqEn, if_pos (due.2 h), if_pos h]
    rfl
  · rw [writeIrqEn, if_neg (due.not.2 h), if_neg h, List.append_nil]

/-- Settles O16: each write changes its register, and a read returns what the register holds. -/
theorem registerWrites : Obligations.RegisterWrites := by
  intro s v settled
  refine ⟨done_settled settled rfl, done_settled settled rfl, done_settled settled rfl, done_settled settled rfl,
    rfl, rfl, rfl, rfl, rfl, rfl, rfl, rfl, done_settled settled rfl, ?_, done_settled settled rfl⟩
  have e := writeIrqEn_true s
  exact done_of_eq e settled

end Sys2Proof.Machine
end

section
/-!
PROOFS. The rings of the host interface: index writes, the event ring, the fetch arbiter and failures of host memory
(sections 11.2 to 11.8).
-/

namespace Sys2Proof.Machine

set_option Elab.async false

/-! ### Producer and consumer writes (R172, R178) -/

theorem moveProducer_moves {s : State} {r i : Nat} {g : Ring} (ring : ringAt s.hif r = some g) (low : i < g.size) :
    moveProducer r i s = { s with hif := setRing r (some { g with prod := i }) s.hif } := by
  rw [moveProducer, ring]
  exact if_pos low

theorem moveProducer_ignored {s : State} {r i : Nat}
    (h : ringAt s.hif r = none ∨ ∃ g, ringAt s.hif r = some g ∧ g.size ≤ i) : moveProducer r i s = s := by
  rcases h with h | ⟨g, ring, high⟩
  · rw [moveProducer, h]
  · rw [moveProducer, ring]
    exact if_neg (Nat.not_lt.2 high)

theorem writeProducer_moves {s : State} {ring : BitVec 2} {index : BitVec 10} {g : Ring}
    (writes : writesRecords s.hif = true) (present : ringAt s.hif ring.toNat = some g) (low : index.toNat < g.size) :
    writeProducer ring index s = { s with hif := { s.hif with
      producerReg := word (index.toNat + 2 ^ 16 * ring.toNat)
      rings := s.hif.rings.set ring.toNat (some { g with prod := index.toNat }) } } := by
  rw [writeProducer, if_pos writes]
  exact moveProducer_moves (s := { s with hif := { s.hif with producerReg := _ } }) present low

theorem writeProducer_ignored {s : State} {ring : BitVec 2} {index : BitVec 10}
    (h : writesRecords s.hif = false ∨ ringAt s.hif ring.toNat = none
      ∨ ∃ g, ringAt s.hif ring.toNat = some g ∧ g.size ≤ index.toNat) : writeProducer ring index s =
    { s with hif := { s.hif with producerReg := word (index.toNat + 2 ^ 16 * ring.toNat) } } := by
  rw [writeProducer]
  rcases h with h | h
  · rw [if_neg (by simp [h])]
  · split
    · exact moveProducer_ignored h
    · rfl

theorem release_some {r : RecordRing} {i : Nat} (good : i < r.size
    ∧ (i + r.size - r.host) % r.size ≤ (r.write + r.size - r.host) % r.size) : r.release i = some { r with host := i } :=
  if_pos good

theorem release_none {r : RecordRing} {i : Nat} (bad : ¬ (i < r.size
    ∧ (i + r.size - r.host) % r.size ≤ (r.write + r.size - r.host) % r.size)) : r.release i = none :=
  if_neg bad

/-- A release that moves the host index forward frees a place (R178). -/
theorem release_frees {r : RecordRing} {i : Nat} (inRange : r.inRange) (good : i < r.size
    ∧ (i + r.size - r.host) % r.size ≤ (r.write + r.size - r.host) % r.size) (moved : i ≠ r.host) :
    ({ r with host := i } : RecordRing).unreleased < r.unreleased := by
  obtain ⟨hw, hh⟩ := inRange
  obtain ⟨hi, hle⟩ := good
  simp only [RecordRing.unreleased]
  rw [distance_eq hi hh, distance_eq hw hh] at hle
  rw [distance_eq hw hi, distance_eq hw hh]
  split at hle <;> split <;> split at hle <;> (try split) <;> omega

section
variable {s : State} {index : BitVec 10}

theorem releaseCompletions_ignored (h : writesRecords s.hif = false ∨ s.hif.comp = none) :
    releaseCompletions index s = { s with hif := { s.hif with consumerReg := word index.toNat } } := by
  rw [releaseCompletions]
  rcases h with h | h
  · rw [if_neg (by simp [h])]
  · simp [h]

theorem releaseEvents_ignored (h : writesRecords s.hif = false ∨ s.hif.event = none) :
    releaseEvents index s = { s with hif := { s.hif with consumerReg := word (index.toNat + 2 ^ 16) } } := by
  rw [releaseEvents]
  rcases h with h | h
  · rw [if_neg (by simp [h])]
  · simp [h]

section
variable {r : RecordRing} (writes : writesRecords s.hif = true)
include writes

theorem releaseCompletions_none (comp : s.hif.comp = some r) (bad : r.release index.toNat = none) :
    releaseCompletions index s = { s with hif := { s.hif with consumerReg := word index.toNat } } := by
  rw [releaseCompletions, if_pos writes]
  simp only [comp, bad]

theorem releaseCompletions_some {r1 : RecordRing} (comp : s.hif.comp = some r)
    (good : r.release index.toNat = some r1) : releaseCompletions index s =
      { s with hif := { s.hif with consumerReg := word index.toNat, comp := some r1 } } := by
  rw [releaseCompletions, if_pos writes]
  simp only [comp, good]

/-- A release of events with nothing to report (R178, R180). -/
theorem releaseEvents_none (event : s.hif.event = some r) (bad : r.release index.toNat = none) :
    releaseEvents index s = { s with hif := { s.hif with consumerReg := word (index.toNat + 2 ^ 16) } } := by
  rw [releaseEvents, if_pos writes]
  simp only [event, bad]

theorem releaseEvents_some {r1 : RecordRing} (event : s.hif.event = some r) (good : r.release index.toNat = some r1) :
    releaseEvents index s =
      if r1.unreleased < r.unreleased then putOverrun
        { s with hif := { s.hif with consumerReg := word (index.toNat + 2 ^ 16), event := some r1 } }
      else { s with hif := { s.hif with consumerReg := word (index.toNat + 2 ^ 16), event := some r1 } } := by
  rw [releaseEvents, if_pos writes]
  simp only [event, good]

end
end

/-! ### Event records (R180) -/

theorem putEvent_eq {s : State} {r : RecordRing} (e : Event) (event : s.hif.event = some r) : putEvent e s =
    { s with
      hif := { s.hif with event := some r.advance, causeEvent := true }
      out := s.out ++ .hostWrite r.slot (eventBytes s.fmon.fsn r.phase e) :: s.msiDue } := by
  rw [putEvent]
  simp only [event]
  rw [raiseCause_event, emit_out, List.append_assoc]
  rfl

/-- Nothing lost, nothing to report. -/
theorem putOverrun_none {s : State} (h : s.hif.overrun = 0) : putOverrun s = s := by
  unfold putOverrun
  split
  · exact if_neg (by simp [h])
  · rfl

theorem putOverrun_full {s : State} {r : RecordRing} (event : s.hif.event = some r)
    (full : ¬ r.unreleased < r.size - 1) : putOverrun s = s := by
  rw [putOverrun, event]
  exact if_neg fun h => full h.2

/-- EVENT_OVERRUN goes into the ring's next place. -/
theorem putOverrun_eq {s : State} {r : RecordRing} (event : s.hif.event = some r) (lost : 0 < s.hif.overrun)
    (room : r.unreleased < r.size - 1) : putOverrun s = { s with
      hif := { s.hif with event := some r.advance, causeEvent := true, overrun := 0 }
      out := s.out ++ .hostWrite r.slot (eventBytes s.fmon.fsn r.phase (.eventOverrun s.hif.overrun)) :: s.msiDue } := by
  rw [putOverrun]
  simp only [event]
  rw [if_pos ⟨lost, room⟩]
  exact putEvent_eq (s := { s with hif := { s.hif with overrun := 0, event := some r } }) _ rfl

/-- Settles O17: the writes that move an index, those that are ignored, and the report of lost events. -/
theorem indexWrites : Obligations.IndexWrites := by
  refine ⟨fun s ring index settled => ⟨fun g writes present low => ?moved, fun h => ?ignored⟩,
    fun s index settled => ⟨fun h => done_of_eq (releaseCompletions_ignored h) settled,
      fun h => done_of_eq (releaseEvents_ignored h) settled⟩,
    fun s index r settled writes => ⟨fun comp => ⟨fun good => ?_, fun bad => ?_⟩,
      fun event => ⟨fun good quiet => ?_, fun good lost moved inRange => ?_, fun bad => ?_⟩⟩⟩
  case moved => exact done_of_eq (writeProducer_moves writes present low) settled
  case ignored => exact done_of_eq (writeProducer_ignored h) settled
  · exact done_of_eq (releaseCompletions_some writes comp (release_some good)) settled
  · exact done_of_eq (releaseCompletions_none writes comp (release_none bad)) settled
  · refine done_of_eq ((releaseEvents_some writes event (release_some good)).trans ?_) settled
    rcases quiet with none_ | same
    · rw [putOverrun_none (by exact none_), ite_self]
    · exact if_neg (by rw [same]; exact Nat.lt_irrefl _)
  · have frees := release_frees inRange good moved
    have room := unreleased_le inRange
    refine done_of_eq (((releaseEvents_some writes event (release_some good)).trans (if_pos frees)).trans ?_) settled
    refine putOverrun_eq (r := { r with host := index.toNat }) rfl lost ?_
    exact lt_of_lt_of_le frees room
  · exact done_of_eq (releaseEvents_none writes event (release_none bad)) settled

/-! ### Events at HIF, and CONFIGURE-EVENTS (R179, R180) -/

theorem eventDropped_iff (h : Hif) (e : Event) : eventDropped h e = true ↔
    writesRecords h = false ∨ h.event = none ∨ h.mask.getLsbD e.kind = false := by
  simp only [eventDropped, Bool.not_eq_true', Bool.and_eq_false_iff, Option.isSome_eq_false_iff, Option.isNone_iff_eq_none,
    or_assoc]

section
variable {s : State} {e : Event} {r : RecordRing} (writes : writesRecords s.hif = true) (event : s.hif.event = some r)
  (listed : s.hif.mask.getLsbD e.kind = true)
include writes event listed

/-- An event that is not dropped is written or counted, after the report of lost events (R180). -/
theorem writeEvent_eq : writeEvent e s = writeOrCount e (putOverrun s) :=
  if_neg (mt (eventDropped_iff s.hif e).1 (by simp [writes, event, listed]))

/-- A full ring counts the event. -/
theorem writeEvent_full (full : r.unreleased = r.size - 1) :
    writeEvent e s = { s with hif := { s.hif with overrun := min wordMax (s.hif.overrun + 1) } } := by
  have no : ¬ r.unreleased < r.size - 1 := by omega
  rw [writeEvent_eq writes event listed, putOverrun_full event no, writeOrCount, event]
  exact if_neg no

/-- A ring with a place and nothing lost takes the event. -/
theorem writeEvent_room (room : r.unreleased < r.size - 1) (none_ : s.hif.overrun = 0) : writeEvent e s = { s with
    hif := { s.hif with event := some r.advance, causeEvent := true }
    out := s.out ++ .hostWrite r.slot (eventBytes s.fmon.fsn r.phase e) :: s.msiDue } := by
  rw [writeEvent_eq writes event listed, putOverrun_none none_, writeOrCount]
  simp only [event]
  rw [if_pos room, putEvent_eq e event]

/-- Lost events are reported first, and the event is then handled as one without lost events. -/
theorem writeEvent_lost (room : r.unreleased < r.size - 1) (lost : 0 < s.hif.overrun) :
    writeEvent e s = writeEvent e { s with
      hif := { s.hif with event := some r.advance, causeEvent := true, overrun := 0 }
      out := s.out ++ .hostWrite r.slot (eventBytes s.fmon.fsn r.phase (.eventOverrun s.hif.overrun)) :: s.msiDue } := by
  rw [writeEvent_eq writes event listed, putOverrun_eq event lost room]
  refine Eq.symm ((writeEvent_eq (r := r.advance) (by exact writes) (by rfl) (by exact listed)).trans ?_)
  rw [putOverrun_none rfl]

end

/-- The mask bits that CONFIGURE-EVENTS keeps are those of the kinds 1 to 16. -/
theorem kindBits_eq (mask : Word) :
    kindBits mask = mask &&& BitVec.ofNat 32 (((List.range 17).tail.map (2 ^ ·)).sum) := rfl

theorem exec_configureEvents {s : State} {g : Ring} {c : RecordRing} (f : s.Fetching controlRing g c) (tag : HostTag)
    (base : Addr) (size : Half) (keep : Bool) (mask : Word) : exec (.configureEvents tag base size keep mask) s =
      done (takeConfigureEvents (s.takenAs controlRing g tag) base size keep mask (s.taken controlRing g tag)) :=
  congrArg done (f.takeFrom tag _)

section
variable {h : Handle} {base : Addr} {size : Half} {mask : Word} {s : State}

theorem takeConfigureEvents_keepNone (event : s.hif.event = none) :
    takeConfigureEvents h base size true mask s = complete .hif h .notReady 0 0 s := by
  simp [takeConfigureEvents, event]

theorem takeConfigureEvents_keepSome {r : RecordRing} (event : s.hif.event = some r) :
    takeConfigureEvents h base size true mask s = complete .hif h .ok (word r.size) (kindBits mask)
      { s with hif := { s.hif with mask := kindBits mask } } := by
  simp [takeConfigureEvents, event]

theorem takeConfigureEvents_new : takeConfigureEvents h base size false mask s =
    if (ringSizeOk 256 size.toNat && ringBaseOk base) = true then
      complete .hif h .ok (word size.toNat) (kindBits mask)
        { s with hif := { s.hif with event := some (RecordRing.fresh base size.toNat), mask := kindBits mask } }
    else complete .hif h .badParam 0 0 s := rfl

end

/-- Settles O18: the three cases of an event, and the four outcomes of CONFIGURE-EVENTS. -/
theorem eventRing : Obligations.EventRing := by
  refine ⟨fun s e r => ⟨fun h => if_pos ((eventDropped_iff s.hif e).2 h), fun writes event listed =>
    ⟨writeEvent_full writes event listed, writeEvent_room writes event listed, writeEvent_lost writes event listed⟩⟩, ?_⟩
  intro s g c tag base size mask f h s1 good kinds placed
  have p : s1.Pending h c := f.pending tag
  have shape : (ringSizeOk 256 size.toNat && ringBaseOk base) = true ↔ good := ringShapeOk_iff size.toNat base (by decide)
  simp only [exec_configureEvents f]
  refine ⟨fun event => ?_, fun r event => ?_, fun bad => ?_, fun ok => ?_⟩
  · rw [takeConfigureEvents_keepNone (s := s1) event]
    exact done_complete .hif .notReady 0 0 p
  · rw [takeConfigureEvents_keepSome (s := s1) event]
    exact done_complete .hif .ok _ _ ⟨p.settled, p.writes, p.comp, p.held⟩
  · rw [takeConfigureEvents_new, if_neg (shape.not.2 bad)]
    exact done_complete .hif .badParam 0 0 p
  · rw [takeConfigureEvents_new, if_pos (shape.2 ok)]
    exact done_complete .hif .ok _ _ ⟨p.settled, p.writes, p.comp, p.held⟩

/-! ### The fetch arbiter (R175) -/

theorem ringEligible_iff (s : State) (r : Nat) : ringEligible s r = true ↔
    ∃ g, ringAt s.hif r = some g ∧ g.prod ≠ g.cons ∧ (r = dispatchRing → 0 < poolFree s.apq) := by
  unfold ringEligible
  split
  · next g ring =>
    rw [ring]
    simp [← imp_iff_not_or]
  · next none_ => simp [none_]

theorem fetchChoice_running {s : State} (running : s.hif.state = .running) (idle : s.hif.fetch = none)
    (credit : 0 < freeCredits s.hif) : fetchChoice s =
      [(s.hif.lastRing + 1) % 3, (s.hif.lastRing + 2) % 3, s.hif.lastRing % 3].find? (ringEligible s) := by
  simp [fetchChoice, running, idle, credit]

theorem beginFetch_none {s : State} (h : fetchChoice s = none) : beginFetch s = s := by
  simp [beginFetch, h]

theorem beginFetch_some {s : State} {r : Nat} {g : Ring} (h : fetchChoice s = some r) (ring : ringAt s.hif r = some g) :
    beginFetch s = { s with
      hif := { s.hif with fetch := some r, lastRing := r }
      out := s.out ++ [.hostRead (g.base + BitVec.ofNat 64 (64 * g.cons)) 64] } := by
  simp [beginFetch, h, ring, emit, Ring.slot]

/-! ### Failures of host memory (R182) -/

theorem writesRecords_ne_fatal {h : Hif} (writes : writesRecords h = true) : h.state ≠ .fatal := by
  intro fatal
  simp [writesRecords, fatal] at writes

theorem failFetch_eq {s : State} {r : Nat} (writes : writesRecords s.hif = true) (fetch : s.hif.fetch = some r) :
    failFetch s = s.fatalNow (fetchCause r) := by
  rw [← enterFatal_eq _ (writesRecords_ne_fatal writes)]
  simp [failFetch, fetch, writes]

/-- In FATAL neither failure changes anything. -/
theorem failFetch_fatal {s : State} (fatal : s.hif.state = .fatal) : failFetch s = s := by
  unfold failFetch
  split
  · exact if_neg (by simp [writesRecords, fatal])
  · rfl

theorem failRecordWrite_fatal {s : State} (k : RecordKind) (fatal : s.hif.state = .fatal) : failRecordWrite k s = s :=
  if_neg (by simp [writesRecords, fatal])

theorem failRecordWrite_completion {s : State} (writes : writesRecords s.hif = true) (comp : s.hif.comp.isSome = true) :
    failRecordWrite .completion s = s.fatalNow .completionWrite := by
  rw [← enterFatal_eq _ (writesRecords_ne_fatal writes)]
  simp [failRecordWrite, comp, writes]

theorem failRecordWrite_event {s : State} (writes : writesRecords s.hif = true) (event : s.hif.event.isSome = true) :
    failRecordWrite .event s = s.fatalNow .eventWrite := by
  rw [← enterFatal_eq _ (writesRecords_ne_fatal writes)]
  simp [failRecordWrite, event, writes]

/-- Settles O19: the arbiter's choice is the first eligible ring of three, and the failures in RUNNING or DRAINING and in
FATAL. -/
theorem fetchesAndFailures : Obligations.FetchesAndFailures := by
  refine ⟨?arbiter, fun s settled => ⟨fun writes => ⟨fun fetch => ?_, fun fetch => ?_, fun fetch => ?_, fun comp => ?_,
    fun event => ?_⟩, fun fatal k => ⟨?_, ?_⟩⟩⟩
  case arbiter =>
    intro s settled ok a b c
    have yes : ∀ x, ok x → ringEligible s x = true := fun x => (ringEligible_iff s x).2
    have no : ∀ x, ¬ ok x → ringEligible s x = false := fun x h => by simpa using mt (ringEligible_iff s x).1 h
    refine ⟨fun running idle credit r g ring eligible place => ?_, fun h => ?_⟩
    · have choice : fetchChoice s = some r := by
        rw [fetchChoice_running running idle credit]
        rcases place with rfl | ⟨rfl, na⟩ | ⟨rfl, na, nb⟩
        · simp [a, yes _ eligible]
        · simp [a, b, yes _ eligible, no _ na]
        · simp [a, b, c, yes _ eligible, no _ na, no _ nb]
      exact done_of_eq (beginFetch_some choice ring) settled
    · have choice : fetchChoice s = none := by
        by_contra some_
        obtain ⟨r, hr⟩ := Option.ne_none_iff_exists'.1 some_
        obtain ⟨running, idle, credit, eligible⟩ := fetchChoice_spec hr
        rw [fetchChoice_running running idle credit] at hr
        have place := List.mem_of_find?_eq_some hr
        rcases h with h | h | h | ⟨na, nb, nc⟩
        · exact h running
        · simp [idle] at h
        · omega
        · have : r = a ∨ r = b ∨ r = c := by simpa using place
          rcases this with rfl | rfl | rfl
          · exact na ((ringEligible_iff s _).1 eligible)
          · exact nb ((ringEligible_iff s _).1 eligible)
          · exact nc ((ringEligible_iff s _).1 eligible)
      exact done_of_eq (beginFetch_none choice) settled
  · exact done_of_eq (failFetch_eq writes fetch) settled
  · exact done_of_eq (failFetch_eq writes fetch) settled
  · exact done_of_eq (failFetch_eq writes fetch) settled
  · exact done_of_eq (failRecordWrite_completion writes comp) settled
  · exact done_of_eq (failRecordWrite_event writes event) settled
  · exact done_of_eq (failRecordWrite_fatal k fatal) settled
  · exact done_of_eq (failFetch_fatal fatal) settled

end Sys2Proof.Machine
end

section
/-!
PROOFS. The status record, field by field, and the copies to host memory (sections 11.9, 12.6).
-/

namespace Sys2Proof.Machine

set_option Elab.async false

/-! ### The status record (section 12.6) -/

/-- The pieces of the plan's part of the status record. -/
def planPieces : Option Plan → List (Nat × Option Nat)
  | none => [(20, none)]
  | some p => [(4, some p.fsn.toNat), (4, some p.slots), (1, some p.factor), (1, some p.skipped.length),
      (1, some (bitAt 0 p.quiet)), (1, none), (2, some (p.standing.map (·.2)).sum), (2, some p.audioPackets),
      (2, some p.addressed.length), (2, some (p.addressed.map (·.slots)).sum)]

theorem planBytes_eq (p : Option Plan) : planBytes p = (planPieces p).flatMap pieceBytes := by
  cases p with
  | none => rfl
  | some p => simp [planBytes, planPieces, pieceBytes, zeros]

theorem planBytes_length (p : Option Plan) : (planBytes p).length = 20 := by
  cases p <;> simp [planBytes, zeros]

/-- The pieces of the status record. -/
def statusPieces (s : State) : List (Nat × Option Nat) :=
  [(4, some s.fmon.fsn.toNat), (1, some s.ses.session.code), (1, some s.ses.quiet.code), (1, some s.fmon.monitor.code),
    (1, some s.fmon.geometry.code), (1, some s.bss.mode.code), (1, some s.bss.factor), (1, some s.ain.audio.code),
    (1, none), (2, some s.ain.fifo.length), (2, some s.rwk.generation.toNat), (1, some (rosterCount s)),
    (1, some (poolFree s.apq)), (1, some s.apq.awaiting.length), (1, none)]
  ++ planPieces s.bss.plan ++ [(2, some (freeCredits s.hif)), (2, none), (4, some s.hif.overrun), (16, none)]

theorem statusBytes_eq (s : State) : statusBytes s = (statusPieces s).flatMap pieceBytes := by
  simp [statusBytes, statusPieces, padTo, ← planBytes_eq, planBytes_length, pieceBytes, zeros]

theorem planPieces_sum (p : Option Plan) : ((planPieces p).map (·.1)).sum = 20 := by
  cases p <;> rfl

theorem piecesAt_append (o : Nat) (ps qs : List (Nat × Option Nat)) :
    piecesAt o (ps ++ qs) = piecesAt o ps ++ piecesAt (o + (ps.map (·.1)).sum) qs := by
  induction ps generalizing o with
  | nil => rfl
  | cons x ps ih =>
    obtain ⟨n, _ | v⟩ := x <;> simp [piecesAt, ih, Nat.add_assoc]

/-- The fields of the status record. -/
theorem piecesAt_statusPieces (s : State) : piecesAt 0 (statusPieces s) =
    [(0, 4, s.fmon.fsn.toNat), (4, 1, s.ses.session.code), (5, 1, s.ses.quiet.code), (6, 1, s.fmon.monitor.code),
      (7, 1, s.fmon.geometry.code), (8, 1, s.bss.mode.code), (9, 1, s.bss.factor), (10, 1, s.ain.audio.code),
      (12, 2, s.ain.fifo.length), (14, 2, s.rwk.generation.toNat), (16, 1, rosterCount s), (17, 1, poolFree s.apq),
      (18, 1, s.apq.awaiting.length)]
    ++ piecesAt 20 (planPieces s.bss.plan) ++ [(40, 2, freeCredits s.hif), (44, 4, s.hif.overrun)] := by
  simp [statusPieces, piecesAt, piecesAt_append, planPieces_sum]

/-- The free credits, 0 without a completion ring (R176). -/
theorem freeCredits_eq (h : Hif) : freeCredits h = match h.comp with
    | none => 0
    | some c => c.size - 1 - (h.inFlight.length + (if h.fetch.isSome then 1 else 0))
      - (c.write + c.size - c.host) % c.size := by
  unfold freeCredits
  cases h.comp <;> rfl

/-- The roster count: entries ACTIVE or DENIED (R61). -/
theorem rosterCount_eq (s : State) :
    rosterCount s = s.rwk.roster.countP (fun e => decide (e.state = .active ∨ e.state = .denied)) :=
  congrArg (fun p => s.rwk.roster.countP p) (funext fun _ => (Bool.decide_or ..).symm)

theorem poolFree_eq (q : Apq) :
    poolFree q = 64 - (q.fetching.length + (classPackets q).length + q.awaiting.length) := by
  simp [poolFree, poolSize, poolHeld, classPackets, Nat.add_assoc]

/-! ### Copies to host memory (R83, R183) -/

/-- A good copy is one write at its end, and its command completes. -/
theorem endCopyOf_good {s : State} {c : RecordRing} {k : Copy} (o : Owner) (p : s.Pending k.handle c) :
    done (endCopyOf o k true s) = .next ({ s with
      out := s.out ++ [Output.hostWrite k.addr k.image] }.completed c k.handle .ok k.word1 k.word2) :=
  done_complete (s := emit (.hostWrite k.addr k.image) s) o .ok _ _ ⟨p.settled, p.writes, p.comp, p.held⟩

/-- A failed copy has written a part, and its command completes with HOST_WRITE_ERROR. -/
theorem endCopyOf_failed {s : State} {c : RecordRing} {k : Copy} (o : Owner) (p : s.Pending k.handle c) :
    done (endCopyOf o k false s) = .next ({ s with
      out := s.out ++ [Output.hostWrite k.addr (partWritten s.choices k.image)], choices := s.choices + 1
      }.completed c k.handle .hostWriteError 0 0) :=
  done_complete (s := emitPart k.addr k.image s) o .hostWriteError 0 0 ⟨p.settled, p.writes, p.comp, p.held⟩

/-! ### READ-STATUS (R183) -/

theorem exec_readStatus {s : State} {g : Ring} {c : RecordRing} (f : s.Fetching controlRing g c) (tag : HostTag)
    (addr : Addr) (len : Word) : exec (.readStatus tag addr len) s =
      done (takeReadStatus (s.takenAs controlRing g tag) addr len (s.taken controlRing g tag)) :=
  congrArg done (f.takeFrom tag _)

theorem endStatusCopy_eq {s : State} {n : Nat} {k : Copy} (h : s.hif.copies[n]? = some k) (ok : Bool) :
    endStatusCopy n ok s = endCopyOf .hif k ok { s with hif := { s.hif with copies := s.hif.copies.eraseIdx n } } := by
  simp only [endStatusCopy, h]

/-- Settles O21: the record piece by piece, the take, and the two ends of the copy. -/
theorem statusReads : Obligations.StatusReads := by
  intro s plan credits held
  refine ⟨?record, by decide, ?take, fun n c k copy p => ⟨?_, ?_⟩⟩
  case record =>
    refine laidOut_pieces _ (statusBytes_eq s) (by simp [statusPieces, planPieces_sum]) fun f => ?_
    have hcredits : credits = freeCredits s.hif := (freeCredits_eq s.hif).symm
    have hplan : plan = piecesAt 20 (planPieces s.bss.plan) := by
      cases h : s.bss.plan <;> simp [plan, h, planPieces, piecesAt, bitAt]
    rw [piecesAt_statusPieces, hcredits, hplan, ← rosterCount_eq, ← poolFree_eq]
    simp only [List.mem_append, List.mem_cons, List.not_mem_nil, or_false]
    tauto
  case take =>
    intro g c tag addr len f h s1
    refine ⟨fun short => ?_, fun long => ?_⟩
    · rw [exec_readStatus f, takeReadStatus, if_pos short]
      exact done_complete .hif .badParam 0 0 (f.pending tag)
    · rw [exec_readStatus f, takeReadStatus, if_neg (Nat.not_lt.2 long)]
      exact done_settled f.settled rfl
  · have q : ({ s with hif := { s.hif with copies := s.hif.copies.eraseIdx n } } : State).Pending k.handle c :=
      ⟨p.settled, p.writes, p.comp, p.held⟩
    exact (congrArg done (endStatusCopy_eq copy true)).trans (endCopyOf_good .hif q)
  · have q : ({ s with hif := { s.hif with copies := s.hif.copies.eraseIdx n } } : State).Pending k.handle c :=
      ⟨p.settled, p.writes, p.comp, p.held⟩
    exact (congrArg done (endStatusCopy_eq copy false)).trans (endCopyOf_failed .hif q)

end Sys2Proof.Machine
end

section
/-!
PROOFS. What the end of a step writes: the completion of every command that an owner has handed over, and every event for
which the event ring has a place, in whatever order HIF handles them (R176 to R180).
-/

namespace Sys2Proof.Machine

set_option Elab.async false

/-! ### One item -/

/-- The items that are events. -/
def Handed.isEvent (x : Handed) : Bool := !x.isCompletion

/-- The outputs between two states of which the first has sent a part of what the second has. -/
theorem sentTo_append {s t : State} {o : List Output} (h : t.out = s.out ++ o) : s.sentTo t = o := by
  rw [State.sentTo, h, List.drop_left]

/-- What is sent later in a step is sent in the step. -/
theorem sentTo_of_prefix {s u t : State} (before : s.out <+: u.out) (after : u.out <+: t.out) {o : Output}
    (h : o ∈ u.sentTo t) : o ∈ s.sentTo t := by
  obtain ⟨a, ha⟩ := before
  obtain ⟨b, hb⟩ := after
  rw [sentTo_append hb.symm] at h
  rw [sentTo_append (o := a ++ b) (by rw [← hb, ← ha, List.append_assoc])]
  exact List.mem_append_right a h

theorem sentTo_mono {s u t : State} (before : s.out <+: u.out) (after : u.out <+: t.out) {o : Output}
    (h : o ∈ s.sentTo u) : o ∈ s.sentTo t := by
  obtain ⟨a, ha⟩ := before
  obtain ⟨b, hb⟩ := after
  rw [sentTo_append ha.symm] at h
  rw [sentTo_append (o := a ++ b) (by rw [← hb, ← ha, List.append_assoc])]
  exact List.mem_append_left b h

/-- What the writing of records never changes. -/
structure SameDesk (s t : State) : Prop where
  state : t.hif.state = s.hif.state
  comp : t.hif.comp.isSome = s.hif.comp.isSome
  event : t.hif.event.isSome = s.hif.event.isSome
  mask : t.hif.mask = s.hif.mask
  flight : ∀ k ∈ t.hif.inFlight, k ∈ s.hif.inFlight
  fsn : t.fmon.fsn = s.fmon.fsn
  out : s.out <+: t.out

theorem SameDesk.refl (s : State) : SameDesk s s := ⟨rfl, rfl, rfl, rfl, fun _ => id, rfl, List.prefix_refl _⟩

theorem SameDesk.trans {a b c : State} (h : SameDesk a b) (k : SameDesk b c) : SameDesk a c :=
  ⟨k.state.trans h.state, k.comp.trans h.comp, k.event.trans h.event, k.mask.trans h.mask,
    fun x hx => h.flight x (k.flight x hx), k.fsn.trans h.fsn, h.out.trans k.out⟩

theorem SameDesk.writes {s t : State} (h : SameDesk s t) : writesRecords t.hif = writesRecords s.hif := by
  rw [writesRecords, writesRecords, h.state]

theorem raiseCause_completion (s : State) : raiseCause .completion s =
    { s with hif := { s.hif with causeCompletion := true }, out := s.out ++ s.msiDue } := by
  rw [raiseCause, msiDue_eq]
  split <;> simp [emit]

section
variable {s : State} {h : Handle} {c : RecordRing} {st : Status} {a b : Word}

theorem writeCompletion_written (writes : writesRecords s.hif = true) (comp : s.hif.comp = some c)
    (held : h ∈ s.hif.inFlight) : writeCompletion h st a b s = s.completed c h st a b := by
  simp only [writeCompletion, comp]
  rw [if_pos ⟨writes, held⟩, raiseCause_completion, emit_out, List.append_assoc]
  rfl

theorem writeCompletion_discarded (idle : ¬ (writesRecords s.hif = true ∧ h ∈ s.hif.inFlight)) :
    writeCompletion h st a b s = s := by
  unfold writeCompletion
  split
  · exact if_neg idle
  · rfl

/-- A completion is written, or nothing changes. -/
theorem writeCompletion_cases (h : Handle) (st : Status) (a b : Word) (s : State) : writeCompletion h st a b s = s
    ∨ ∃ c, s.hif.comp = some c ∧ writeCompletion h st a b s = s.completed c h st a b := by
  by_cases idle : writesRecords s.hif = true ∧ h ∈ s.hif.inFlight
  · cases comp : s.hif.comp with
    | none => exact .inl (by simp [writeCompletion, comp])
    | some c => exact .inr ⟨c, rfl, writeCompletion_written idle.1 comp idle.2⟩
  · exact .inl (writeCompletion_discarded idle)

end

/-! ### Places for events -/

/-- The event ring has places for n more events, and for the report of lost ones before them. -/
def State.room (s : State) (n : Nat) : Prop :=
  ∃ r, s.hif.event = some r ∧ r.inRange ∧ r.unreleased + n + (if 0 < s.hif.overrun then 1 else 0) ≤ r.size - 1

theorem State.room.mono {s : State} {m n : Nat} (h : s.room n) (le : m ≤ n) : s.room m := by
  obtain ⟨r, event, inRange, hr⟩ := h
  exact ⟨r, event, inRange, by omega⟩

/-- An event that is not dropped goes into the ring where there is a place, and one place is less. -/
theorem writeEvent_written {s : State} {e : Event} {n : Nat} (heard : eventDropped s.hif e = false)
    (room : s.room (n + 1)) : ∃ r addr phase pre msi, writeEvent e s = { s with
      hif := { s.hif with event := some r, causeEvent := true, overrun := 0 }
      out := s.out ++ (pre ++ .hostWrite addr (eventBytes s.fmon.fsn phase e) :: msi) } ∧ (writeEvent e s).room n := by
  obtain ⟨r, event, inRange, hr⟩ := room
  have passes := mt (eventDropped_iff s.hif e).2 (by simp [heard])
  simp only [not_or, Bool.not_eq_false] at passes
  obtain ⟨writes, -, listed⟩ := passes
  by_cases lost : 0 < s.hif.overrun
  · rw [if_pos lost] at hr
    have first : r.unreleased < r.size - 1 := by omega
    have hadv := advance_unreleased inRange first
    have hsize := advance_size r
    have hin := advance_inRange inRange
    have second : r.advance.unreleased < r.advance.size - 1 := by omega
    have hadv' := advance_unreleased hin second
    have hsize' := advance_size r.advance
    let s2 : State := { s with
      hif := { s.hif with event := some r.advance, causeEvent := true, overrun := 0 }
      out := s.out ++ .hostWrite r.slot (eventBytes s.fmon.fsn r.phase (.eventOverrun s.hif.overrun)) :: s.msiDue }
    have report : writeEvent e s = writeEvent e s2 := writeEvent_lost writes event listed first lost
    have own : writeEvent e s2 = { s2 with
        hif := { s2.hif with event := some r.advance.advance, causeEvent := true }
        out := s2.out ++ .hostWrite r.advance.slot (eventBytes s2.fmon.fsn r.advance.phase e) :: s2.msiDue } :=
      writeEvent_room writes rfl listed second rfl
    rw [report, own]
    refine ⟨r.advance.advance, r.advance.slot, r.advance.phase,
      .hostWrite r.slot (eventBytes s.fmon.fsn r.phase (.eventOverrun s.hif.overrun)) :: s.msiDue, s2.msiDue, ?_,
      r.advance.advance, rfl, advance_inRange hin, ?_⟩
    · simp only [s2]
      rw [List.append_assoc]
    · simp only [s2, Nat.lt_irrefl, if_false]
      omega
  · rw [if_neg lost] at hr
    have first : r.unreleased < r.size - 1 := by omega
    have hadv := advance_unreleased inRange first
    have hsize := advance_size r
    have zero : s.hif.overrun = 0 := by omega
    rw [writeEvent_room writes event listed first zero]
    refine ⟨r.advance, r.slot, r.phase, [], s.msiDue, ?_, r.advance, rfl, advance_inRange inRange, ?_⟩
    · simp only [zero, List.nil_append]
    · simp only [lost, if_false]
      omega

/-! ### One item of those handed over -/

theorem completed_sameDesk {s : State} {c : RecordRing} (comp : s.hif.comp = some c) (h : Handle) (st : Status)
    (a b : Word) : SameDesk s (s.completed c h st a b) :=
  ⟨rfl, by rw [comp]; rfl, rfl, rfl, fun _ => List.mem_of_mem_erase, rfl, List.prefix_append _ _⟩

theorem putEvent_sameDesk (e : Event) (s : State) : SameDesk s (putEvent e s) := by
  cases event : s.hif.event with
  | none => rw [putEvent, event]; exact .refl s
  | some r => rw [putEvent_eq e event]; exact ⟨rfl, rfl, by rw [event]; rfl, rfl, fun _ => id, rfl, List.prefix_append _ _⟩

theorem putEvent_inFlight (e : Event) (s : State) : (putEvent e s).hif.inFlight = s.hif.inFlight := by
  cases event : s.hif.event with
  | none => rw [putEvent, event]
  | some r => rw [putEvent_eq e event]

theorem writeEvent_sameDesk (e : Event) (s : State) : SameDesk s (writeEvent e s) := by
  have overrun : SameDesk s (putOverrun s) := by
    unfold putOverrun
    split
    · split
      · exact .trans (b := { s with hif := { s.hif with overrun := 0 } }) ⟨rfl, rfl, rfl, rfl, fun _ => id, rfl, List.prefix_refl _⟩
          (putEvent_sameDesk _ _)
      · exact .refl s
    · exact .refl s
  unfold writeEvent
  split
  · exact .refl s
  · refine overrun.trans ?_
    unfold writeOrCount
    split
    · split
      · exact putEvent_sameDesk e _
      · exact ⟨rfl, rfl, rfl, rfl, fun _ => id, rfl, List.prefix_refl _⟩
    · exact .refl _

theorem writeEvent_inFlight (e : Event) (s : State) : (writeEvent e s).hif.inFlight = s.hif.inFlight := by
  have overrun : (putOverrun s).hif.inFlight = s.hif.inFlight := by
    unfold putOverrun
    split
    · split
      · exact putEvent_inFlight _ _
      · rfl
    · rfl
  unfold writeEvent
  split
  · rfl
  · refine Eq.trans ?_ overrun
    unfold writeOrCount
    split
    · split
      · exact putEvent_inFlight e _
      · rfl
    · rfl

theorem deliver_sameDesk (s : State) (x : Handed) : SameDesk s (deliver s x) := by
  unfold deliver
  split
  · next h st a b _ =>
    rcases writeCompletion_cases h st a b s with e | ⟨c, comp, e⟩ <;> rw [e]
    · exact .refl s
    · exact completed_sameDesk comp h st a b
  · exact writeEvent_sameDesk _ s

theorem foldl_deliver_sameDesk (l : List Handed) (s : State) : SameDesk s (l.foldl deliver s) := by
  induction l generalizing s with
  | nil => exact .refl s
  | cons x l ih => exact (deliver_sameDesk s x).trans (ih _)

/-- A command in flight stays so until its own completion is handled. -/
theorem deliver_inFlight {s : State} {x : Handed} {k : Handle} (held : k ∈ s.hif.inFlight)
    (other : ∀ st a b, x.item ≠ .completion k st a b) : k ∈ (deliver s x).hif.inFlight := by
  unfold deliver
  split
  · next h st a b item =>
    rcases writeCompletion_cases h st a b s with e | ⟨c, -, e⟩ <;> rw [e]
    · exact held
    · refine (List.mem_erase_of_ne fun same => ?_).2 held
      exact other st a b (same ▸ item)
  · rw [writeEvent_inFlight]
    exact held

theorem deliver_room {s : State} {x : Handed} {n : Nat} (room : s.room (n + if x.isEvent then 1 else 0)) :
    (deliver s x).room n := by
  obtain ⟨o, i⟩ := x
  cases i with
  | completion h st a b =>
    simp only [deliver]
    rcases writeCompletion_cases h st a b s with e | ⟨c, -, e⟩ <;> rw [e]
    · exact room
    · exact room
  | event e =>
    simp only [deliver]
    by_cases dropped : eventDropped s.hif e = true
    · rw [writeEvent, if_pos dropped]
      exact room.mono (Nat.le_add_right n _)
    · obtain ⟨_, _, _, _, _, _, h⟩ := writeEvent_written (by simpa using dropped) room
      exact h

/-! ### All items handed over -/

/-- A completion among the items is written, if every completion of its command there says the same. -/
theorem foldl_deliver_completion {h : Handle} {st : Status} {a b : Word} (l : List Handed) (s : State)
    (writes : writesRecords s.hif = true) (comp : s.hif.comp.isSome = true) (held : h ∈ s.hif.inFlight)
    (there : ∃ x ∈ l, x.item = .completion h st a b)
    (only : ∀ x ∈ l, ∀ st' a' b', x.item = .completion h st' a' b' → st' = st ∧ a' = a ∧ b' = b) :
    ∃ addr phase, .hostWrite addr (completionBytes h phase st a b) ∈ s.sentTo (l.foldl deliver s) := by
  induction l generalizing s with
  | nil =>
    obtain ⟨x, hx, -⟩ := there
    cases hx
  | cons x l ih =>
    by_cases own : ∃ st' a' b', x.item = .completion h st' a' b'
    · obtain ⟨st', a', b', item⟩ := own
      obtain ⟨rfl, rfl, rfl⟩ := only x (List.mem_cons_self ..) st' a' b' item
      obtain ⟨c, hc⟩ := Option.isSome_iff_exists.1 comp
      have first : deliver s x = s.completed c h st' a' b' := by
        rw [deliver, item]
        exact writeCompletion_written writes hc held
      refine ⟨c.slot, c.phase, ?_⟩
      refine sentTo_mono (completed_sameDesk hc h st' a' b').out (u := s.completed c h st' a' b') ?_ ?_
      · rw [List.foldl_cons, first]
        exact (foldl_deliver_sameDesk l _).out
      · rw [sentTo_append (s := s) rfl]
        exact List.mem_cons_self ..
    · have other : ∀ st' a' b', x.item ≠ .completion h st' a' b' := fun st' a' b' e => own ⟨st', a', b', e⟩
      have desk := deliver_sameDesk s x
      obtain ⟨y, hy, item⟩ := there
      have later : y ∈ l := (List.mem_cons.1 hy).resolve_left fun e => other st a b (e ▸ item)
      obtain ⟨addr, phase, sent⟩ := ih (deliver s x) (desk.writes ▸ writes) (desk.comp ▸ comp)
        (deliver_inFlight held other) ⟨y, later, item⟩ fun z hz => only z (List.mem_cons_of_mem x hz)
      exact ⟨addr, phase, sentTo_of_prefix desk.out (foldl_deliver_sameDesk l _).out sent⟩

/-- An event among the items is written, if HIF hears its kind and the ring has a place for every event of the items. -/
theorem foldl_deliver_event {e : Event} (l : List Handed) (s : State) (heard : eventDropped s.hif e = false)
    (room : s.room (l.countP Handed.isEvent)) (there : ∃ x ∈ l, x.item = .event e) :
    ∃ addr phase, .hostWrite addr (eventBytes s.fmon.fsn phase e) ∈ s.sentTo (l.foldl deliver s) := by
  induction l generalizing s with
  | nil =>
    obtain ⟨x, hx, -⟩ := there
    cases hx
  | cons x l ih =>
    rw [List.countP_cons] at room
    have desk := deliver_sameDesk s x
    by_cases own : x.item = .event e
    · have isEvent : x.isEvent = true := by simp [Handed.isEvent, Handed.isCompletion, own]
      rw [if_pos isEvent] at room
      obtain ⟨r, addr, phase, pre, msi, written, -⟩ := writeEvent_written heard room
      have first : deliver s x = writeEvent e s := by rw [deliver, own]
      refine ⟨addr, phase, sentTo_mono (u := deliver s x) desk.out (foldl_deliver_sameDesk l _).out ?_⟩
      rw [first, written, sentTo_append (s := s) rfl]
      simp
    · obtain ⟨y, hy, item⟩ := there
      have later : y ∈ l := (List.mem_cons.1 hy).resolve_left fun same => own (same ▸ item)
      have after := deliver_room room
      have heard' : eventDropped (deliver s x).hif e = false := by
        obtain ⟨r, event, -⟩ := after
        have passes := mt (eventDropped_iff s.hif e).2 (by simp [heard])
        simp only [not_or, Bool.not_eq_false] at passes
        obtain ⟨writes, -, listed⟩ := passes
        simp [eventDropped, event, desk.writes, desk.mask, writes, listed]
      obtain ⟨addr, phase, sent⟩ := ih (deliver s x) heard' after ⟨y, later, item⟩
      rw [desk.fsn] at sent
      exact ⟨addr, phase, sentTo_of_prefix desk.out (foldl_deliver_sameDesk l _).out sent⟩

/-! ### Items without an effect -/

/-- An item without an effect changes nothing. -/
theorem deliver_idle {s : State} {x : Handed} (idle : effective s.hif x = false) : deliver s x = s := by
  obtain ⟨o, i⟩ := x
  cases i with
  | completion h st a b =>
    simp only [effective, Bool.and_eq_false_iff, decide_eq_false_iff_not, or_assoc] at idle
    simp only [deliver]
    rcases idle with writes | comp | flight
    · exact writeCompletion_discarded fun k => by simp [k.1] at writes
    · cases e : s.hif.comp with
      | none => simp [writeCompletion, e]
      | some c => simp [e] at comp
    · exact writeCompletion_discarded fun k => flight k.2
  | event e => exact if_pos (by simpa [effective] using idle)

/-- An item without an effect gets none by the handling of others. -/
theorem SameDesk.idle {s t : State} (desk : SameDesk s t) {x : Handed} (idle : effective s.hif x = false) :
    effective t.hif x = false := by
  obtain ⟨o, i⟩ := x
  cases i with
  | completion h st a b =>
    simp only [effective, Bool.and_eq_false_iff, decide_eq_false_iff_not, desk.writes, desk.comp] at idle ⊢
    exact idle.imp_right (mt (desk.flight h))
  | event e => simpa only [effective, eventDropped, desk.writes, desk.event, desk.mask] using idle

theorem foldl_deliver_filter (l : List Handed) {s t : State} (desk : SameDesk s t) :
    (l.filter (effective s.hif)).foldl deliver t = l.foldl deliver t := by
  induction l generalizing t with
  | nil => rfl
  | cons x l ih =>
    cases e : effective s.hif x with
    | true => rw [List.filter_cons_of_pos e, List.foldl_cons, List.foldl_cons, ih (desk.trans (deliver_sameDesk t x))]
    | false =>
      rw [List.filter_cons_of_neg (by simp [e]), List.foldl_cons, deliver_idle (desk.idle e), ih desk]

/-- At the end of a step with an order HIF handles what was handed over, one item after the other. -/
theorem finishInOrder_eq (s : State) : finishInOrder s = s.handed.foldl deliver { s with handed := [] } :=
  foldl_deliver_filter s.handed (s := s) (t := { s with handed := [] })
    ⟨rfl, rfl, rfl, rfl, fun _ => id, rfl, List.prefix_refl _⟩

/-- A row that completes a pending command and then posts an event. -/
theorem done_complete_post {s : State} {h : Handle} {c : RecordRing} (p : s.Pending h c) (o o' : Owner) (st : Status)
    (a b : Word) (e : Event) :
    done (post o' e (complete o h st a b s)) = .next (writeEvent e (s.completed c h st a b)) := by
  have settled : { s with handed := [] } = s := by rw [← p.settled]
  rw [done, finishInOrder_eq, post_handed, complete_handed, p.settled]
  simp only [List.nil_append, List.cons_append, List.foldl_cons, List.foldl_nil, deliver]
  refine congrArg (fun t => Host.Outcome.next (writeEvent e t)) ?_
  refine Eq.trans ?_ (writeCompletion_pending st a b p)
  exact congrArg (writeCompletion h st a b) settled

/-! ### Free orders -/

/-- Only the order of the items is free. -/
theorem interleave_perm (n : Nat) (c : Nat) (items : List Handed) (long : items.length ≤ n) :
    (interleave n c items).1.Perm items := by
  induction n generalizing c items with
  | zero =>
    rw [List.eq_nil_of_length_eq_zero (Nat.le_zero.1 long)]
    exact .refl _
  | succ n ih =>
    unfold interleave
    split
    · next none_ =>
      have : items = [] := by
        cases items with
        | nil => rfl
        | cons x xs => simp [List.eraseDups_cons] at none_
      rw [this]
    · exact .refl _
    · next o os _ owners =>
      generalize hw : (o :: os).getD _ o = who
      have listed : who ∈ o :: os := by
        rw [← hw, List.getD_eq_getElem _ _ (by simpa using Nat.mod_lt _ (Nat.succ_pos _))]
        exact List.getElem_mem _
      have there : ∃ x ∈ items, decide (x.owner = who) = true := by
        rw [← owners, List.mem_eraseDups, List.mem_map] at listed
        obtain ⟨x, hx, e⟩ := listed
        exact ⟨x, hx, by simp [e]⟩
      obtain ⟨x, found⟩ := Option.isSome_iff_exists.1 (List.find?_isSome.2 there)
      obtain ⟨own, as, bs, split_, before⟩ := List.find?_eq_some_iff_append.1 found
      have erased : items.eraseP (fun x => decide (x.owner = who)) = as ++ bs := by
        rw [split_, List.eraseP_append_right _ (by simpa using before), List.eraseP_cons_of_pos (by simpa using own)]
      have shorter : (as ++ bs).length ≤ n := by
        rw [split_] at long
        simp at long ⊢
        omega
      simp only [found, erased, Option.toList_some, List.singleton_append]
      exact ((ih (c + 1) (as ++ bs) shorter).cons x).trans (split_ ▸ List.perm_middle.symm)

/-- The two ends of a step: HIF handles the items that have an effect, in some order. -/
def Finishes (s t : State) : Prop :=
  ∃ (l : List Handed) (c : Nat), l.Perm (s.handed.filter (effective s.hif)) ∧ t = l.foldl deliver { s with handed := [], choices := c }

theorem finishInOrder_finishes (s : State) : Finishes s (finishInOrder s) := ⟨_, s.choices, .refl _, rfl⟩

theorem finishAnyOrder_finishes (s : State) : Finishes s (finishAnyOrder s) := by
  refine ⟨_, _, ?_, rfl⟩
  refine ((interleave_perm _ _ _ (Nat.le_refl _)).append (interleave_perm _ _ _ (Nat.le_refl _))).trans ?_
  exact List.filter_append_perm _ _

section
variable {s t u : State} (before : s.out <+: u.out) (ends : Finishes u t)
include before ends

/-- The end of a step completes a command that was handed over, if all that was handed over for it says the same. -/
theorem Finishes.completes {o : Owner} {h : Handle} {st : Status} {a b : Word} (can : u.canComplete h)
    (there : ⟨o, .completion h st a b⟩ ∈ u.handed)
    (only : ∀ x ∈ u.handed, ∀ st' a' b', x.item = .completion h st' a' b' → st' = st ∧ a' = a ∧ b' = b) :
    s.completes t h st a b = true := by
  obtain ⟨l, c, perm, rfl⟩ := ends
  obtain ⟨writes, comp, held⟩ := can
  have member : ∀ x, x ∈ l ↔ x ∈ u.handed ∧ effective u.hif x = true := fun x => by
    rw [perm.mem_iff, List.mem_filter]
  obtain ⟨addr, phase, sent⟩ := foldl_deliver_completion l { u with handed := [], choices := c } writes comp held
    ⟨_, (member _).2 ⟨there, by simp [effective, writes, comp, held]⟩, rfl⟩
    fun x hx => only x ((member x).1 hx).1
  have sent := sentTo_of_prefix (u := { u with handed := [], choices := c }) before (foldl_deliver_sameDesk l _).out sent
  refine List.any_eq_true.2 ⟨_, sent, ?_⟩
  cases phase <;> simp [Output.isWriteOf]

/-- The end of a step reports an event that was handed over, if HIF listens and few events were handed over. -/
theorem Finishes.reports {o : Owner} {e : Event} (listens : u.listens e.kind = true) (there : ⟨o, .event e⟩ ∈ u.handed)
    (few : u.handed.countP Handed.isEvent ≤ 7) : s.reports t e = true := by
  obtain ⟨l, c, perm, rfl⟩ := ends
  have member : ∀ x, x ∈ l ↔ x ∈ u.handed ∧ effective u.hif x = true := fun x => by
    rw [perm.mem_iff, List.mem_filter]
  simp only [State.listens, Bool.and_eq_true, Option.any_eq_true, decide_eq_true_eq] at listens
  obtain ⟨⟨writes, listed⟩, r, event, write, host, places⟩ := listens
  have heard : eventDropped u.hif e = false := by simp [eventDropped, writes, event, listed]
  have count : l.countP Handed.isEvent ≤ 7 :=
    (perm.countP_eq _).trans_le ((List.filter_sublist.countP_le).trans few)
  have room : u.room (l.countP Handed.isEvent) := ⟨r, event, ⟨write, host⟩, by split <;> omega⟩
  obtain ⟨addr, phase, sent⟩ := foldl_deliver_event l { u with handed := [], choices := c } heard room
    ⟨_, (member _).2 ⟨there, by simp [effective, heard]⟩, rfl⟩
  have fsn := (foldl_deliver_sameDesk l { u with handed := [], choices := c }).fsn
  have sent := sentTo_of_prefix (u := { u with handed := [], choices := c }) before (foldl_deliver_sameDesk l _).out sent
  refine List.any_eq_true.2 ⟨_, sent, ?_⟩
  rw [fsn]
  cases phase <;> simp [Output.isWriteOf]

end

end Sys2Proof.Machine
end

section
/-!
PROOFS. The commands of the link session, and the presence (section 1).
-/

namespace Sys2Proof.Machine

set_option Elab.async false

/-! ### QUIET, RESUME and SET-SESSION (R16, R20) -/

theorem exec_setSession {s : State} {g : Ring} {c : RecordRing} (f : s.Fetching controlRing g c) (tag : HostTag)
    (e r q : Bool) : exec (.setSession tag e r q) s =
      done (takeSetSession (s.takenAs controlRing g tag) e r q (s.taken controlRing g tag)) :=
  congrArg done (f.takeFrom tag _)

theorem exec_quiet {s : State} {g : Ring} {c : RecordRing} (f : s.Fetching controlRing g c) (tag : HostTag) :
    exec (.quiet tag) s = done (takeQuiet true (s.takenAs controlRing g tag) (s.taken controlRing g tag)) :=
  congrArg done (f.takeFrom tag _)

theorem exec_resume {s : State} {g : Ring} {c : RecordRing} (f : s.Fetching controlRing g c) (tag : HostTag) :
    exec (.resume tag) s = done (takeQuiet false (s.takenAs controlRing g tag) (s.taken controlRing g tag)) :=
  congrArg done (f.takeFrom tag _)

theorem SessionState.carries_iff (x : SessionState) : x.carries = true ↔ x = .carrying ∨ x = .quiet := by
  cases x <;> simp [SessionState.carries]

section
variable {s : State} {on : Bool} {h : Handle}

theorem takeQuiet_refused (away : s.ses.session.carries = false) :
    takeQuiet on h s = complete .ses h .notReady s.fmon.fsn (quietWord s) s := by
  rw [takeQuiet, if_pos (by simp [away])]

theorem takeQuiet_already (carries : s.ses.session.carries = true) (stands : s.ses.quiet.host = on) :
    takeQuiet on h s = complete .ses h .ok s.fmon.fsn (quietWord s) s := by
  rw [takeQuiet, if_neg (by simp [carries]), if_pos stands]

theorem takeQuiet_changes (carries : s.ses.session.carries = true) (stands : s.ses.quiet.host ≠ on) :
    takeQuiet on h s = { s with ses := { s.ses with
      quiet := ⟨on, s.ses.quiet.format, s.ses.quiet.cadence⟩, pendingQuiet := s.ses.pendingQuiet ++ [⟨on, h⟩] } } := by
  rw [takeQuiet, if_neg (by simp [carries]), if_neg stands]

/-- Clearing AUTO_QUIET takes FORMAT out of the set (R17). -/
theorem takeSetSession_eq (e r q : Bool) : takeSetSession h e r q s =
    complete .ses h .ok (word (bitAt 0 s.ses.autoEnum + bitAt 1 s.ses.autoRefresh + bitAt 2 s.ses.autoQuiet))
      (word (bitAt 0 e + bitAt 1 r + bitAt 2 q)) { s with ses := { s.ses with
        autoEnum := e, autoRefresh := r, autoQuiet := q
        quiet := ⟨s.ses.quiet.host, s.ses.quiet.format && !(s.ses.autoQuiet && !q), s.ses.quiet.cadence⟩ } } := by
  have set : (if (s.ses.autoQuiet && !q) = true then { s.ses.quiet with format := false } else s.ses.quiet)
      = ⟨s.ses.quiet.host, s.ses.quiet.format && !(s.ses.autoQuiet && !q), s.ses.quiet.cadence⟩ := by
    cases (s.ses.autoQuiet && !q) <;> simp
  simp only [takeSetSession, set]
  rfl

end

/-- Settles O22: SET-SESSION always completes; QUIET and RESUME by the session state and by where HOST stands. -/
theorem sessionCommands : Obligations.SessionCommands := by
  refine ⟨fun s g c tag e r q f => ?flags, ?quiet⟩
  case flags =>
    rw [exec_setSession f, takeSetSession_eq]
    obtain ⟨settled, writes, comp, held⟩ := f.pending tag
    exact done_complete .ses .ok _ _ ⟨settled, writes, comp, held⟩
  case quiet =>
    intro s g c tag f h s1 at_ set
    have p : s1.Pending h c := f.pending tag
    simp only [exec_quiet f, exec_resume f]
    refine ⟨fun notCarrying notQuiet => ?_, fun up => ?_⟩
    · have away : s1.ses.session.carries = false := by
        rw [← Bool.not_eq_true, SessionState.carries_iff]
        exact fun k => k.elim notCarrying notQuiet
      refine ⟨?_, ?_⟩ <;> rw [takeQuiet_refused away] <;> exact done_complete .ses .notReady _ _ p
    · have carries : s1.ses.session.carries = true := (SessionState.carries_iff _).2 up
      refine ⟨fun on => ⟨?_, ?_⟩, fun off => ⟨?_, ?_⟩⟩
      · rw [takeQuiet_already carries on]
        exact done_complete .ses .ok _ _ p
      · exact done_of_eq (takeQuiet_changes carries (by exact fun e => by simp [on] at e)) p.settled
      · exact done_of_eq (takeQuiet_changes carries (by exact fun e => by simp [off] at e)) p.settled
      · rw [takeQuiet_already carries off]
        exact done_complete .ses .ok _ _ p

/-! ### Changes of the session state (R3, R7, R11, R12) -/

/-- A change of the session state, written out: SES, the lanes if they switch, and SESSION_CHANGED. -/
theorem setSession_eq (new : SessionState) (cause : SessionCause) (s : State) : setSession new cause s =
    post .ses (.sessionChanged new s.ses.session cause (quietOnEntry new s.ses.quiet)) { s with
      ses := { s.ses with
        session := new, lanes := new.lanesOn, quiet := quietOnEntry new s.ses.quiet
        linkCheck := if endsChecks s.ses.session new then s.ses.linkCheck.map (fun c => { c with stale := true })
          else s.ses.linkCheck
        termLoss := if new.lanesOn then s.ses.termLoss else 0 }
      out := s.out ++ (if s.ses.lanes = new.lanesOn then [] else [.lanes new.lanesOn]) } := by
  by_cases same : s.ses.lanes = new.lanesOn
  · simp [setSession, same]
  · simp [setSession, same, emit]

/-- The lanes switch at a change between a state with lanes and one without. -/
theorem setSession_switches {new : SessionState} {cause : SessionCause} {s : State} (agree : s.lanesAgree)
    (switch : s.ses.session.lanesOn ≠ new.lanesOn) : setSession new cause s =
    post .ses (.sessionChanged new s.ses.session cause (quietOnEntry new s.ses.quiet)) { s with
      ses := { s.ses with
        session := new, lanes := new.lanesOn, quiet := quietOnEntry new s.ses.quiet
        linkCheck := if endsChecks s.ses.session new then s.ses.linkCheck.map (fun c => { c with stale := true })
          else s.ses.linkCheck
        termLoss := if new.lanesOn then s.ses.termLoss else 0 }
      out := s.out ++ [.lanes new.lanesOn] } := by
  rw [setSession_eq, if_neg (fun e => switch (agree.symm.trans e))]

theorem setSession_stays {new : SessionState} {cause : SessionCause} {s : State} (agree : s.lanesAgree)
    (same : s.ses.session.lanesOn = new.lanesOn) : setSession new cause s =
    post .ses (.sessionChanged new s.ses.session cause (quietOnEntry new s.ses.quiet)) { s with
      ses := { s.ses with
        session := new, lanes := new.lanesOn, quiet := quietOnEntry new s.ses.quiet
        linkCheck := if endsChecks s.ses.session new then s.ses.linkCheck.map (fun c => { c with stale := true })
          else s.ses.linkCheck
        termLoss := if new.lanesOn then s.ses.termLoss else 0 } } := by
  rw [setSession_eq, if_pos (agree.trans same), List.append_nil]

/-! ### START-LINK (R8) -/

theorem exec_startLink {s : State} {g : Ring} {c : RecordRing} (f : s.Fetching controlRing g c) (tag : HostTag) :
    exec (.startLink tag) s = done (takeStartLink (s.takenAs controlRing g tag) (s.taken controlRing g tag)) :=
  congrArg done (f.takeFrom tag _)

theorem takeStartLink_refused {s : State} {h : Handle} {st : Status} (refusal : startLinkRefusal s = some st) :
    takeStartLink h s = complete .ses h st s.fmon.fsn 0 s := by
  simp only [takeStartLink, refusal]

theorem takeStartLink_starts {s : State} {h : Handle} (passes : startLinkRefusal s = none) :
    takeStartLink h s = setSession .training .hostStart { s with ses := { s.ses with
      startLink := some h, trainCount := 0, termLoss := 0, lockSeen := false } } := by
  simp only [takeStartLink, passes]

/-- The first check: READY or FAULTED. -/
theorem startLinkRefusal_state {s : State} (down : ¬ (s.ses.session = .ready ∨ s.ses.session = .faulted)) :
    startLinkRefusal s = some .notReady := by
  rw [startLinkRefusal, if_pos (by simpa using down)]

section
variable {s : State} (up : s.ses.session = .ready ∨ s.ses.session = .faulted)
include up

theorem startLinkRefusal_walk (walking : s.rwk.walking = true) : startLinkRefusal s = some .busy := by
  rcases up with up | up <;> simp [startLinkRefusal, up, walking]

variable (still : s.rwk.walking = false)
include still

theorem startLinkRefusal_denied (root : (entryAt s 0).state = .denied) : startLinkRefusal s = some .rootDenied := by
  rcases up with up | up <;> simp [startLinkRefusal, up, still, root]

theorem startLinkRefusal_absent (root : (entryAt s 0).state = .vacant ∨ (entryAt s 0).state = .lost) :
    startLinkRefusal s = some .notReady := by
  rcases up with up | up <;> rcases root with root | root <;> simp [startLinkRefusal, up, still, root]

theorem startLinkRefusal_active (root : (entryAt s 0).state = .active) :
    startLinkRefusal s = if s.ses.lastTerm then none else some .noTermination := by
  rcases up with up | up <;> simp [startLinkRefusal, up, still, root]

end

/-- Settles O23: each check by the branch that it refuses, and the entry to TRAINING. -/
theorem linkStart : Obligations.LinkStart := by
  intro s g c tag f agree h s1 refused up
  have p : s1.Pending h c := f.pending tag
  have refuse : ∀ st, startLinkRefusal s1 = some st → refused st := fun st e => by
    simp only [refused, exec_startLink f]
    rw [takeStartLink_refused e]
    exact done_complete .ses st _ _ p
  refine ⟨fun down => refuse _ (startLinkRefusal_state down), fun u walking => refuse _ (startLinkRefusal_walk u walking),
    fun u still => ?_⟩
  refine ⟨fun denied => refuse _ (startLinkRefusal_denied u still denied),
    fun absent => refuse _ (startLinkRefusal_absent u still absent), fun active open_ => refuse _ ?_, fun active term => ?_⟩
  · exact (startLinkRefusal_active u still active).trans (if_neg (by exact fun e => by simp [open_] at e))
  · have passes : startLinkRefusal s1 = none := (startLinkRefusal_active u still active).trans (if_pos term)
    have dark : s.ses.session.lanesOn = false := by rcases u with u | u <;> rw [u] <;> rfl
    have keeps : endsChecks s.ses.session .training = false := by rcases u with u | u <;> rw [u] <;> rfl
    rw [exec_startLink f, takeStartLink_starts passes, setSession_switches (by exact agree) (by simp [dark, s1]; decide),
      done_post _ _ (by exact f.settled)]
    simp only [s1, taken_ses, keeps]
    rfl

/-! ### STOP-LINK (R11) -/

theorem exec_stopLink {s : State} {g : Ring} {c : RecordRing} (f : s.Fetching controlRing g c) (tag : HostTag) :
    exec (.stopLink tag) s = done (takeStopLink (s.takenAs controlRing g tag) (s.taken controlRing g tag)) :=
  congrArg done (f.takeFrom tag _)

/-- An ENUMERATE in flight from ring 0, with the tag 16 that is also the kind of EVENT_OVERRUN. -/
def overrunLikeHandle : Handle := ⟨0, 16, controlRing, 0⟩

/-- The ring from which the STOP-LINK of the counterexample is taken. -/
def overrunLikeRing : Ring := ⟨0, 16, 1, 0⟩

/-- A full walk that the ENUMERATE has started, four events lost before, and an FSN whose bytes are the ring, the status
and the index of the ENUMERATE's completion record. -/
def overrunLikeState : State := { State.reset with
  ses := { Ses.reset with session := .walking }
  fmon := { State.reset.fmon with fsn := BitVec.ofNat 32 (256 * Status.aborted.code) }
  rwk := { Rwk.reset with
    walking := true, kind := .full, starter := .enumerate, enumerate := some overrunLikeHandle, generation := 0xFFFF }
  hif := { State.reset.hif with
    state := .running, fetch := some controlRing, rings := [some overrunLikeRing, none, none]
    comp := some ⟨0, 16, 0, true, 0⟩, event := some ⟨0, 16, 0, false, 0⟩, mask := 8, inFlight := [overrunLikeHandle]
    overrun := 4, nextId := 1 } }

/-- What the STOP-LINK of the counterexample leaves, with its own completion in the n-th place of those handed over. -/
def overrunLikeEnd (n : Nat) : State :=
  let aborted := abortWalk (overrunLikeState.taken controlRing overrunLikeRing 7)
  finishInOrder { aborted with
    handed := aborted.handed.insertIdx n
      ⟨.ses, .completion (overrunLikeState.takenAs controlRing overrunLikeRing 7) .ok (word 3) 0⟩
    choices := aborted.choices + 1 }

/-- Where the first record stands that is the completion of the aborted ENUMERATE. -/
def overrunLikeCompletion (t : State) : Nat := (overrunLikeState.sentTo t).findIdx (fun o =>
  o.isWriteOf (completionBytes overrunLikeHandle true .aborted (word 4) 0)
    || o.isWriteOf (completionBytes overrunLikeHandle false .aborted (word 4) 0))

/-- Where the first record stands that is SESSION_CHANGED. -/
def overrunLikeSession (t : State) : Nat := (overrunLikeState.sentTo t).findIdx (fun o =>
  o.isWriteOf (eventBytes t.fmon.fsn true (.sessionChanged .waiting .walking .hostStop ⟨false, false, false⟩))
    || o.isWriteOf (eventBytes t.fmon.fsn false (.sessionChanged .waiting .walking .hostStop ⟨false, false, false⟩)))

theorem overrunLikeState_fetching :
    overrunLikeState.Fetching controlRing overrunLikeRing ⟨0, 16, 0, true, 0⟩ := ⟨rfl, rfl, rfl, rfl, rfl⟩

theorem overrunLikeState_handed :
    (abortWalk (overrunLikeState.taken controlRing overrunLikeRing 7)).handed.length = 2 := by decide +kernel

/-- Whatever place is chosen for STOP-LINK's own completion, the step ends in one of three states. -/
theorem exec_stopLink_overrunLike :
    ∃ n < 3, exec (.stopLink 7) overrunLikeState = .next (overrunLikeEnd n) := by
  refine ⟨Config.pick (abortWalk (overrunLikeState.taken controlRing overrunLikeRing 7)).choices
    % ((abortWalk (overrunLikeState.taken controlRing overrunLikeRing 7)).handed.length + 1), ?_,
    exec_stopLink overrunLikeState_fetching 7⟩
  rw [overrunLikeState_handed]
  exact Nat.mod_lt _ (by decide)

/-- The record of EVENT_OVERRUN, which goes out just before that of SESSION_CHANGED, has the 16 bytes of the completion of
the ENUMERATE. -/
theorem overrunLikeEnd_order : ∀ n < 3, overrunLikeCompletion (overrunLikeEnd n) < overrunLikeSession (overrunLikeEnd n) := by
  decide +kernel

/-- Refutes O24: its last clause finds the completion of an aborted ENUMERATE by the bytes of its record, and an earlier
record of EVENT_OVERRUN can have the same bytes, so that SESSION_CHANGED does not come before the first of them. -/
theorem not_linkStop : ¬ Obligations.LinkStop := by
  intro claim
  obtain ⟨t, ends, -, -, -, -, -, -, -, -, -, -, order, -⟩ :=
    claim.2 overrunLikeState overrunLikeRing ⟨0, 16, 0, true, 0⟩ 7 overrunLikeState_fetching rfl rfl rfl
  obtain ⟨-, -, last⟩ := order (by decide +kernel)
  have first : overrunLikeSession t < overrunLikeCompletion t :=
    last overrunLikeHandle rfl rfl (by decide +kernel) (by decide +kernel)
  obtain ⟨n, low, run⟩ := exec_stopLink_overrunLike
  obtain rfl : overrunLikeEnd n = t := Host.Outcome.next.inj (run.symm.trans ends)
  exact Nat.lt_asymm first (overrunLikeEnd_order n low)

end Sys2Proof.Machine
end

section
/-!
PROOFS. Which parts of the state an operation touches, and what it hands over: the rules by which the statements about
walks, drops and frame starts are put together from those about their stages.
-/

namespace Sys2Proof.Machine

set_option Elab.async false

/-! ### The parts that an operation touches -/

/-- The parts of the state, but for what is handed over. -/
inductive Part where
  | ses | fmon | sbc | rwk | dcr | bss | stt | apq | ain | pxp | hif | pins | now | out | choices | pending
  deriving DecidableEq

/-- t is s but for these parts and what is handed over, and nothing that was sent is unsent. -/
structure Touches (P : List Part) (s t : State) : Prop where
  ses : .ses ∈ P ∨ t.ses = s.ses := by exact .inr rfl
  fmon : .fmon ∈ P ∨ t.fmon = s.fmon := by exact .inr rfl
  sbc : .sbc ∈ P ∨ t.sbc = s.sbc := by exact .inr rfl
  rwk : .rwk ∈ P ∨ t.rwk = s.rwk := by exact .inr rfl
  dcr : .dcr ∈ P ∨ t.dcr = s.dcr := by exact .inr rfl
  bss : .bss ∈ P ∨ t.bss = s.bss := by exact .inr rfl
  stt : .stt ∈ P ∨ t.stt = s.stt := by exact .inr rfl
  apq : .apq ∈ P ∨ t.apq = s.apq := by exact .inr rfl
  ain : .ain ∈ P ∨ t.ain = s.ain := by exact .inr rfl
  pxp : .pxp ∈ P ∨ t.pxp = s.pxp := by exact .inr rfl
  hif : .hif ∈ P ∨ t.hif = s.hif := by exact .inr rfl
  pins : .pins ∈ P ∨ t.pins = s.pins := by exact .inr rfl
  now : .now ∈ P ∨ t.now = s.now := by exact .inr rfl
  out : .out ∈ P ∨ t.out = s.out := by exact .inr rfl
  choices : .choices ∈ P ∨ t.choices = s.choices := by exact .inr rfl
  pending : .pending ∈ P ∨ t.pending = s.pending := by exact .inr rfl
  sent : s.out <+: t.out := by exact List.prefix_refl _

theorem Touches.refl (P : List Part) (s : State) : Touches P s s := {}

/-- A field that both steps leave alone, or that one of them may touch. -/
theorem touched_trans {α : Type} {p : Part} {P : List Part} {a b c : α} (h : p ∈ P ∨ b = a) (k : p ∈ P ∨ c = b) :
    p ∈ P ∨ c = a :=
  h.elim .inl fun e => k.imp_right (·.trans e)

theorem Touches.trans {P : List Part} {a b c : State} (h : Touches P a b) (k : Touches P b c) : Touches P a c where
  ses := touched_trans h.ses k.ses
  fmon := touched_trans h.fmon k.fmon
  sbc := touched_trans h.sbc k.sbc
  rwk := touched_trans h.rwk k.rwk
  dcr := touched_trans h.dcr k.dcr
  bss := touched_trans h.bss k.bss
  stt := touched_trans h.stt k.stt
  apq := touched_trans h.apq k.apq
  ain := touched_trans h.ain k.ain
  pxp := touched_trans h.pxp k.pxp
  hif := touched_trans h.hif k.hif
  pins := touched_trans h.pins k.pins
  now := touched_trans h.now k.now
  out := touched_trans h.out k.out
  choices := touched_trans h.choices k.choices
  pending := touched_trans h.pending k.pending
  sent := h.sent.trans k.sent

theorem Touches.mono {P Q : List Part} {s t : State} (h : Touches P s t) (le : ∀ p ∈ P, p ∈ Q) : Touches Q s t where
  ses := h.ses.imp_left (le _)
  fmon := h.fmon.imp_left (le _)
  sbc := h.sbc.imp_left (le _)
  rwk := h.rwk.imp_left (le _)
  dcr := h.dcr.imp_left (le _)
  bss := h.bss.imp_left (le _)
  stt := h.stt.imp_left (le _)
  apq := h.apq.imp_left (le _)
  ain := h.ain.imp_left (le _)
  pxp := h.pxp.imp_left (le _)
  hif := h.hif.imp_left (le _)
  pins := h.pins.imp_left (le _)
  now := h.now.imp_left (le _)
  out := h.out.imp_left (le _)
  choices := h.choices.imp_left (le _)
  pending := h.pending.imp_left (le _)
  sent := h.sent

theorem Touches.foldl {P : List Part} {α : Type} {f : State → α → State} (h : ∀ s x, Touches P s (f s x)) (l : List α)
    (s : State) : Touches P s (l.foldl f s) := by
  induction l generalizing s with
  | nil => exact .refl P s
  | cons x l ih => exact (h s x).trans (ih _)

/-! ### What an operation hands over -/

/-- From s to t only items of this kind are handed over, after those of s, and at most n of them are events. -/
def Hands (Q : HandedItem → Prop) (n : Nat) (s t : State) : Prop :=
  ∃ new, t.handed = s.handed ++ new ∧ (∀ x ∈ new, Q x.item) ∧ new.countP Handed.isEvent ≤ n

/-- The items that are events. -/
def HandedItem.anEvent (i : HandedItem) : Prop := ∃ e, i = .event e

section
variable {Q R : HandedItem → Prop} {m n : Nat} {s t u : State}

theorem Hands.of_same (h : t.handed = s.handed) : Hands Q n s t :=
  ⟨[], by rw [h, List.append_nil], fun _ k => (nomatch k), Nat.zero_le n⟩

theorem Hands.refl (Q : HandedItem → Prop) (n : Nat) (s : State) : Hands Q n s s := .of_same rfl

theorem Hands.trans (h : Hands Q m s t) (k : Hands Q n t u) : Hands Q (m + n) s u := by
  obtain ⟨a, ha, qa, ca⟩ := h
  obtain ⟨b, hb, qb, cb⟩ := k
  refine ⟨a ++ b, by rw [hb, ha, List.append_assoc], fun x hx => (List.mem_append.1 hx).elim (qa x) (qb x), ?_⟩
  rw [List.countP_append]
  exact Nat.add_le_add ca cb

theorem Hands.mono (h : Hands Q m s t) (sub : ∀ i, Q i → R i) (le : m ≤ n) : Hands R n s t := by
  obtain ⟨a, ha, qa, ca⟩ := h
  exact ⟨a, ha, fun x hx => sub _ (qa x hx), ca.trans le⟩

theorem complete_hands (o : Owner) (h : Handle) (st : Status) (a b : Word) (s : State) :
    Hands (· = .completion h st a b) 0 s (complete o h st a b s) :=
  ⟨[_], complete_handed .., by simp, by simp [Handed.isEvent, Handed.isCompletion]⟩

theorem completeOpt_hands (o : Owner) (h : Option Handle) (st : Status) (a b : Word) (s : State) :
    Hands (fun i => ∃ k ∈ h, i = .completion k st a b) 0 s (completeOpt o h st a b s) := by
  cases h with
  | none => exact .refl _ _ s
  | some k => exact (complete_hands o k st a b s).mono (fun i hi => ⟨k, rfl, hi⟩) (Nat.le_refl 0)

theorem post_hands (o : Owner) (e : Event) (s : State) : Hands (· = .event e) 1 s (post o e s) :=
  ⟨[_], post_handed .., by simp, by simp [Handed.isEvent, Handed.isCompletion]⟩

theorem setSession_hands (new : SessionState) (cause : SessionCause) (s : State) :
    Hands (· = .event (.sessionChanged new s.ses.session cause (quietOnEntry new s.ses.quiet))) 1 s
      (setSession new cause s) := by
  rw [setSession_eq]
  exact post_hands (s := { s with ses := _, out := _ }) _ _

/-- Of a row of operations that hand over completions alone. -/
theorem Hands.foldl {α : Type} {f : State → α → State} {q : α → HandedItem → Prop}
    (h : ∀ s x, Hands (q x) 0 s (f s x)) (l : List α) (s : State) :
    Hands (fun i => ∃ x ∈ l, q x i) 0 s (l.foldl f s) := by
  induction l generalizing s with
  | nil => exact .refl _ _ s
  | cons x l ih =>
    exact ((h s x).mono (fun i hi => ⟨x, List.mem_cons_self .., hi⟩) (Nat.le_refl 0)).trans
      ((ih _).mono (fun i ⟨y, hy, hi⟩ => ⟨y, List.mem_cons_of_mem x hy, hi⟩) (Nat.le_refl 0))

end

/-! ### The shared operations -/

theorem emit_touches (o : Output) (s : State) : Touches [.out] s (emit o s) :=
  { out := .inl (by decide), sent := List.prefix_append _ _ }

theorem hand_touches (o : Owner) (i : HandedItem) (s : State) : Touches [] s (hand o i s) := {}

theorem complete_touches (o : Owner) (h : Handle) (st : Status) (a b : Word) (s : State) :
    Touches [] s (complete o h st a b s) := {}

theorem completeOpt_touches (o : Owner) (h : Option Handle) (st : Status) (a b : Word) (s : State) :
    Touches [] s (completeOpt o h st a b s) := by
  cases h with
  | none => exact .refl _ s
  | some h => exact complete_touches o h st a b s

theorem post_touches (o : Owner) (e : Event) (s : State) : Touches [] s (post o e s) := {}

theorem setSession_touches (new : SessionState) (cause : SessionCause) (s : State) :
    Touches [.ses, .out] s (setSession new cause s) := by
  rw [setSession_eq]
  exact { ses := .inl (by decide), out := .inl (by decide), sent := List.prefix_append _ _ }

theorem setSbc_touches (s : State) (b : Sbc) : Touches [.sbc] s { s with sbc := b } := { sbc := .inl (by decide) }

theorem setApq_touches (s : State) (q : Apq) : Touches [.apq] s { s with apq := q } := { apq := .inl (by decide) }

theorem joinSet_touches (r : Requester) (q : Request) (s : State) : Touches [.sbc] s (joinSet r q s) := by
  unfold joinSet
  split <;> exact setSbc_touches s _

theorem withdraw_touches (r : Requester) (s : State) : Touches [.sbc] s (withdraw r s) := setSbc_touches s _

theorem orphanFlight_touches (r : Requester) (s : State) : Touches [.sbc] s (orphanFlight r s) := by
  rw [orphanFlight_eq]
  exact setSbc_touches s _

end Sys2Proof.Machine
end

section
/-!
PROOFS. The starts of walks: ENUMERATE, and the settling timer with AUTO_ENUM (R4, R5, R64 to R66, R71).
-/

namespace Sys2Proof.Machine

set_option Elab.async false

/-! ### Requests taken back -/

/-- The sideband of t is that of s but for requests taken back, outcomes that are unwanted now, and a round that has
ended. -/
structure Withdraws (s t : State) : Prop where
  channel : t.sbc.channel = s.sbc.channel
  flight : ∀ r, flightIs r t = flightIs r s
  absent : ∀ r, requestOf s.sbc r = none → requestOf t.sbc r = none
  poll : t.sbc.poll = s.sbc.poll ∨ t.sbc.poll = .idle

theorem Withdraws.of_sbc {s t : State} (h : t.sbc = s.sbc) : Withdraws s t :=
  ⟨by rw [h], fun r => by rw [flightIs, flightIs, h], fun r k => by rw [h]; exact k, .inl (by rw [h])⟩

theorem Withdraws.refl (s : State) : Withdraws s s := .of_sbc rfl

theorem Withdraws.trans {a b c : State} (h : Withdraws a b) (k : Withdraws b c) : Withdraws a c where
  channel := k.channel.trans h.channel
  flight := fun r => (k.flight r).trans (h.flight r)
  absent := fun r e => k.absent r (h.absent r e)
  poll := by
    rcases k.poll with e | e
    · exact h.poll.imp e.trans e.trans
    · exact .inr e

theorem withdraw_withdraws (r : Requester) (s : State) : Withdraws s (withdraw r s) := by
  obtain ⟨d, e⟩ := withdraw_spec r s
  rw [e]
  refine ⟨by cases r <;> rfl, fun r' => by cases r <;> rfl, fun r' none_ => ?_, .inl (by cases r <;> rfl)⟩
  cases r <;> cases r' <;> simp_all [requestOf, setRequest]

theorem orphanFlight_withdraws (r : Requester) (s : State) : Withdraws s (orphanFlight r s) := by
  rw [orphanFlight_eq]
  refine ⟨rfl, fun r' => ?_, fun r' none_ => by cases r' <;> exact none_, .inl rfl⟩
  cases flight : s.sbc.inFlight with
  | none => simp [flightIs, flight]
  | some x =>
    simp only [flightIs, flight, Option.map_some]
    split <;> rfl

/-! ### The stages of a walk's start -/

theorem lcWalkStart_touches (s : State) : Touches [.ses, .sbc] s (lcWalkStart s) := by
  unfold lcWalkStart
  split
  · exact { ses := .inl (by decide), sbc := .inl (by decide) }
  · exact .refl _ s

theorem lcWalkStart_withdraws (s : State) : Withdraws s (lcWalkStart s) := by
  unfold lcWalkStart
  split
  · exact .trans (b := { s with ses := { s.ses with linkCheck := none } }) (.of_sbc rfl) (withdraw_withdraws .lc _)
  · exact .refl s

theorem lcWalkStart_lcReq (s : State) : requestOf (lcWalkStart s).sbc .lc = none := by
  unfold lcWalkStart
  split
  · exact withdraw_requestOf .lc _
  · next waits => simpa [requestOf] using waits

@[simp] theorem lcWalkStart_handed (s : State) : (lcWalkStart s).handed = s.handed := by
  unfold lcWalkStart
  split <;> rfl

/-- A walk's start leaves of SES all but the link check. -/
theorem lcWalkStart_ses (s : State) : ∃ k, (lcWalkStart s).ses = { s.ses with linkCheck := k } := by
  unfold lcWalkStart
  split
  · exact ⟨none, rfl⟩
  · exact ⟨s.ses.linkCheck, rfl⟩

theorem pollWalkStart_touches (s : State) : Touches [.sbc] s (pollWalkStart s) := by
  unfold pollWalkStart
  split
  · exact ((setSbc_touches s _).trans (withdraw_touches .ap _)).trans (orphanFlight_touches .ap _)
  · exact .refl _ s

theorem pollWalkStart_withdraws (s : State) : Withdraws s (pollWalkStart s) := by
  unfold pollWalkStart
  split
  · refine .trans (b := { s with sbc := { s.sbc with poll := .idle } }) ⟨rfl, fun _ => rfl, fun r k => ?_, .inr rfl⟩
      ((withdraw_withdraws .ap _).trans (orphanFlight_withdraws .ap _))
    cases r <;> exact k
  · exact .refl s

@[simp] theorem orphanFlight_handed (r : Requester) (s : State) : (orphanFlight r s).handed = s.handed := by
  rw [orphanFlight_eq]

@[simp] theorem pollWalkStart_handed (s : State) : (pollWalkStart s).handed = s.handed := by
  unfold pollWalkStart
  split
  · rw [orphanFlight_handed, withdraw_handed]
  · rfl

/-- No round goes on into a walk (R55). -/
theorem pollWalkStart_poll (s : State) : (pollWalkStart s).sbc.poll ≠ .round := by
  unfold pollWalkStart
  split
  · have h := (withdraw_withdraws .ap { s with sbc := { s.sbc with poll := .idle } }).trans
      (orphanFlight_withdraws .ap _)
    have idle : (orphanFlight .ap (withdraw .ap { s with sbc := { s.sbc with poll := .idle } })).sbc.poll = .idle :=
      h.poll.elim id id
    rw [idle]
    decide
  · next other => exact other

theorem finishPacket_touches (p : Packet) (st : Status) (s : State) : Touches [] s (finishPacket p st s) :=
  complete_touches ..

theorem finishPackets_touches (st : Status) (ps : List Packet) (s : State) : Touches [] s (finishPackets st ps s) :=
  .foldl (fun s p => finishPacket_touches p st s) ps s

theorem endAllPackets_touches (st : Status) (s : State) : Touches [.apq] s (endAllPackets st s) :=
  (setApq_touches s _).trans ((finishPackets_touches st _ _).mono (fun _ h => (nomatch h)))

theorem settleReceipt_touches (s : State) : Touches [.apq, .sbc] s (settleReceipt s) := by
  unfold settleReceipt
  split
  · split
    · exact .refl _ s
    · split
      · exact .refl _ s
      · exact ((setApq_touches s _).mono (by decide)).trans ((withdraw_touches .ac _).mono (by decide))
  · exact .refl _ s

theorem setApq_withdraws (s : State) (q : Apq) : Withdraws s { s with apq := q } := .of_sbc rfl

theorem settleReceipt_withdraws (s : State) : Withdraws s (settleReceipt s) := by
  unfold settleReceipt
  split
  · split
    · exact .refl s
    · split
      · exact .refl s
      · exact (setApq_withdraws s _).trans (withdraw_withdraws .ac _)
  · exact .refl s

theorem packetsFullWalk_touches (s : State) : Touches [.apq, .sbc] s (packetsFullWalk s) :=
  ((endAllPackets_touches .targetGone s).mono (by decide)).trans (settleReceipt_touches _)

theorem packetsFullWalk_withdraws (s : State) : Withdraws s (packetsFullWalk s) :=
  .trans (.of_sbc ((endAllPackets_touches .targetGone s).sbc.resolve_left (by decide))) (settleReceipt_withdraws _)

/-! ### The start of a walk (R64, R66, R71) -/

/-- The walker waits for the outcome of this request, which stands in the request set, or for its own transaction in flight
to end. -/
structure Asks (w : WalkWait) (q : Request) (s t : State) : Prop where
  rwk : t.rwk = { s.rwk with wait := some w }
  sbc : t.sbc = if flightIs .wk s then { s.sbc with deferred := some q } else { s.sbc with wkReq := some q }
  touches : Touches [.rwk, .sbc] s t
  handed : t.handed = s.handed

theorem wkPlace_asks (w : WalkWait) (d : Byte) (k : RequestKind) (ps : List Byte) (s : State) :
    Asks w ⟨d, k, ps⟩ s (wkPlace w d k ps s) := by
  have flight : flightIs .wk { s with rwk := { s.rwk with wait := some w } } = flightIs .wk s := rfl
  refine ⟨by simp [wkPlace], ?_, ?_, by simp⟩
  · by_cases h : flightIs .wk s = true
    · rw [if_pos h, wkPlace, joinSet_deferred (flight.trans h)]
    · rw [if_neg h, wkPlace, joinSet_free (flight.trans (Bool.eq_false_of_not_eq_true h))]
      rfl
  · exact .trans (b := { s with rwk := { s.rwk with wait := some w } }) { rwk := .inl (by decide) }
      ((joinSet_touches .wk _ _).mono (by decide))

/-- The walker's record as a walk's start sets it, the roster aside. -/
def Rwk.begun (k : WalkKind) (st : WalkStarter) (w : WalkWait) (roster : List Entry) (r : Rwk) : Rwk :=
  { r with
    walking := true, kind := k, starter := st, stack := [], depthMark := false, countMark := false, warnings := 0
    wait := some w, roster := roster }

/-- What every walk's start leaves: SES but for the link check, no request of LC, no round, and the walker's first
request. -/
structure WalkBegun (k : WalkKind) (st : WalkStarter) (w : WalkWait) (q : Request) (roster : List Entry) (s t : State) :
    Prop where
  rwk : t.rwk = s.rwk.begun k st w roster
  ses : ∃ c, t.ses = { s.ses with linkCheck := c }
  touches : Touches [.ses, .sbc, .rwk, .apq] s t
  channel : t.sbc.channel = s.sbc.channel
  lcReq : t.sbc.lcReq = none
  poll : t.sbc.poll ≠ .round
  polled : t.sbc.poll = s.sbc.poll ∨ t.sbc.poll = .idle
  absent : ∀ r, r ≠ .wk → requestOf s.sbc r = none → requestOf t.sbc r = none
  placed : flightIs .wk s = false → t.sbc.wkReq = some q
  deferred : flightIs .wk s = true → t.sbc.deferred = some q

/-- The state in which the walk of the kind begins, its starter told and the requests of LC and AP taken back. -/
def walkReady (k : WalkKind) (st : WalkStarter) (s : State) : State :=
  let s1 := { s with rwk := { s.rwk with
    walking := true, kind := k, starter := st, stack := [], depthMark := false, countMark := false
    warnings := 0, wait := none
    roster := s.rwk.roster.map (fun e => { e with verified := false }) } }
  pollWalkStart (lcWalkStart (if st = .enumerate then s1 else post .rwk (.walkStarted k st s.rwk.generation) s1))

theorem startWalk_eq (k : WalkKind) (st : WalkStarter) (s : State) : startWalk k st s =
    match k with
    | .full => beginFull (walkReady k st s)
    | .refresh => beginRefresh (walkReady k st s) := by
  cases st <;> rfl

/-- What stands when the walker places its first request. -/
structure WalkReady (k : WalkKind) (st : WalkStarter) (s t : State) : Prop where
  rwk : t.rwk = { s.rwk with
    walking := true, kind := k, starter := st, stack := [], depthMark := false, countMark := false
    warnings := 0, wait := none, roster := s.rwk.roster.map (fun e => { e with verified := false }) }
  ses : ∃ c, t.ses = { s.ses with linkCheck := c }
  touches : Touches [.ses, .sbc, .rwk] s t
  withdraws : Withdraws s t
  lcReq : t.sbc.lcReq = none
  poll : t.sbc.poll ≠ .round
  hands : Hands (· = .event (.walkStarted k st s.rwk.generation)) 1 s t

theorem walkReady_spec (k : WalkKind) (st : WalkStarter) (s : State) : WalkReady k st s (walkReady k st s) := by
  unfold walkReady
  extract_lets src s1
  generalize hs2 : (if st = .enumerate then s1 else post .rwk (.walkStarted k st s.rwk.generation) s1) = s2
  have same : s2 = { s1 with handed := s2.handed } := by
    rw [← hs2]
    split <;> rfl
  have told : Hands (· = .event (.walkStarted k st s.rwk.generation)) 1 s s2 := by
    rw [← hs2]
    split
    · exact .of_same rfl
    · exact post_hands (s := s1) .rwk _
  have first : Touches [.ses, .sbc, .rwk] s s2 := by
    rw [same]
    exact { rwk := .inl (by decide) }
  have b2 : s2.sbc = s.sbc := by rw [same]
  have lc := lcWalkStart_touches s2
  have poll := pollWalkStart_touches (lcWalkStart s2)
  refine ⟨?_, ?_, ?_, ?_, ?_, pollWalkStart_poll _, ?_⟩
  · rw [poll.rwk.resolve_left (by decide), lc.rwk.resolve_left (by decide), same]
  · obtain ⟨c, e⟩ := lcWalkStart_ses s2
    exact ⟨c, by rw [poll.ses.resolve_left (by decide), e, same]⟩
  · exact (first.trans (lc.mono (by decide))).trans (poll.mono (by decide))
  · exact (Withdraws.of_sbc b2).trans ((lcWalkStart_withdraws s2).trans (pollWalkStart_withdraws _))
  · exact (pollWalkStart_withdraws _).absent .lc (lcWalkStart_lcReq s2)
  · exact told.trans (n := 0) (.of_same ((pollWalkStart_handed _).trans (lcWalkStart_handed s2)))

/-- The walker's first request goes out from the state that is ready for the walk, its roster perhaps changed. -/
theorem WalkReady.begun {k : WalkKind} {st : WalkStarter} {w : WalkWait} {d : Byte} {kind : RequestKind}
    {ps : List Byte} {s t u : State} (ready : WalkReady k st s t) (touches : Touches [.rwk, .apq, .sbc] t u)
    (withdraws : Withdraws t u) (rwk : u.rwk = { t.rwk with roster := u.rwk.roster }) :
    WalkBegun k st w ⟨d, kind, ps⟩ u.rwk.roster s (wkPlace w d kind ps u) := by
  have asks := wkPlace_asks w d kind ps u
  have same := ready.withdraws.trans withdraws
  have ses : (wkPlace w d kind ps u).ses = t.ses := by
    rw [asks.touches.ses.resolve_left (by decide), touches.ses.resolve_left (by decide)]
  have lcReq : u.sbc.lcReq = none := withdraws.absent .lc ready.lcReq
  have poll : u.sbc.poll ≠ .round := by
    rcases withdraws.poll with e | e <;> rw [e]
    · exact ready.poll
    · decide
  have flight : flightIs .wk u = flightIs .wk s := same.flight .wk
  refine ⟨?_, ?_, ?_, ?_, ?_, ?_, ?_, fun r other none_ => ?_, fun free => ?_, fun busy => ?_⟩
  · rw [asks.rwk, rwk, ready.rwk]
    rfl
  · obtain ⟨c, e⟩ := ready.ses
    exact ⟨c, ses.trans e⟩
  · exact ((ready.touches.mono (by decide)).trans (touches.mono (by decide))).trans (asks.touches.mono (by decide))
  · rw [asks.sbc, ← same.channel]
    split <;> rfl
  · rw [asks.sbc]
    split <;> exact lcReq
  · rw [asks.sbc]
    split <;> exact poll
  · rw [asks.sbc]
    split <;> exact same.poll
  · have gone := same.absent r none_
    rw [asks.sbc]
    cases r with
    | wk => exact absurd rfl other
    | lc | ap | ac | dr => split <;> exact gone
  · rw [asks.sbc, flight, if_neg (by simp [free])]
  · rw [asks.sbc, flight, if_pos busy]

theorem startWalk_full (st : WalkStarter) (s : State) : WalkBegun .full st .release ⟨0, .releaseAll, []⟩
    (s.rwk.roster.map (fun _ => Entry.vacant)) s (startWalk .full st s) := by
  have ready := walkReady_spec .full st s
  rw [startWalk_eq]
  unfold beginFull
  generalize walkReady .full st s = t at ready
  let t1 : State := { t with rwk := { t.rwk with roster := t.rwk.roster.map (fun _ => Entry.vacant) } }
  have packets := packetsFullWalk_touches t1
  have kept : (packetsFullWalk t1).rwk = t1.rwk := packets.rwk.resolve_left (by decide)
  have first : Touches [.rwk, .apq, .sbc] t t1 := { rwk := .inl (by decide) }
  have begun := ready.begun (w := .release) (d := 0) (kind := .releaseAll) (ps := []) (u := packetsFullWalk t1)
    (first.trans (packets.mono (by decide)))
    ((Withdraws.of_sbc (s := t) (t := t1) rfl).trans (packetsFullWalk_withdraws t1)) (by rw [kept])
  have roster : (packetsFullWalk t1).rwk.roster = s.rwk.roster.map (fun _ => Entry.vacant) := by
    rw [kept]
    simp only [t1, ready.rwk, List.map_map]
    rfl
  rw [roster] at begun
  exact begun

/-- A refresh walk asks the root for VERIFY, or the own port for PROBE where entry 0 is VACANT (R71). -/
theorem startWalk_refresh (st : WalkStarter) (s : State) :
    ((entryAt s 0).state = .vacant → WalkBegun .refresh st .rootProbe ⟨0x7F, .probe, []⟩
      (s.rwk.roster.map (fun e => { e with verified := false })) s (startWalk .refresh st s))
    ∧ ((entryAt s 0).state ≠ .vacant → WalkBegun .refresh st .rootVerify ⟨1, .verify, []⟩
      (s.rwk.roster.map (fun e => { e with verified := false })) s (startWalk .refresh st s))
    ∧ (startWalk .refresh st s).apq = s.apq := by
  have ready := walkReady_spec .refresh st s
  rw [startWalk_eq]
  unfold beginRefresh
  generalize walkReady .refresh st s = t at ready
  have roster : t.rwk.roster = s.rwk.roster.map (fun e => { e with verified := false }) := by rw [ready.rwk]
  have root : (entryAt t 0).state = (entryAt s 0).state := by
    simp only [entryAt, roster, List.getD_eq_getElem?_getD, List.getElem?_map]
    cases s.rwk.roster[0]? <;> rfl
  have apq := ready.touches.apq.resolve_left (by decide)
  have vacant : (entryAt t 0).isVacant = true ↔ (entryAt s 0).state = .vacant := by
    rw [Entry.isVacant, decide_eq_true_eq, root]
  refine ⟨fun h => ?_, fun h => ?_, ?_⟩
  · rw [if_pos (vacant.2 h), ← roster]
    exact ready.begun (.refl _ t) (.refl t) rfl
  · rw [if_neg (vacant.not.2 h), ← roster]
    exact ready.begun (.refl _ t) (.refl t) rfl
  · dsimp only
    split <;> rw [wkPlace_apq, apq]

/-- A refresh walk that ENUMERATE has not started is reported (R71). -/
theorem startWalk_refresh_handed {st : WalkStarter} (other : st ≠ .enumerate) (s : State) :
    (startWalk .refresh st s).handed = s.handed ++ [⟨.rwk, .event (.walkStarted .refresh st s.rwk.generation)⟩] := by
  rw [startWalk_eq]
  simp only [beginRefresh, walkReady, if_neg other]
  split <;> simp

/-! ### ENUMERATE (R5, R65) -/

theorem exec_enumerate {s : State} {g : Ring} {c : RecordRing} (f : s.Fetching controlRing g c) (tag : HostTag)
    (kind : Byte) : exec (.enumerate tag kind) s =
      done (takeEnumerate (s.takenAs controlRing g tag) kind (s.taken controlRing g tag)) :=
  congrArg done (f.takeFrom tag _)

theorem SessionState.refreshes_iff (x : SessionState) :
    x.refreshes = true ↔ x = .ready ∨ x = .carrying ∨ x = .quiet := by
  cases x <;> simp [SessionState.refreshes]

section
variable {h : Handle} {s : State}

theorem takeEnumerate_other {kind : Byte} (other : 2 ≤ kind.toNat) :
    takeEnumerate h kind s = complete .rwk h .badParam 0 0 s := by
  unfold takeEnumerate
  split
  · next e => omega
  · next e => omega
  · rfl

theorem takeEnumerate_full : takeEnumerate h 0 s =
    if ¬ (s.ses.session = .waiting ∨ s.ses.session = .ready) then complete .rwk h .notReady 0 0 s
    else if s.rwk.walking then complete .rwk h .busy 0 0 s
    else startWalk .full .enumerate (setSession .walking .walkBegin
      { s with rwk := { s.rwk with enumerate := some h } }) := by
  simp [takeEnumerate]

theorem takeEnumerate_refresh : takeEnumerate h 1 s =
    if ¬ (s.ses.session = .ready ∨ s.ses.session = .carrying ∨ s.ses.session = .quiet) then
      complete .rwk h .notReady 0 0 s
    else if s.rwk.walking then complete .rwk h .busy 0 0 s
    else startWalk .refresh .enumerate { s with rwk := { s.rwk with enumerate := some h } } := by
  simp [takeEnumerate, ← SessionState.refreshes_iff]

end

/-- A row whose answer is the end of a step: the fields outside HIF are those before it. -/
theorem done_fields {run : Result} {t : State} (e : run = done t) {claim : State → Prop}
    (h : ∀ hif out, claim { t with hif := hif, out := out, handed := [] }) : ∃ u, run = .next u ∧ claim u := by
  obtain ⟨hif, out, end_⟩ := finishInOrder_spec t
  exact ⟨_, e.trans (congrArg Host.Outcome.next end_), h hif out⟩

/-- What a walk that ENUMERATE starts leaves. -/
theorem WalkBegun.byEnumerate {k : WalkKind} {w : WalkWait} {q : Request} {roster : List Entry} {h : Handle}
    {s s2 t : State} (begun : WalkBegun k .enumerate w q roster s2 t) (rwk : s2.rwk = { s.rwk with enumerate := some h })
    (touches : Touches [.ses, .rwk, .hif, .out, .choices, .pending] s s2) :
    (t.rwk.walking = true ∧ t.rwk.starter = .enumerate ∧ t.rwk.enumerate = some h ∧ t.rwk.stack = []
      ∧ t.rwk.warnings = 0 ∧ t.rwk.depthMark = false ∧ t.rwk.countMark = false
      ∧ t.rwk.generation = s.rwk.generation ∧ t.sbc.lcReq = none ∧ t.sbc.poll ≠ .round
      ∧ t.fmon = s.fmon ∧ t.bss = s.bss ∧ t.stt = s.stt ∧ t.ain = s.ain ∧ t.pxp = s.pxp ∧ t.dcr = s.dcr)
    ∧ t.rwk.kind = k ∧ t.rwk.roster = roster ∧ t.rwk.wait = some w
    ∧ (flightIs .wk s = false → t.sbc.wkReq = some q) ∧ (flightIs .wk s = true → t.sbc.deferred = some q) := by
  have all := (touches.mono (Q := [.ses, .rwk, .hif, .out, .choices, .pending, .sbc, .apq]) (by decide)).trans
    (begun.touches.mono (by decide))
  have flight : flightIs .wk s2 = flightIs .wk s := (Withdraws.of_sbc (touches.sbc.resolve_left (by decide))).flight .wk
  rw [begun.rwk, rwk]
  exact ⟨⟨rfl, rfl, rfl, rfl, rfl, rfl, rfl, rfl, begun.lcReq, begun.poll, all.fmon.resolve_left (by decide),
    all.bss.resolve_left (by decide), all.stt.resolve_left (by decide), all.ain.resolve_left (by decide),
    all.pxp.resolve_left (by decide), all.dcr.resolve_left (by decide)⟩, rfl, rfl, rfl,
    fun free => begun.placed (flight.trans free), fun busy => begun.deferred (flight.trans busy)⟩

/-- Settles O49: the checks by the branch that refuses, and the two starts. -/
theorem enumerateStarts : Obligations.EnumerateStarts := by
  intro s g c tag kind f h run refused full refresh started asked
  have p : (s.taken controlRing g tag).Pending h c := f.pending tag
  have refuse : ∀ st, takeEnumerate h kind (s.taken controlRing g tag)
      = complete .rwk h st 0 0 (s.taken controlRing g tag) → refused st := fun st e =>
    (exec_enumerate f tag kind).trans ((congrArg done e).trans (done_complete .rwk st 0 0 p))
  refine ⟨fun other => refuse _ (takeEnumerate_other other), ?_, ?_, ?_, ?_, ?_, ?_⟩
  · rintro rfl away
    exact refuse _ (takeEnumerate_full.trans (if_pos away))
  · rintro rfl away
    exact refuse _ (takeEnumerate_refresh.trans (if_pos away))
  · rintro rfl up walking
    exact refuse _ (takeEnumerate_full.trans ((if_neg (not_not.2 up)).trans (if_pos walking)))
  · rintro rfl up walking
    exact refuse _ (takeEnumerate_refresh.trans ((if_neg (not_not.2 up)).trans (if_pos walking)))
  · rintro rfl up still
    let s1 : State := { s.taken controlRing g tag with rwk := { s.rwk with enumerate := some h } }
    have start : takeEnumerate h 0 (s.taken controlRing g tag) =
        startWalk .full .enumerate (setSession .walking .walkBegin s1) :=
      takeEnumerate_full.trans ((if_neg (not_not.2 up)).trans (if_neg (by simp [still])))
    have session := setSession_touches .walking .walkBegin s1
    have rwk : (setSession .walking .walkBegin s1).rwk = s1.rwk := session.rwk.resolve_left (by decide)
    have begun := startWalk_full .enumerate (setSession .walking .walkBegin s1)
    have first : Touches [.ses, .rwk, .hif, .out, .choices, .pending] s s1 :=
      { rwk := .inl (by decide), hif := .inl (by decide) }
    obtain ⟨begins, kind, roster, wait, placed, deferred⟩ :=
      begun.byEnumerate (s := s) rwk (first.trans (session.mono (by decide)))
    obtain ⟨check, ses⟩ := begun.ses
    refine done_fields ((exec_enumerate f tag 0).trans (congrArg done start)) fun hif out =>
      ⟨begins, kind, ?_, ?_, wait, placed, deferred⟩
    · exact (congrArg Ses.session ses).trans (setSession_session ..)
    · exact roster.trans (by rw [rwk])
  · rintro rfl up still
    let s1 : State := { s.taken controlRing g tag with rwk := { s.rwk with enumerate := some h } }
    have start : takeEnumerate h 1 (s.taken controlRing g tag) = startWalk .refresh .enumerate s1 :=
      takeEnumerate_refresh.trans ((if_neg (not_not.2 up)).trans (if_neg (by simp [still])))
    have first : Touches [.ses, .rwk, .hif, .out, .choices, .pending] s s1 :=
      { rwk := .inl (by decide), hif := .inl (by decide) }
    obtain ⟨vacant, held, apq⟩ := startWalk_refresh .enumerate s1
    have session : ∀ {w q roster}, WalkBegun .refresh .enumerate w q roster s1 (startWalk .refresh .enumerate s1) →
        (startWalk .refresh .enumerate s1).ses.session = s.ses.session := fun begun => by
      obtain ⟨check, ses⟩ := begun.ses
      rw [ses]
      rfl
    refine done_fields ((exec_enumerate f tag 1).trans (congrArg done start)) fun hif out => ?_
    by_cases root : (entryAt s 0).state = .vacant
    · obtain ⟨begins, kind, roster, wait, placed, deferred⟩ := (vacant root).byEnumerate (s := s) rfl first
      exact ⟨begins, kind, session (vacant root), apq, roster, fun _ => ⟨wait, placed, deferred⟩, fun k => absurd root k⟩
    · obtain ⟨begins, kind, roster, wait, placed, deferred⟩ := (held root).byEnumerate (s := s) rfl first
      exact ⟨begins, kind, session (held root), apq, roster, fun k => absurd k root, fun _ => ⟨wait, placed, deferred⟩⟩

/-! ### Presence (R1, R4, R5) -/

/-- With one owner, no completion and only events, there is one order. -/
theorem interleave_one (o : Owner) (c : Nat) (items : List Handed) (own : ∀ x ∈ items, x.owner = o) :
    interleave items.length c items = (items, c) := by
  cases items with
  | nil => rfl
  | cons x xs =>
    have dups : ((x :: xs).map (·.owner)).eraseDups = [o] := by
      have same : (x :: xs).map (·.owner) = List.replicate (xs.length + 1) o :=
        List.eq_replicate_iff.2 ⟨by simp, by simpa using own⟩
      rw [same, List.replicate_succ, List.eraseDups_cons]
      simp
    simp only [List.length_cons, interleave, dups]

theorem finishAnyOrder_events (o : Owner) {s : State} (own : ∀ x ∈ s.handed, x.owner = o)
    (events : ∀ x ∈ s.handed, x.isCompletion = false) : finishAnyOrder s = finishInOrder s := by
  have none_ : (s.handed.filter (effective s.hif)).filter Handed.isCompletion = [] := by
    rw [List.filter_eq_nil_iff]
    intro x hx
    simp [events x (List.mem_of_mem_filter hx)]
  have all : (s.handed.filter (effective s.hif)).filter (fun x => !x.isCompletion)
      = s.handed.filter (effective s.hif) := by
    rw [List.filter_eq_self]
    intro x hx
    simp [events x (List.mem_of_mem_filter hx)]
  have order := interleave_one o s.choices (s.handed.filter (effective s.hif))
    fun x hx => own x (List.mem_of_mem_filter hx)
  simp only [finishAnyOrder, none_, all, List.length_nil, interleave, order, List.nil_append, finishInOrder]

section
variable {s : State}

theorem presenceLow_starts (up : s.ses.presence = true) (idle : s.ses.glitch = none) : presenceLow s =
    { s with pins := { s.pins with pres := false }, ses := { s.ses with glitch := some s.now } } :=
  if_pos ⟨up, idle⟩

theorem presenceLow_same (h : s.ses.presence = false ∨ s.ses.glitch ≠ none) :
    presenceLow s = { s with pins := { s.pins with pres := false } } := by
  refine if_neg ?_
  rcases h with h | h
  · simp [h]
  · exact fun k => h k.2

theorem presenceHigh_up (up : s.ses.presence = true) : presenceHigh s =
    { s with pins := { s.pins with pres := true }, ses := { s.ses with glitch := none } } := if_pos up

theorem presenceHigh_down (down : s.ses.presence = false) : presenceHigh s = presenceRise s := if_neg (by simp [down])

theorem presenceRise_up (up : s.ses.presence = true) :
    presenceRise s = { s with pins := { s.pins with pres := true } } := if_pos up

/-- A rise in DETACHED: SETTLING, with the settling timer from 0 (R4). -/
theorem presenceRise_detached (agree : s.lanesAgree) (down : s.ses.presence = false)
    (detached : s.ses.session = .detached) : presenceRise s =
      post .ses (.sessionChanged .settling .detached .presenceDetected s.ses.quiet) { s with
        pins := { s.pins with pres := true }
        ses := { s.ses with
          session := .settling, presence := true, glitch := none, settle := some s.now, termLoss := 0 } } := by
  have dark : s.ses.lanes = false := by rw [agree, detached]; rfl
  rw [presenceRise, if_neg (by simp [down])]
  simp only [detached]
  rw [setSession_stays (new := .settling) (by exact dark) rfl]
  simp [dark, endsChecks, quietOnEntry, SessionState.clearsQuiet, SessionState.lanesOn, SessionState.carries]

end

/-- As `done_fields`, for an end with a free order. -/
theorem doneAny_fields {run : Result} {t : State} (e : run = doneAny t) {claim : State → Prop}
    (h : ∀ hif out choices, claim { t with hif := hif, out := out, handed := [], choices := choices }) :
    ∃ u, run = .next u ∧ claim u := by
  obtain ⟨hif, out, choices, end_⟩ := finishAnyOrder_spec t
  exact ⟨_, e.trans (congrArg Host.Outcome.next end_), h hif out choices⟩

/-- PRESENCE_UP is posted, and the settling timer has ended (R4). -/
def settledUp (t0 : Nat) (s : State) : State :=
  post .ses .presenceUp { s with now := max s.now (t0 + 5400000), ses := { s.ses with settle := none } }

theorem settled_eq {s : State} {t0 : Nat} (settling : s.ses.session = .settling) (timer : s.ses.settle = some t0) :
    settled s = if s.ses.autoEnum then
        startWalk .full .autoEnum (setSession .walking .walkBegin (setSession .waiting .presenceStable (settledUp t0 s)))
      else setSession .waiting .presenceStable (settledUp t0 s) := by
  unfold settled
  split
  · next t _ timer' =>
    obtain rfl : t0 = t := Option.some.inj (timer.symm.trans timer')
    rfl
  · next other => exact absurd timer (other t0 settling)

/-- Settles O25: the glitch filter and the rise, and the two ends of the settling time. -/
theorem presenceRises : Obligations.PresenceRises := by
  refine ⟨fun s settled agree => ⟨fun up idle => done_of_eq (presenceLow_starts up idle) settled,
    fun h => done_of_eq (presenceLow_same h) settled, fun up => done_of_eq (presenceHigh_up up) settled,
    fun up => done_of_eq (presenceRise_up up) settled, fun down detached => ⟨?_, congrArg done (presenceHigh_down down)⟩⟩, ?_⟩
  · exact (congrArg done (presenceRise_detached agree down detached)).trans (done_post _ _ settled)
  · intro s t0 nothing agree settling timer q
    have dark : s.ses.lanes = false := by rw [agree, settling]; rfl
    have waiting : setSession .waiting .presenceStable (settledUp t0 s) =
        post .ses (.sessionChanged .waiting .settling .presenceStable q) (post .ses .presenceUp { s with
          now := max s.now (t0 + 5400000)
          ses := { s.ses with session := .waiting, settle := none, quiet := q, termLoss := 0 } }) := by
      rw [setSession_stays (s := settledUp t0 s) (by exact agree) (by simp [settledUp, settling]; rfl)]
      simp [settledUp, settling, dark, endsChecks, quietOnEntry, SessionState.clearsQuiet, SessionState.lanesOn,
        SessionState.carries, q, post, hand]
    refine ⟨fun off => ?_, fun on => ?_⟩
    · have e : Machine.settled s = _ := (settled_eq settling timer).trans ((if_neg (by simp [off])).trans waiting)
      rw [show exec .presenceStable s = doneAny (Machine.settled s) from rfl, e, doneAny,
        finishAnyOrder_events .ses (by simp [nothing]) (by simp [nothing, Handed.isCompletion]), finishInOrder_eq]
      simp [nothing, deliver, post, hand]
    · have e : Machine.settled s = _ := (settled_eq settling timer).trans (if_pos on)
      rw [waiting] at e
      generalize hs2 : post .ses (.sessionChanged .waiting .settling .presenceStable q) _ = s2 at e
      have session := setSession_touches .walking .walkBegin s2
      have begun := startWalk_full .autoEnum (setSession .walking .walkBegin s2)
      have rwk : (setSession .walking .walkBegin s2).rwk = s.rwk := by
        rw [session.rwk.resolve_left (by decide), ← hs2]
        rfl
      have sbc : (setSession .walking .walkBegin s2).sbc = s.sbc := by
        rw [session.sbc.resolve_left (by decide), ← hs2]
        rfl
      have first : Touches [.ses, .now] s s2 := by
        rw [← hs2]
        exact { ses := .inl (by decide), now := .inl (by decide) }
      have all := ((first.mono (Q := [.ses, .now, .out, .sbc, .rwk, .apq]) (by decide)).trans
        (session.mono (by decide))).trans (begun.touches.mono (by decide))
      have flight : flightIs .wk (setSession .walking .walkBegin s2) = flightIs .wk s := (Withdraws.of_sbc sbc).flight .wk
      have now : (startWalk .full .autoEnum (setSession .walking .walkBegin s2)).now = max s.now (t0 + 5400000) := by
        rw [begun.touches.now.resolve_left (by decide), session.now.resolve_left (by decide), ← hs2]
        rfl
      obtain ⟨check, ses⟩ := begun.ses
      have quiet : (setSession .walking .walkBegin s2).ses.quiet = q := by
        rw [setSession_quiet, ← hs2]
        rfl
      have timer : (setSession .walking .walkBegin s2).ses.settle = none := by
        rw [setSession_eq, ← hs2]
        rfl
      refine doneAny_fields (congrArg doneAny e) fun hif out choices => ⟨now, ?_, ?_, ?_, ?_, ?_, ?_, ?_, ?_, ?_,
        fun free => begun.placed (flight.trans free), fun busy => begun.deferred (flight.trans busy), begun.lcReq,
        begun.channel.trans (congrArg Sbc.channel sbc), all.fmon.resolve_left (by decide),
        all.bss.resolve_left (by decide), all.stt.resolve_left (by decide), all.ain.resolve_left (by decide),
        all.pxp.resolve_left (by decide)⟩
      · exact (congrArg Ses.session ses).trans (setSession_session ..)
      · exact (congrArg Ses.settle ses).trans timer
      · exact (congrArg Ses.quiet ses).trans quiet
      all_goals
        refine (congrArg _ begun.rwk).trans ?_
        rw [rwk]
        rfl

end Sys2Proof.Machine
end

section
/-!
PROOFS. The choice of the needed factor (section 6.4), measurements and formats (sections 2.4 to 2.9), the colour
path and the pending records of the stream ring (sections 6.7, 9.2, 10.5, 10.6).
-/

namespace Sys2Proof.Machine

set_option Elab.async false

/-! ### Candidates (R103, R104) -/

section
variable {g : Geometry} {f d : Nat}

theorem mem_candidates_iff : f ∈ candidates g ↔ factorLegal f ∧ isCandidate g f = true := by
  simp [candidates, factorLegal]

theorem candidates_sorted (g : Geometry) : (candidates g).Pairwise (· < ·) :=
  List.Pairwise.filter _ (by decide)

/-- A factor below a candidate needs no faster clock. -/
theorem isCandidate_of_le {f' : Nat} (le : f ≤ f') (cand : isCandidate g f' = true) : isCandidate g f = true := by
  rw [isCandidate, decide_eq_true_iff] at *
  exact (Nat.mul_le_mul_left _ le).trans cand

theorem candidates_ne_nil (one : isCandidate g 1 = true) : candidates g ≠ [] :=
  List.ne_nil_of_mem (mem_candidates_iff.2 ⟨.inl rfl, one⟩)

theorem largestCandidate_mem (one : isCandidate g 1 = true) : largestCandidate g ∈ candidates g := by
  rw [largestCandidate, List.getLastD_eq_getLast?, List.getLast?_eq_getLast_of_ne_nil (candidates_ne_nil one)]
  exact List.getLast_mem _

theorem le_largestCandidate (cand : f ∈ candidates g) : f ≤ largestCandidate g := by
  rw [largestCandidate, List.getLastD_eq_getLast?,
    List.getLast?_eq_getLast_of_ne_nil (List.ne_nil_of_mem cand), Option.getD_some]
  exact ((candidates_sorted g).imp Nat.le_of_lt).rel_getLast cand

/-- The AUTO result where a candidate has room: it has, and no smaller one does. -/
theorem autoFactor_room {n : Nat} (found : (candidates g).find? (fun f => decide (d ≤ capacity g f)) = some n) :
    n ∈ candidates g ∧ d ≤ capacity g n ∧ ∀ f ∈ candidates g, d ≤ capacity g f → n ≤ f := by
  obtain ⟨room, before, after, split, none_before⟩ := List.find?_eq_some_iff_append.1 found
  have sorted := candidates_sorted g
  rw [split] at sorted ⊢
  refine ⟨by simp, by simpa using room, fun f mem fits => ?_⟩
  rcases List.mem_append.1 mem with early | late
  · exact absurd fits (by simpa using none_before f early)
  · rcases List.mem_cons.1 late with rfl | later
    · exact le_rfl
    · exact ((List.pairwise_cons.1 (List.pairwise_append.1 sorted).2.1).1 f later).le

theorem autoFactor_spec :
    (autoFactor g d ∈ candidates g ∧ d ≤ capacity g (autoFactor g d)
      ∧ ∀ f ∈ candidates g, d ≤ capacity g f → autoFactor g d ≤ f)
    ∨ ((∀ f ∈ candidates g, capacity g f < d) ∧ autoFactor g d = largestCandidate g) := by
  unfold autoFactor
  cases found : (candidates g).find? (fun f => decide (d ≤ capacity g f)) with
  | some n => exact .inl (autoFactor_room found)
  | none =>
    refine .inr ⟨fun f mem => ?_, rfl⟩
    simpa using List.find?_eq_none.1 found f mem

theorem autoFactor_mem (one : isCandidate g 1 = true) : autoFactor g d ∈ candidates g :=
  autoFactor_spec.elim And.left fun ⟨_, largest⟩ => largest ▸ largestCandidate_mem one

theorem largestCandidate_spec (one : isCandidate g 1 = true) :
    (factorLegal (largestCandidate g) ∧ isCandidate g (largestCandidate g) = true)
      ∧ ∀ f, factorLegal f ∧ isCandidate g f = true → f ≤ largestCandidate g :=
  ⟨mem_candidates_iff.1 (largestCandidate_mem one), fun _ cand => le_largestCandidate (mem_candidates_iff.2 cand)⟩

/-- The needed factor is a candidate in every mode (R104). -/
theorem neededFactor_mem {b : Bss} (one : isCandidate g 1 = true) (host : factorLegal b.hostFactor) :
    neededFactor b g d ∈ candidates g := by
  unfold neededFactor
  cases b.mode with
  | auto => exact autoFactor_mem one
  | floor =>
    rcases max_choice (autoFactor g d) (min b.hostFactor (largestCandidate g)) with e | e
    · simp only [e, autoFactor_mem one]
    · simp only [e]
      rcases le_total b.hostFactor (largestCandidate g) with le | le
      · rw [min_eq_left le]
        exact mem_candidates_iff.2
          ⟨host, isCandidate_of_le le (mem_candidates_iff.1 (largestCandidate_mem one)).2⟩
      · rw [min_eq_right le]
        exact largestCandidate_mem one
  | fixed =>
    by_cases cand : isCandidate g b.hostFactor = true
    · simp only [cand, if_true]
      exact mem_candidates_iff.2 ⟨host, cand⟩
    · simp only [cand]
      exact largestCandidate_mem one

end

/-- Settles O38: AUTO finds the first candidate with room in a rising list; FLOOR and FIXED reduce the host factor. -/
theorem Settled.neededFactor : Obligations.NeededFactor := by
  intro b g d one host cand largest isAuto
  have auto : isAuto (autoFactor g d) := by
    rcases autoFactor_spec (g := g) (d := d) with ⟨mem, room, least⟩ | ⟨full, e⟩
    · exact .inl ⟨mem_candidates_iff.1 mem, room, fun f c => least f (mem_candidates_iff.2 c)⟩
    · exact .inr ⟨fun f c => full f (mem_candidates_iff.2 c), e ▸ largestCandidate_spec one⟩
  refine ⟨mem_candidates_iff.1 (neededFactor_mem one host), fun mode => ?_, fun mode => ?_, fun mode => ⟨fun c => ?_, fun c => ?_⟩⟩
  · rw [Machine.neededFactor, mode]
    exact auto
  · exact ⟨_, _, auto, largestCandidate_spec one, by rw [Machine.neededFactor, mode]⟩
  · simp only [Machine.neededFactor, mode, c.2, if_true]
  · simp only [Machine.neededFactor, mode, c]
    exact largestCandidate_spec one

/-! ### Measurements and classification (R31 to R39) -/

theorem measurementValid_iff (o : OpenMeasurement) (m : Measurement) : measurementValid o m = true ↔
    o.invalid = false ∧ o.differed = false ∧ 0 < m.ha ∧ 0 < m.va ∧ m.ha < m.ht ∧ m.va < m.vt ∧ m.ht ≤ 8191 ∧ m.vt ≤ 4095
      ∧ m.ht * m.vt * 27000000 ≤ 300000000 * m.period ∧ measuredRate m.period ≤ 240000 := by
  simp [measurementValid, Measurement.inRange, and_assoc]

/-- The measured rate is the quotient rounded to the nearest, halves up. -/
theorem measuredRate_bounds {p : Nat} (pos : 0 < p) : 27000000000 * 2 < (2 * measuredRate p + 1) * p
    ∧ (2 * measuredRate p) * p ≤ 27000000000 * 2 + p := by
  have low := Nat.div_mul_le_self (54000000000 + p) (2 * p)
  have high := Nat.lt_mul_div_succ (54000000000 + p) (show 0 < 2 * p by omega)
  rw [measuredRate]
  constructor <;> nlinarith

theorem Measurement.equals_iff (m r : Measurement) : m.equals r = true ↔
    m.ht = r.ht ∧ m.ha = r.ha ∧ m.vt = r.vt ∧ m.va = r.va ∧ m.interlaced = r.interlaced ∧ m.hPol = r.hPol
      ∧ m.vPol = r.vPol ∧ ((m.period : Int) - r.period).natAbs * 200 ≤ r.period := by
  have apart : m.period - r.period + (r.period - m.period) = ((m.period : Int) - r.period).natAbs := by omega
  rw [Measurement.equals, decide_eq_true_iff, apart]

theorem FormatEntry.fits_iff (e : FormatEntry) (m : Measurement) : e.fits m = true ↔
    e.ht = m.ht ∧ e.ha = m.ha ∧ e.vt = m.vt ∧ e.va = m.va ∧ e.interlaced = m.interlaced
      ∧ ((measuredRate m.period : Int) - e.rate).natAbs * 200 ≤ e.rate := by
  have apart : measuredRate m.period - e.rate + (e.rate - measuredRate m.period)
      = ((measuredRate m.period : Int) - e.rate).natAbs := by omega
  rw [FormatEntry.fits, decide_eq_true_iff, apart]

/-- The first present entry that fits gives the geometry. -/
theorem classifyFrom_first {m : Measurement} {e : FormatEntry} (fits : e.fits m = true) :
    ∀ (l : List (Option FormatEntry)) (code k : Nat), l[k]? = some (some e) →
      (∀ j < k, ∀ e', l[j]? = some (some e') → e'.fits m = false) → classifyFrom m code l = e.geometry (code + k) := by
  intro l
  induction l with
  | nil => simp
  | cons x rest ih =>
    intro code k here none_before
    cases k with
    | zero =>
      obtain rfl : x = some e := by simpa using here
      simp [classifyFrom, fits]
    | succ k =>
      have later : classifyFrom m (code + 1) rest = e.geometry (code + 1 + k) :=
        ih _ _ (by simpa using here) (fun j lt e' at_ => none_before (j + 1) (by omega) e' (by simpa using at_))
      rw [show code + (k + 1) = code + 1 + k by omega, ← later]
      cases x with
      | none => rfl
      | some y => simp [classifyFrom, none_before 0 (by omega) y (by simp)]

/-- With no present entry that fits, the geometry is the measurement's own. -/
theorem classifyFrom_none {m : Measurement} : ∀ (l : List (Option FormatEntry)) (code : Nat),
    (∀ (k : Nat) (e : FormatEntry), l[k]? = some (some e) → e.fits m = false) → classifyFrom m code l = m.geometry := by
  intro l
  induction l with
  | nil => exact fun _ _ => rfl
  | cons x rest ih =>
    intro code none_fits
    have later := ih (code + 1) (fun k e at_ => none_fits (k + 1) e (by simpa using at_))
    cases x with
    | none => exact later
    | some y => simpa [classifyFrom, none_fits 0 y (by simp)] using later

section
variable {s : State} {m r : Measurement}

theorem judgeMeasurement_acquiring (acq : s.fmon.monitor = .acquiring) (valid : Bool) :
    judgeMeasurement m valid s = judgeAcquiring m valid s := by simp [judgeMeasurement, acq]

theorem judgeMeasurement_locked (locked : s.fmon.monitor = .locked) (valid : Bool) :
    judgeMeasurement m valid s = judgeLocked m valid s := by simp [judgeMeasurement, locked]

theorem judgeAcquiring_equal (held : s.fmon.reference = some r) (equal : m.equals r = true) :
    judgeAcquiring m true s = countEqual r s := by simp [judgeAcquiring, held, equal]

end

/-- Settles O39: each test of the monitor spelled out, and the judging of a measurement by its monitor state. -/
theorem measurementsAndFormats : Obligations.MeasurementsAndFormats := by
  refine ⟨measurementValid_iff, fun p => measuredRate_bounds, Measurement.equals_iff, FormatEntry.fits_iff,
    fun f m => ⟨fun k e here fits before => ?_, classifyFrom_none _ _⟩, ?judged⟩
  · rw [classify, classifyFrom_first fits _ _ k here before, Nat.add_comm 1 k]
    rfl
  case judged =>
    intro s m run none_
    refine ⟨fun acq => ?_, fun locked => ?_⟩
    · simp only [judgeMeasurement_acquiring acq]
      refine ⟨fun none_held => ?_, fun r held => ⟨fun equal few => ?_, fun equal enough => ?_, fun other => ?_⟩, rfl⟩
      · simp [judgeAcquiring, none_held, run, newRun]
      · rw [judgeAcquiring_equal held equal, countEqual, if_pos few]
      · rw [judgeAcquiring_equal held equal, countEqual, if_neg (by omega)]
        exact ⟨rfl, rfl⟩
      · simp [judgeAcquiring, held, other, run, newRun]
    · simp only [judgeMeasurement_locked locked]
      refine ⟨fun r held => ⟨fun equal => ?_, fun other => ?_⟩, rfl⟩
      · simp [judgeLocked, held, equal]
      · simp [judgeLocked, held, other, run, newRun]

/-! ### The colour path (R163, R165) -/

theorem clampTo_eq (r : OutputRange) (x : Int) : (clampTo r x : Int) =
    max (if r = .narrow then 64 else 0) (min (if r = .narrow then 940 else 1023) x) := by
  have ordered : (r.lo : Int) ≤ r.hi := by cases r <;> decide
  have ends : (r.lo : Int) = (if r = .narrow then 64 else 0) ∧ (r.hi : Int) = (if r = .narrow then 940 else 1023) := by
    cases r <;> decide
  rw [← ends.1, ← ends.2, clampTo]
  split
  · omega
  · split <;> omega

/-- A ten-bit value under FULL passes unchanged. -/
theorem clampTo_full {n : Nat} (bits : n ≤ 1023) : clampTo .full n = n := by
  have e := clampTo_eq .full n
  simp only [reduceCtorEq, if_false] at e
  omega

theorem clampTo_narrow (n : Nat) : clampTo .narrow n = max 64 (min 940 n) := by
  have e := clampTo_eq .narrow n
  simp only [if_true] at e
  omega

/-- The identity transform leaves only the clamp. -/
theorem transformPixel_identity (r : OutputRange) (p : Pixel) : transformPixel Transform.identity r p = clampFill r p := by
  have round : ∀ n : Nat, ((4096 : Int) * n + 2048) / 4096 = n := by omega
  simp [transformPixel, clampFill, channelOut, Transform.identity, round]

/-- Settles O43: the clamp is a maximum of a minimum, and the identity transform is the clamp alone. -/
theorem colourPath : Obligations.ColourPath := by
  refine ⟨fun t r p j => ?_, fun p b0 b1 b2 => ?_⟩
  · simp only [channelOut, clampTo_eq, Int.fdiv_eq_ediv_of_nonneg _ (show (0 : Int) ≤ 4096 by decide)]
  · have full : clampFill .full p = p := by simp [clampFill, clampTo_full, b0, b1, b2]
    have narrow : clampFill .narrow p = ⟨max 64 (min 940 p.c0), max 64 (min 940 p.c1), max 64 (min 940 p.c2)⟩ := by
      simp [clampFill, clampTo_narrow]
    simp only [transformPixel_identity]
    exact ⟨full, narrow, full, narrow⟩

/-! ### Pending records (R109, R147, R164, R165) -/

section
variable {s : State} {g : Ring} {c : RecordRing} (f : s.Fetching streamRing g c) (tag : HostTag)
include f

theorem exec_setCadence (mode factor reserve : Byte) : exec (.setCadence tag mode factor reserve) s =
    done (match cadenceRecord (s.takenAs streamRing g tag) mode factor reserve with
      | some p => setPendingCadence p (s.taken streamRing g tag)
      | none => complete .bss (s.takenAs streamRing g tag) .badParam 0 0 (s.taken streamRing g tag)) :=
  congrArg done (f.takeFrom tag _)

theorem exec_setAudio (channels wordLength : Byte) (rate : Word) : exec (.setAudio tag channels wordLength rate) s =
    done (match audioFormatOf channels wordLength rate with
      | some a => setPendingAudio ⟨a, s.takenAs streamRing g tag⟩ (s.taken streamRing g tag)
      | none => complete .ain (s.takenAs streamRing g tag) .badParam 0 0 (s.taken streamRing g tag)) :=
  congrArg done (f.takeFrom tag _)

theorem exec_loadTransform (coeffs offsets : List Half) (range : Byte) : exec (.loadTransform tag coeffs offsets range) s =
    done (match transformOf coeffs offsets, rangeOf range with
      | some t, some r => loadTransform (s.takenAs streamRing g tag) t r (s.taken streamRing g tag)
      | _, _ => complete .pxp (s.takenAs streamRing g tag) .badParam 0 0 (s.taken streamRing g tag)) :=
  congrArg done (f.takeFrom tag _)

theorem exec_setFill (c0 c1 c2 : Half) : exec (.setFill tag c0 c1 c2) s =
    done (if c0.toNat ≤ 1023 ∧ c1.toNat ≤ 1023 ∧ c2.toNat ≤ 1023 then
        setFillTo (s.takenAs streamRing g tag) ⟨c0.toNat, c1.toNat, c2.toNat⟩ (s.taken streamRing g tag)
      else complete .pxp (s.takenAs streamRing g tag) .badParam 0 0 (s.taken streamRing g tag)) :=
  congrArg done (f.takeFrom tag _)

/-- A command that is held stays held while another is taken. -/
theorem State.Fetching.pendingOlder {h : Handle} (held : h ∈ s.hif.inFlight) : (s.taken streamRing g tag).Pending h c :=
  ⟨f.settled, f.writes, f.comp, by simp [State.taken, held]⟩

end

theorem cadenceRecord_bad {mode factor reserve : Byte} (h : Handle)
    (bad : cadenceModeOf mode = none ∨ ¬ (factor = 1 ∨ factor = 2 ∨ factor = 4) ∨ 64 < reserve.toNat) :
    cadenceRecord h mode factor reserve = none := by
  unfold cadenceRecord
  cases spelt : cadenceModeOf mode with
  | none => rfl
  | some m =>
    rcases bad with none_ | factor_ | reserve_
    · simp [none_] at spelt
    · exact if_neg fun ok => factor_ ok.1
    · exact if_neg fun ok => absurd ok.2 (by omega)

theorem cadenceRecord_good {mode factor reserve : Byte} {m : CadenceMode} (h : Handle) (spelt : cadenceModeOf mode = some m)
    (legal : factor = 1 ∨ factor = 2 ∨ factor = 4) (few : reserve.toNat ≤ 64) :
    cadenceRecord h mode factor reserve = some ⟨m, factor.toNat, reserve.toNat, h⟩ := by
  rw [cadenceRecord, spelt]
  exact if_pos ⟨legal, few⟩

theorem transformOf_good {coeffs offsets : List Half} (inRange : ∀ o ∈ offsets, -2048 ≤ o.toInt ∧ o.toInt ≤ 2047) :
    transformOf coeffs offsets = some ⟨coeffs.map BitVec.toInt, offsets.map BitVec.toInt⟩ :=
  if_pos (by simpa using inRange)

theorem transformOf_bad {coeffs offsets : List Half} (outside : ∃ o ∈ offsets, o.toInt < -2048 ∨ 2047 < o.toInt) :
    transformOf coeffs offsets = none := by
  obtain ⟨o, mem, out⟩ := outside
  refine if_neg fun all => ?_
  have := of_decide_eq_true (List.all_eq_true.1 all o mem)
  omega

section
variable {s : State}

theorem setPendingCadence_free (p : PendingCadence) (free : s.bss.pending = none) :
    setPendingCadence p s = { s with bss := { s.bss with pending := some p } } := by simp [setPendingCadence, free]

theorem setPendingCadence_over (p : PendingCadence) {q : PendingCadence} (held : s.bss.pending = some q) :
    setPendingCadence p s = complete .bss q.handle .superseded 0 0 { s with bss := { s.bss with pending := some p } } := by
  simp only [setPendingCadence, held]
  rfl

theorem setPendingAudio_free (p : PendingAudio) (free : s.ain.pending = none) :
    setPendingAudio p s = { s with ain := { s.ain with pending := some p } } := by simp [setPendingAudio, free]

theorem setPendingAudio_over (p : PendingAudio) {q : PendingAudio} (held : s.ain.pending = some q) :
    setPendingAudio p s = complete .ain q.handle .superseded 0 0 { s with ain := { s.ain with pending := some p } } := by
  simp only [setPendingAudio, held]
  rfl

theorem loadTransform_free (h : Handle) (t : Transform) (r : OutputRange) (free : s.pxp.pendingTransform = none) :
    loadTransform h t r s = { s with pxp := { s.pxp with pendingTransform := some ⟨t, r, h⟩ } } := by
  simp [loadTransform, free]

theorem loadTransform_over (h : Handle) (t : Transform) (r : OutputRange) {q : PendingTransform}
    (held : s.pxp.pendingTransform = some q) : loadTransform h t r s =
      complete .pxp q.handle .superseded 0 0 { s with pxp := { s.pxp with pendingTransform := some ⟨t, r, h⟩ } } := by
  simp only [loadTransform, held]
  rfl

theorem setFillTo_free (h : Handle) (p : Pixel) (free : s.pxp.pendingFill = none) :
    setFillTo h p s = { s with pxp := { s.pxp with pendingFill := some ⟨p, h⟩ } } := by simp [setFillTo, free]

theorem setFillTo_over (h : Handle) (p : Pixel) {q : PendingFill} (held : s.pxp.pendingFill = some q) :
    setFillTo h p s = complete .pxp q.handle .superseded 0 0 { s with pxp := { s.pxp with pendingFill := some ⟨p, h⟩ } } := by
  simp only [setFillTo, held]
  rfl

/-- The completion of an older command, after a change of another block. -/
theorem done_older {h : Handle} {c : RecordRing} (o : Owner) {t u : State} (st : Status)
    (e : t = complete o h st 0 0 u) (p : u.Pending h c) : done t = .next (u.completed c h st 0 0) := by
  rw [e, done_complete o st 0 0 p]

end

/-- Settles O44: each command's record by its checks, alone and over an older pending one. -/
theorem pendingRecords : Obligations.PendingRecords := by
  refine ⟨fun s g c tag f => ?alone, fun s g c tag f => ?newer⟩
  case alone =>
    intro h s1 bad
    have p : s1.Pending h c := f.pending tag
    have settled : s1.handed = [] := p.settled
    refine ⟨fun mode factor reserve => ⟨fun wrong => ?_, fun m spelt legal few free => ?_⟩,
      fun channels wl rate => ⟨fun wrong => ?_, fun a spelt free => ?_⟩,
      fun coeffs offsets range => ⟨fun wrong => ?_, fun r spelt inRange free => ?_⟩,
      fun c0 c1 c2 => ⟨fun wrong => ?_, fun b0 b1 b2 free => ?_⟩⟩
    · rw [exec_setCadence f, cadenceRecord_bad _ wrong]
      exact done_complete .bss .badParam _ _ p
    · rw [exec_setCadence f, cadenceRecord_good _ spelt legal few]
      exact done_of_eq (setPendingCadence_free (s := s1) _ free) settled
    · rw [exec_setAudio f, wrong]
      exact done_complete .ain .badParam _ _ p
    · rw [exec_setAudio f, spelt]
      exact done_of_eq (setPendingAudio_free (s := s1) _ free) settled
    · rw [exec_loadTransform f]
      rcases wrong with none_ | outside
      · rw [none_]
        cases transformOf coeffs offsets <;> exact done_complete .pxp .badParam _ _ p
      · rw [transformOf_bad outside]
        exact done_complete .pxp .badParam _ _ p
    · rw [exec_loadTransform f, transformOf_good inRange, spelt]
      exact done_of_eq (loadTransform_free (s := s1) _ _ _ free) settled
    · rw [exec_setFill f, if_neg (by omega)]
      exact done_complete .pxp .badParam _ _ p
    · rw [exec_setFill f, if_pos ⟨b0, b1, b2⟩]
      exact done_of_eq (setFillTo_free (s := s1) _ _ free) settled
  case newer =>
    intro h s1
    refine ⟨fun mode factor reserve m p spelt legal few old held => ?_, fun channels wl rate a p spelt old held => ?_,
      fun coeffs offsets range r p spelt inRange old held => ?_, fun c0 c1 c2 p b0 b1 b2 old held => ?_⟩
    all_goals obtain ⟨settled, writes, comp, inFlight⟩ := f.pendingOlder tag held
    · rw [exec_setCadence f, cadenceRecord_good _ spelt legal few]
      exact done_older .bss .superseded (setPendingCadence_over (s := s1) _ old) ⟨settled, writes, comp, inFlight⟩
    · rw [exec_setAudio f, spelt]
      exact done_older .ain .superseded (setPendingAudio_over (s := s1) _ old) ⟨settled, writes, comp, inFlight⟩
    · rw [exec_loadTransform f, transformOf_good inRange, spelt]
      exact done_older .pxp .superseded (loadTransform_over (s := s1) _ _ _ old) ⟨settled, writes, comp, inFlight⟩
    · rw [exec_setFill f, if_pos ⟨b0, b1, b2⟩]
      exact done_older .pxp .superseded (setFillTo_over (s := s1) _ _ old) ⟨settled, writes, comp, inFlight⟩

end Sys2Proof.Machine

end

section
/-!
PROOFS. The sideband channel: grants, attempts, and the end of a transaction (section 3).
-/

namespace Sys2Proof.Machine

set_option Elab.async false

/-! ### Sending and granting (R42, R45, R52, R53) -/

theorem sendAttempt_eq {x : Transaction} (kind : x.request.kind ≠ .releaseAll) (s : State) : sendAttempt x s = { s with
    sbc := { s.sbc with
      inFlight := some x, channel := .attempt, respTimer := some s.now, quietTimer := none, lateFrame := false }
    out := s.out ++ [.sideband (requestFrame x.request x.seq)] } := by
  unfold sendAttempt
  split
  · contradiction
  · rfl

theorem sendAttempt_releaseAll {x : Transaction} (kind : x.request.kind = .releaseAll) (s : State) :
    sendAttempt x s = { s with
      sbc := { s.sbc with
        inFlight := some x, channel := .releaseQuiet, quietTimer := some s.now, respTimer := none, lateFrame := false }
      out := s.out ++ [.sideband (requestFrame x.request x.seq)] } := by
  simp only [sendAttempt, kind]
  rfl

section
variable {s : State}

theorem grantDecision_busy (busy : s.sbc.channel ≠ .free) : grantDecision s = s := by
  unfold grantDecision
  split
  · contradiction
  · rfl

theorem grantDecision_nobody (nobody : grantChoice s = none) : grantDecision s = s := by
  unfold grantDecision
  rw [nobody]
  cases s.sbc.channel <;> rfl

theorem grantDecision_serves {r : Requester} {q : Request} (free : s.sbc.channel = .free)
    (choice : grantChoice s = some r) (waits : requestOf s.sbc r = some q) : grantDecision s = grantTo r q s := by
  simp [grantDecision, free, choice, waits]

theorem grantTo_eq {r : Requester} {q : Request} (kind : q.kind ≠ .releaseAll) : grantTo r q s = { s with
    sbc := { setRequest r none s.sbc with
      nextSeq := s.sbc.nextSeq + 1, aging := agingAfter r s, channel := .attempt
      inFlight := some ⟨r, q, s.sbc.nextSeq, 1, none, false⟩
      respTimer := some s.now, quietTimer := none, lateFrame := false }
    out := s.out ++ [.sideband (requestFrame q s.sbc.nextSeq)] } := by
  rw [grantTo, sendAttempt_eq (by exact kind)]

theorem grantTo_releaseAll {q : Request} (kind : q.kind = .releaseAll) : grantTo .wk q s = { s with
    sbc := { s.sbc with
      wkReq := none, nextSeq := s.sbc.nextSeq + 1, channel := .releaseQuiet
      inFlight := some ⟨.wk, q, s.sbc.nextSeq, 1, none, false⟩
      respTimer := none, quietTimer := some s.now, lateFrame := false }
    out := s.out ++ [.sideband (requestFrame q s.sbc.nextSeq)] } := by
  rw [grantTo, sendAttempt_releaseAll (by exact kind)]
  rfl

theorem grantChoice_walking (walks : s.rwk.walking = true) :
    grantChoice s = if s.sbc.wkReq.isSome then some .wk else none := by
  simp [grantChoice, walks]

/-- DR goes first at aging count 8 (R54). -/
theorem grantChoice_aged (walks : s.rwk.walking = false) (waits : s.sbc.drReq.isSome = true) (aged : 8 ≤ s.sbc.aging) :
    grantChoice s = some .dr := by
  simp [grantChoice, walks, waits, aged]

/-- Otherwise the requesters are served in a fixed order (R52). -/
theorem grantChoice_ordered (walks : s.rwk.walking = false) (young : s.sbc.drReq = none ∨ s.sbc.aging < 8) :
    grantChoice s = if s.sbc.lcReq.isSome then some .lc else if s.sbc.apReq.isSome then some .ap
      else if s.sbc.acReq.isSome then some .ac else if s.sbc.drReq.isSome then some .dr else none := by
  have not_aged : ¬ (s.sbc.drReq.isSome && decide (8 ≤ s.sbc.aging)) = true := by
    rcases young with none_ | few
    · simp [none_]
    · simp [few]
  simp [grantChoice, walks, not_aged]

/-- A channel that is free and for which nothing waits is given to nobody. -/
theorem grantDecision_idle (walks : s.rwk.walking = false) (lc : s.sbc.lcReq = none) (ap : s.sbc.apReq = none)
    (ac : s.sbc.acReq = none) (dr : s.sbc.drReq = none) : grantDecision s = s := by
  refine grantDecision_nobody ?_
  rw [grantChoice_ordered walks (.inl dr)]
  simp [lc, ap, ac, dr]

end

/-- Settles O45: the grant by the choice of the arbiter, the frame by the kind of the request. -/
theorem sidebandGrants : Obligations.SidebandGrants := by
  intro s settled b older serves nothing
  have run : exec .sidebandGrant s = done (grantDecision s) := rfl
  have nothing_of : grantDecision s = s → nothing := fun e => run.trans (done_of_eq e settled)
  have serves_of : ∀ {r aging}, b.channel = .free → agingAfter r s = aging →
      ((requestOf b r).isSome = true → grantChoice s = some r) → serves r aging := by
    intro r aging free age choice q waits kind
    have e := (grantDecision_serves free (choice (by simp [waits])) waits).trans (grantTo_eq kind)
    rw [age] at e
    exact run.trans (done_of_eq e settled)
  refine ⟨fun busy => nothing_of (grantDecision_busy busy), fun free walks => ⟨fun none_ => ?_, ?_, fun release => ?_⟩,
    fun free walks => ⟨fun waits aged => ?_, fun young => ?_⟩⟩
  · exact nothing_of (grantDecision_nobody (by rw [grantChoice_walking walks]; simp [show s.sbc.wkReq = none from none_]))
  · exact serves_of free rfl fun waits => by rw [grantChoice_walking walks]; exact if_pos waits
  · have choice : grantChoice s = some .wk := by
      rw [grantChoice_walking walks]
      exact if_pos (by rw [show s.sbc.wkReq = _ from release]; rfl)
    exact run.trans (done_of_eq ((grantDecision_serves free choice release).trans (grantTo_releaseAll rfl)) settled)
  · exact serves_of free rfl fun _ => grantChoice_aged walks waits aged
  · have ordered := grantChoice_ordered walks young
    refine ⟨serves_of free rfl fun waits => ?_, fun lc => serves_of free rfl fun waits => ?_,
      fun lc ap => serves_of free rfl fun waits => ?_, fun lc ap ac => serves_of free rfl fun waits => ?_,
      fun lc ap ac dr => nothing_of (grantDecision_idle walks lc ap ac dr)⟩
    · rw [ordered]
      exact if_pos waits
    · rw [ordered, show s.sbc.lcReq = none from lc]
      exact if_pos waits
    · rw [ordered, show s.sbc.lcReq = none from lc, show s.sbc.apReq = none from ap]
      exact if_pos waits
    · rw [ordered, show s.sbc.lcReq = none from lc, show s.sbc.apReq = none from ap, show s.sbc.acReq = none from ac]
      exact if_pos waits

/-! ### The CRC-8 (R187) -/

/-- A step of the CRC-8 register taken back. -/
def crc8Unstep (c : Byte) : Byte := if c.getLsbD 0 then ((c ^^^ 0x07) >>> 1) ||| 0x80 else c >>> 1

theorem crc8Unstep_step : ∀ c : Byte, crc8Unstep (if c.msb then (c <<< 1) ^^^ 0x07 else c <<< 1) = c := by decide +kernel

theorem crc8Bits_injective (n : Nat) : Function.Injective (crc8Bits n) := by
  induction n with
  | zero => exact fun _ _ e => e
  | succ n ih =>
    intro c d e
    rw [← crc8Unstep_step c, ← crc8Unstep_step d]
    exact congrArg _ (ih e)

theorem crc8_fold_injective (bs : List Byte) :
    Function.Injective fun c : Byte => bs.foldl (fun c b => crc8Bits 8 (c ^^^ b)) c := by
  induction bs with
  | nil => exact fun _ _ e => e
  | cons b bs ih =>
    intro c d e
    exact (BitVec.xor_left_inj _).1 (crc8Bits_injective 8 (ih e))

/-- A byte that differs makes another check. -/
theorem crc8_set_ne {bs : List Byte} {k : Nat} {b c : Byte} (at_ : bs[k]? = some c) (differs : c ≠ b) :
    crc8 (bs.set k b) ≠ crc8 bs := by
  obtain ⟨lt, rfl⟩ := List.getElem?_eq_some_iff.1 at_
  rw [List.set_eq_take_append_cons_drop, if_pos lt]
  conv => rhs; rw [← List.take_append_drop k bs, List.drop_eq_getElem_cons lt]
  simp only [crc8, List.foldl_append, List.foldl_cons]
  refine fun e => differs ?_
  exact ((BitVec.xor_right_inj _).1 (crc8Bits_injective 8 (crc8_fold_injective _ e))).symm

/-! ### Response frames (R43, R188) -/

/-- The frame without its check. -/
def responseBody (source : Byte) (seq : BitVec 4) (ack : Bool) (data : List Byte) : List Byte :=
  source :: BitVec.ofNat 8 (16 * seq.toNat + bitAt 0 ack) :: BitVec.ofNat 8 data.length :: data

theorem responseFrame_eq (source : Byte) (seq : BitVec 4) (ack : Bool) (data : List Byte) :
    responseFrame source seq ack data = responseBody source seq ack data ++ [crc8 (responseBody source seq ack data)] := rfl

/-- A frame that parses has a good check. -/
theorem parseResponse_check {f : List Byte} (bad : crc8 f.dropLast ≠ f.getLastD 0) : parseResponse f = none := by
  unfold parseResponse
  split
  · exact if_neg fun ok => bad ok.2.2
  · rfl

theorem header_seq (seq : BitVec 4) (ack : Bool) :
    (BitVec.ofNat 8 (16 * seq.toNat + bitAt 0 ack)).extractLsb' 4 4 = seq := by
  revert seq ack
  decide

theorem header_ack (seq : BitVec 4) (ack : Bool) : (BitVec.ofNat 8 (16 * seq.toNat + bitAt 0 ack)).getLsbD 0 = ack := by
  revert seq ack
  decide

theorem parseResponse_frame (source : Byte) (seq : BitVec 4) (ack : Bool) {data : List Byte} (short : data.length ≤ 130) :
    parseResponse (responseFrame source seq ack data) = some ⟨source, seq, ack, data⟩ := by
  have length : (BitVec.ofNat 8 data.length).toNat = data.length := by simp; omega
  have check : crc8 (responseFrame source seq ack data).dropLast = (responseFrame source seq ack data).getLastD 0 := by
    simp [responseFrame_eq]
  have shape : responseFrame source seq ack data = source :: BitVec.ofNat 8 (16 * seq.toNat + bitAt 0 ack)
      :: BitVec.ofNat 8 data.length :: (data ++ [crc8 (responseBody source seq ack data)]) := rfl
  rw [shape] at check ⊢
  rw [parseResponse, if_pos ⟨by omega, by simp [length], check⟩, header_seq, header_ack, length, List.take_left]

theorem parseResponse_damaged (source : Byte) (seq : BitVec 4) (ack : Bool) (data : List Byte) {k : Nat} {b c : Byte}
    (at_ : (responseFrame source seq ack data)[k]? = some c) (differs : c ≠ b) :
    parseResponse ((responseFrame source seq ack data).set k b) = none := by
  refine parseResponse_check ?_
  rw [responseFrame_eq] at at_ ⊢
  generalize responseBody source seq ack data = body at at_
  by_cases inside : k < body.length
  · rw [List.set_append_left _ _ inside]
    rw [List.getElem?_append_left inside] at at_
    simpa using crc8_set_ne at_ differs
  · rw [List.set_append_right _ _ (by omega)]
    rw [List.getElem?_append_right (by omega)] at at_
    obtain ⟨at_0, rfl⟩ : k - body.length = 0 ∧ crc8 body = c := by
      cases e : k - body.length with
      | zero => simpa [e] using at_
      | succ n => simp [e] at at_
    simpa [at_0] using differs

/-! ### Attempts and their ends (R43, R44) -/

section
variable {s : State} {x : Transaction} {f d : List Byte}

theorem receiveFrame_accept (channel : s.sbc.channel = .attempt) (flight : s.sbc.inFlight = some x)
    (verdict : judgeFrame x f = .accept true d) : receiveFrame f s = endTransaction (.response d) s := by
  simp [receiveFrame, channel, flight, verdict]

theorem receiveFrame_refused (channel : s.sbc.channel = .attempt) (flight : s.sbc.inFlight = some x)
    (verdict : judgeFrame x f = .accept false d) : receiveFrame f s = endTransaction .refused s := by
  simp [receiveFrame, channel, flight, verdict]

theorem receiveFrame_bad (channel : s.sbc.channel = .attempt) (flight : s.sbc.inFlight = some x)
    (verdict : judgeFrame x f = .bad) :
    receiveFrame f s = failAttempt (if s.sbc.lateFrame then .noResponse else .badCheck) s := by
  simp [receiveFrame, channel, flight, verdict]

theorem receiveFrame_discard (channel : s.sbc.channel = .attempt) (flight : s.sbc.inFlight = some x)
    (verdict : judgeFrame x f = .discard) :
    receiveFrame f s = if s.sbc.lateFrame then failAttempt .noResponse s else s := by
  simp [receiveFrame, channel, flight, verdict]

theorem responseTimeout_fails {t0 : Nat} (channel : s.sbc.channel = .attempt) (timer : s.sbc.respTimer = some t0)
    (early : s.sbc.lateFrame = false) :
    responseTimeout false s = failAttempt .noResponse { s with now := max s.now (t0 + 54000) } := by
  simp [responseTimeout, channel, timer, early, advanceTo, responseTicks]

theorem responseTimeout_arriving {t0 : Nat} (channel : s.sbc.channel = .attempt) (timer : s.sbc.respTimer = some t0)
    (early : s.sbc.lateFrame = false) : responseTimeout true s =
      { s with now := max s.now (t0 + 54000), sbc := { s.sbc with lateFrame := true } } := by
  simp [responseTimeout, channel, timer, early, advanceTo, responseTicks]

theorem responseTimeout_late (late : s.sbc.lateFrame = true) (arriving : Bool) : responseTimeout arriving s = s := by
  unfold responseTimeout
  split
  · exact if_pos late
  · rfl

theorem failAttempt_again (k : FailKind) (flight : s.sbc.inFlight = some x) (before : x.attempt < 3) :
    failAttempt k s = sendAttempt { x with attempt := x.attempt + 1, lastFailure := some k } s := by
  simp [failAttempt, flight, before]

theorem failAttempt_ends (k : FailKind) (flight : s.sbc.inFlight = some x) (third : 3 ≤ x.attempt) :
    failAttempt k s = endTransaction k.outcome s := by
  simp [failAttempt, flight, show ¬ x.attempt < 3 by omega]

/-- Where the frame was late in arriving makes no difference to what follows an attempt. -/
theorem sendAttempt_late (x : Transaction) (s : State) (late : Bool) :
    sendAttempt x { s with sbc := { s.sbc with lateFrame := late } } = sendAttempt x s := by
  unfold sendAttempt
  split <;> rfl

theorem endTransaction_late (o : TxOutcome) (flight : s.sbc.inFlight = some x) (late : Bool) :
    endTransaction o { s with sbc := { s.sbc with lateFrame := late } } = endTransaction o s := by
  simp only [endTransaction, flight]
  rfl

theorem failAttempt_late (k : FailKind) (flight : s.sbc.inFlight = some x) (late : Bool) :
    failAttempt k { s with sbc := { s.sbc with lateFrame := late } } = failAttempt k s := by
  have flight' : ({ s with sbc := { s.sbc with lateFrame := late } } : State).sbc.inFlight = some x := flight
  rcases Nat.lt_or_ge x.attempt 3 with before | third
  · rw [failAttempt_again k flight before, failAttempt_again k flight' before, sendAttempt_late]
  · rw [failAttempt_ends k flight third, failAttempt_ends k flight' third, endTransaction_late _ flight]

/-- The end of a transaction with nothing deferred. -/
theorem endTransaction_eq (o : TxOutcome) (flight : s.sbc.inFlight = some x) (nothing : s.sbc.deferred = none) :
    endTransaction o s = grantDecision (handOutcome x o { s with sbc := s.sbc.freed }) := by
  have placed : placeDeferred x.requester (freeChannel s) = { s with sbc := s.sbc.freed } :=
    placeDeferred_none (by exact nothing)
  simp only [endTransaction, flight, placed]

end

/-- Settles O46: an attempt's end by the verdict on its frame, with the CRC-8 that no single byte escapes. -/
theorem sidebandFrames : Obligations.SidebandFrames := by
  refine ⟨?early, ?late, fun x ack data length => ?framed⟩
  case early =>
    intro s x settled channel flight kind early again
    have retry : ∀ k at_, x.attempt < 3 → done (failAttempt k { s with now := at_ }) = again k at_ := by
      intro k at_ before
      have e := (failAttempt_again (s := { s with now := at_ }) k flight before).trans (sendAttempt_eq (by exact kind) _)
      simp only [again, early, channel] at e ⊢
      exact done_of_eq e settled
    refine ⟨fun f bad before => ?_, fun f foreign => ?_, fun t0 timer => ⟨fun before => ?_, ?_⟩⟩
    · have e := receiveFrame_bad channel flight bad
      rw [early] at e
      exact (congrArg done e).trans (retry .badCheck s.now before)
    · have e := receiveFrame_discard channel flight foreign
      rw [early] at e
      exact done_of_eq e settled
    · exact (congrArg done (responseTimeout_fails channel timer early)).trans (retry .noResponse _ before)
    · exact done_of_eq (responseTimeout_arriving channel timer early) settled
  case late =>
    intro s x t0 settled channel flight timer passed late inTime
    have fails : responseTimeout false inTime = failAttempt .noResponse s := by
      have e := responseTimeout_fails (s := inTime) channel timer rfl
      rw [show max inTime.now (t0 + 54000) = s.now from Nat.max_eq_left passed] at e
      exact e.trans (failAttempt_late .noResponse flight false)
    refine ⟨fun f ack d verdict => ?_, fun f verdict => ?_, fun arriving => done_of_eq (responseTimeout_late late arriving) settled⟩
    · refine congrArg done ?_
      cases ack with
      | true =>
        rw [receiveFrame_accept channel flight verdict, receiveFrame_accept (s := inTime) channel flight verdict]
        exact (endTransaction_late _ flight false).symm
      | false =>
        rw [receiveFrame_refused channel flight verdict, receiveFrame_refused (s := inTime) channel flight verdict]
        exact (endTransaction_late _ flight false).symm
    · refine congrArg done (Eq.trans ?_ fails.symm)
      rcases verdict with bad | foreign
      · rw [receiveFrame_bad channel flight bad, late]
        rfl
      · rw [receiveFrame_discard channel flight foreign, if_pos late]
  case framed =>
    have short : data.length ≤ 130 := by
      rw [length]
      cases x.request.kind <;> cases ack <;> decide
    refine ⟨?_, fun k b changed => ?_⟩
    · simp [judgeFrame, parseResponse_frame _ _ _ short, length]
    · obtain ⟨c, at_, differs⟩ := changed
      rw [judgeFrame, parseResponse_damaged _ _ _ _ at_ differs]

end Sys2Proof.Machine

end

section
/-!
PROOFS. The link checks and the attention poll (sections 1.7, 3.5).
-/

namespace Sys2Proof.Machine

set_option Elab.async false

/-! ### The ends of a transaction -/

/-- A row that posts two events. -/
theorem done_two_posts {s : State} (o o' : Owner) (e e' : Event) (settled : s.handed = []) :
    done (post o' e' (post o e s)) = .next (writeEvent e' (writeEvent e s)) := by
  have same : { s with handed := [] } = s := by rw [← settled]
  rw [done, finishInOrder_eq, post_handed, post_handed, settled]
  simp only [List.nil_append, List.cons_append, List.foldl_cons, List.foldl_nil, deliver]
  exact congrArg (fun t => Host.Outcome.next (writeEvent e' (writeEvent e t))) same

/-- The outcomes of a transaction that ends without a response. -/
def TxOutcome.failed (o : TxOutcome) : Prop := o = .refused ∨ o = .noResponse ∨ o = .badCheck

theorem FailKind.outcome_failed (k : FailKind) : k.outcome.failed := by
  cases k
  · exact .inr (.inl rfl)
  · exact .inr (.inr rfl)

section
variable {s : State} {x : Transaction} (channel : s.sbc.channel = .attempt) (flight : s.sbc.inFlight = some x)
  (prompt : s.sbc.deferred = none)
include channel flight prompt

/-- A response ends the transaction, its requester has nothing deferred. -/
theorem exec_response {f d : List Byte} (verdict : judgeFrame x f = .accept true d) :
    exec (.sidebandFrameReceived f) s =
      done (grantDecision (handOutcome x (.response d) { s with sbc := s.sbc.freed })) :=
  congrArg done ((receiveFrame_accept channel flight verdict).trans (endTransaction_eq _ flight prompt))

/-- What holds of the end with every failed outcome holds of every way in which the transaction ends without a response. -/
theorem attemptFails_of {claim : Result → Nat → Prop} (ends : ∀ (o : TxOutcome) (now : Nat), o.failed →
    claim (done (grantDecision (handOutcome x o { s with now := now, sbc := s.sbc.freed }))) now) :
    s.attemptFails x claim := by
  have ended : ∀ (o : TxOutcome) (now : Nat), o.failed → claim (done (endTransaction o { s with now := now })) now := by
    intro o now failed
    rw [endTransaction_eq (s := { s with now := now }) o flight prompt]
    exact ends o now failed
  refine ⟨fun f d verdict => ?_, fun third => ⟨fun f verdict => ?_, fun t0 early timer => ?_⟩⟩
  · have e : exec (.sidebandFrameReceived f) s = done (endTransaction .refused s) :=
      congrArg done (receiveFrame_refused channel flight verdict)
    exact e ▸ ended .refused s.now (.inl rfl)
  · have e : ∃ k, exec (.sidebandFrameReceived f) s = done (failAttempt k s) := by
      rcases verdict with bad | ⟨foreign, late⟩
      · exact ⟨_, congrArg done (receiveFrame_bad channel flight bad)⟩
      · exact ⟨_, congrArg done ((receiveFrame_discard channel flight foreign).trans (if_pos late))⟩
    obtain ⟨k, e⟩ := e
    rw [e, failAttempt_ends k flight third.ge]
    exact ended k.outcome s.now k.outcome_failed
  · have e : exec (.attemptTimeout false) s = done (failAttempt .noResponse { s with now := max s.now (t0 + 54000) }) :=
      congrArg done (responseTimeout_fails channel timer early)
    rw [e, failAttempt_ends .noResponse (s := { s with now := max s.now (t0 + 54000) }) flight third.ge]
    exact ended .noResponse _ (.inr (.inl rfl))

end

/-- After the end of a transaction during a walk the channel is the walker's (R53). -/
theorem grantDecision_toWalker {s : State} (walks : s.rwk.walking = true) (now : Nat) :
    grantDecision { s with now := now, sbc := s.sbc.freed } = s.channelToWalker now := by
  have choice := grantChoice_walking (s := { s with now := now, sbc := s.sbc.freed }) walks
  unfold State.channelToWalker
  cases waits : s.sbc.wkReq with
  | none => exact grantDecision_nobody (choice.trans (if_neg (by simp [Sbc.freed, waits])))
  | some q =>
    have serves := grantDecision_serves (s := { s with now := now, sbc := s.sbc.freed }) (q := q) rfl
      (choice.trans (if_pos (by simp [Sbc.freed, waits]))) waits
    rw [serves]
    by_cases release : q.kind = .releaseAll
    · rw [grantTo_releaseAll release]
      simp [release, Sbc.freed]
    · rw [grantTo_eq release]
      simp [release, Sbc.freed, setRequest, agingAfter]

@[simp] theorem channelToWalker_handed (s : State) (now : Nat) : (s.channelToWalker now).handed = s.handed := by
  unfold State.channelToWalker
  split <;> rfl

/-- After the end of a transaction with no request waiting and no walk the channel is nobody's. -/
theorem grantDecision_freed {t : State} {b : Sbc} (sbc : t.sbc = b.freed) (idle : b.idleRequests)
    (still : t.rwk.walking = false) : grantDecision t = t := by
  obtain ⟨-, lc, ap, ac, dr, -⟩ := idle
  exact grantDecision_idle still (by rw [sbc]; exact lc) (by rw [sbc]; exact ap) (by rw [sbc]; exact ac)
    (by rw [sbc]; exact dr)

/-! ### Link checks (R9, R19) -/

section
variable {s : State} {k : LinkCheck} {o : TxOutcome}

theorem lcResult_stale (held : s.ses.linkCheck = some k) (stale : k.stale = true) :
    lcResult o s = { s with ses := { s.ses with linkCheck := none } } := by
  simp [lcResult, held, stale]

theorem lcResult_training (held : s.ses.linkCheck = some k) (live : k.stale = false) (training : k.training = true)
    (d : List Byte) : lcResult (.response d) s = { s with ses := { s.ses with
      linkCheck := none, lockSeen := s.ses.lockSeen || (decide (s.ses.session = .training) && checkLock d) } } := by
  simp only [lcResult, held, live, training, if_true, Bool.false_eq_true, if_false]
  cases decide (s.ses.session = .training) && checkLock d <;> simp

theorem lcResult_training_failed (held : s.ses.linkCheck = some k) (training : k.training = true) (failed : o.failed) :
    lcResult o s = { s with ses := { s.ses with linkCheck := none } } := by
  rcases failed with rfl | rfl | rfl <;> simp [lcResult, held, training]

theorem lcResult_judged (held : s.ses.linkCheck = some k) (live : k.stale = false) (training : k.training = false) :
    lcResult o s = judgeCheck k o { s with ses := { s.ses with linkCheck := none } } := by
  simp [lcResult, held, live, training]

/-- A check is judged while the session carries, no walk runs and the entry is the one that was asked. -/
def State.judges (s : State) (k : LinkCheck) : Prop :=
  (s.ses.session = .carrying ∨ s.ses.session = .quiet) ∧ s.rwk.walking = false
    ∧ (entryAt s k.index).state = .active ∧ (entryAt s k.index).serial = k.serial

theorem judges_iff : (s.ses.session.carries && !s.rwk.walking && (entryAt s k.index).isActive
    && decide ((entryAt s k.index).serial = k.serial)) = true ↔ s.judges k := by
  simp [State.judges, SessionState.carries_iff, Entry.isActive, and_assoc]

theorem judgeCheck_discards (other : ¬ s.judges k) : judgeCheck k o s = s :=
  if_neg fun h => other (judges_iff.1 h)

theorem judgeCheck_pass {d : List Byte} (judged : s.judges k) (small : (k.c - checkTally d).toNat ≤ 2) :
    judgeCheck k (.response d) s = checkPass k.index s :=
  (if_pos (judges_iff.2 judged)).trans (if_pos (decide_eq_true small))

theorem judgeCheck_miss (judged : s.judges k)
    (bad : o.failed ∨ ∃ d, o = .response d ∧ 2 < (k.c - checkTally d).toNat) :
    judgeCheck k o s = checkMiss k.index s := by
  refine (if_pos (judges_iff.2 judged)).trans ?_
  rcases bad with (rfl | rfl | rfl) | ⟨d, rfl, large⟩
  · rfl
  · rfl
  · rfl
  · exact if_neg (by rw [tallyPasses, decide_eq_true_eq]; omega)

theorem checkMiss_counts {i : Nat} (few : (entryAt s i).miss < 2) :
    checkMiss i s = updEntry i (fun e => { e with miss := e.miss + 1 }) s := by
  simp [checkMiss, few]

theorem checkMiss_third {i : Nat} (two : (entryAt s i).miss = 2) : checkMiss i s =
    let told := post .ses (.tileSuspect i 3 (entryAt s i).serial) (updEntry i (fun e => { e with miss := 3, suspect := true }) s)
    if i = 0 then setSession .faulted .rootCheck told else told := by
  simp [checkMiss, two]

theorem checkMiss_further {i : Nat} (many : 3 ≤ (entryAt s i).miss) : checkMiss i s = s := by
  simp [checkMiss, show ¬ (entryAt s i).miss < 2 by omega, show (entryAt s i).miss ≠ 2 by omega]

end

/-- The root's failure: the lanes go off, and what a check in flight was made for has ended (R7, R11, R19). -/
theorem setSession_faulted {s : State} (cause : SessionCause) (agree : s.lanesAgree)
    (up : s.ses.session = .carrying ∨ s.ses.session = .quiet) : setSession .faulted cause s =
      post .ses (.sessionChanged .faulted s.ses.session cause s.ses.quiet) { s with
        ses := { s.ses with
          session := .faulted, lanes := false, termLoss := 0
          linkCheck := s.ses.linkCheck.map (fun c => { c with stale := true }) }
        out := s.out ++ [.lanes false] } := by
  have switch : s.ses.session.lanesOn ≠ SessionState.faulted.lanesOn := by rcases up with e | e <;> rw [e] <;> decide
  have ends : endsChecks s.ses.session .faulted = true := by rcases up with e | e <;> rw [e] <;> decide
  have keeps : quietOnEntry .faulted s.ses.quiet = s.ses.quiet := rfl
  rw [setSession_switches agree switch, if_pos ends, keeps]
  rfl

/-- Settles O47: the outcome by what the check was made for, its judging by the tally and the entry's miss count. -/
theorem linkChecks : Obligations.LinkChecks := by
  intro s x k settled channel flight own kind held free e carries judged set third suspect misses
  have to_lc : ∀ (o : TxOutcome) (t : State), handOutcome x o t = lcResult o t := fun o t => by
    simp only [handOutcome, own]
  refine ⟨fun still idle => ?idle, fun walks prompt outside => ?walk⟩
  case walk =>
    intro discarded
    have gone : ∀ (o : TxOutcome) (now : Nat), o.failed ∨ (∃ d, o = .response d) →
        discarded (done (grantDecision (handOutcome x o { s with now := now, sbc := s.sbc.freed }))) now := by
      intro o now outcome
      let t : State := { s with now := now, sbc := s.sbc.freed }
      have e : lcResult o t = { t with ses := { t.ses with linkCheck := none } } := by
        cases stale : k.stale with
        | true => exact lcResult_stale (s := t) held stale
        | false =>
          cases training : k.training with
          | false =>
            rw [lcResult_judged (s := t) held stale training]
            exact judgeCheck_discards fun j => by simpa [t, walks] using j.2.1
          | true =>
            rcases outcome with failed | ⟨d, rfl⟩
            · exact lcResult_training_failed (s := t) held training failed
            · rw [lcResult_training (s := t) held stale training d]
              simp [t, outside]
      refine done_of_eq ?_ ((channelToWalker_handed _ _).trans settled)
      rw [to_lc, e]
      exact grantDecision_toWalker (s := { s with ses := { s.ses with linkCheck := none } }) walks now
    exact ⟨fun f d verdict => exec_response channel flight prompt verdict ▸ gone _ s.now (.inr ⟨d, rfl⟩),
      attemptFails_of channel flight prompt fun o now failed => gone o now (.inl failed)⟩
  case idle =>
    have prompt : s.sbc.deferred = none := idle.2.2.2.2.2
    let F : Nat → State := fun now => { s with now := now, sbc := s.sbc.freed }
    have run_of : ∀ {o now t}, lcResult o (F now) = t → t.sbc = s.sbc.freed → t.rwk.walking = false →
        done (grantDecision (handOutcome x o (F now))) = done t := by
      intro o now t e sbc quiet
      rw [to_lc, e, grantDecision_freed sbc idle quiet]
    have judges : ∀ now, judged → (free now).judges k := fun now j => ⟨j.2.2.1, still, j.2.2.2.1, j.2.2.2.2⟩
    have discards : ∀ o now, k.stale = true ∨ (k.training = true ∧ o.failed) ∨ (k.training = false ∧ ¬ judged) →
        done (grantDecision (handOutcome x o (F now))) = .next (free now) := by
      intro o now why
      have e : lcResult o (F now) = free now := by
        cases stale : k.stale with
        | true => exact lcResult_stale (s := F now) held stale
        | false =>
          rcases why with old | ⟨training, failed⟩ | ⟨carried, other⟩
          · simp [stale] at old
          · exact lcResult_training_failed (s := F now) held training failed
          · rw [lcResult_judged (s := F now) held stale carried]
            exact judgeCheck_discards fun j => other ⟨stale, carried, j.1, j.2.2⟩
      exact (run_of e rfl still).trans (done_of_eq rfl settled)
    have miss_of : ∀ o now, (o.failed ∨ (∃ d, o = .response d ∧ 2 < (k.c - checkTally d).toNat) ∧ k.training = false) →
        misses (done (grantDecision (handOutcome x o (F now)))) now := by
      intro o now bad
      have missed : judged → lcResult o (F now) = checkMiss k.index (free now) := fun j => by
        rw [lcResult_judged (s := F now) held j.1 j.2.1]
        exact judgeCheck_miss (judges now j) (bad.imp_right And.left)
      refine ⟨fun j few => ?_, fun j two below => ?_, fun j two root agree => ?_, fun j many => ?_, fun other => ?_⟩
      · exact (run_of ((missed j).trans (checkMiss_counts few)) rfl still).trans (done_of_eq rfl settled)
      · have told := (missed j).trans ((checkMiss_third (s := free now) two).trans (if_neg below))
        rw [show (entryAt (free now) k.index).serial = k.serial from j.2.2.2.2] at told
        exact (run_of told rfl still).trans (done_post .ses _ settled)
      · have told := (missed j).trans ((checkMiss_third (s := free now) two).trans (if_pos root))
        rw [show (entryAt (free now) k.index).serial = k.serial from j.2.2.2.2] at told
        have falls := setSession_faulted (s := post .ses suspect (third now)) .rootCheck agree j.2.2.1
        refine (run_of (told.trans falls) rfl still).trans ?_
        exact done_two_posts (s := { third now with
          ses := { s.ses with linkCheck := none, session := .faulted, lanes := false, termLoss := 0 }
          out := s.out ++ [.lanes false] }) .ses .ses suspect _ settled
      · exact (run_of ((missed j).trans (checkMiss_further many)) rfl still).trans (done_of_eq rfl settled)
      · refine discards o now ?_
        cases training : k.training with
        | true => exact .inr (.inl ⟨rfl, bad.resolve_right fun r => by simp [training] at r⟩)
        | false =>
          refine .inr (.inr ⟨rfl, fun j => ?_⟩)
          obtain ⟨live, -, up, active, serial⟩ := j
          simp [live, training, up, active, serial, carries] at other
    refine ⟨fun f d verdict => ?_, attemptFails_of channel flight prompt fun o now failed => miss_of o now (.inl failed)⟩
    have end_ := exec_response channel flight prompt verdict
    refine ⟨fun training live => ?_, fun j small => ?_, fun carried large => ?_, fun why => ?_⟩
    · exact end_.trans ((run_of (now := s.now) (lcResult_training (s := F s.now) held live training d) rfl still).trans
        (done_of_eq rfl settled))
    · have passed : lcResult (.response d) (F s.now) = checkPass k.index (free s.now) := by
        rw [lcResult_judged (s := F s.now) held j.1 j.2.1]
        exact judgeCheck_pass (judges s.now j) small
      have serial : (entryAt (free s.now) k.index).serial = k.serial := j.2.2.2.2
      refine end_.trans ?_
      by_cases suspected : e.suspect = true
      · have told := passed.trans (if_pos suspected)
        rw [serial] at told
        rw [if_pos suspected]
        exact (run_of told rfl still).trans (done_post .ses _ settled)
      · rw [if_neg suspected]
        exact (run_of (passed.trans (if_neg suspected)) rfl still).trans (done_of_eq rfl settled)
    · exact end_ ▸ miss_of _ s.now (.inr ⟨⟨d, rfl, large⟩, carried⟩)
    · exact end_.trans (discards _ s.now (why.imp_right fun w => .inr w))

/-! ### The attention poll (R55, R56) -/

/-- The GET-NOTICE for an index. -/
def noticeRequest (i : Nat) : Request := ⟨BitVec.ofNat 8 (i + 1), .getNotice, []⟩

section
variable {s : State} {i : Nat}

theorem apPlace_free (present : s.ses.presence = true) (free : flightIs .ap s = false) : apPlace i s =
    { s with sbc := { s.sbc with poll := .round, apReq := some (noticeRequest i) } } := by
  rw [apPlace, if_pos present, joinSet_free (by exact free)]
  rfl

theorem apPlace_busy (present : s.ses.presence = true) (busy : flightIs .ap s = true) : apPlace i s =
    { s with sbc := { s.sbc with poll := .round, deferred := some (noticeRequest i) } } := by
  rw [apPlace, if_pos present, joinSet_deferred (by exact busy)]
  rfl

theorem pollCheck_not (h : s.sbc.poll ≠ .idle ∨ s.pins.attn = false ∨ s.ses.presence = false ∨ s.rwk.walking = true) :
    pollCheck s = s := by
  refine if_neg fun all => ?_
  simp only [Bool.and_eq_true, decide_eq_true_eq, Bool.not_eq_true'] at all
  obtain ⟨⟨⟨idle, attn⟩, present⟩, still⟩ := all
  simp [idle, attn, present, still] at h

theorem pollCheck_begins (idle : s.sbc.poll = .idle) (attn : s.pins.attn = true) (present : s.ses.presence = true)
    (still : s.rwk.walking = false) :
    (∀ i is, activeIndices s = i :: is →
      pollCheck s = apPlace i { s with sbc := { s.sbc with noticeFound := false, pollCursor := none } })
    ∧ (activeIndices s = [] →
      pollCheck s = beginHoldoff { s with sbc := { s.sbc with noticeFound := false, pollCursor := none } }) := by
  have all : (decide (s.sbc.poll = .idle) && s.pins.attn && s.ses.presence && !s.rwk.walking) = true := by
    simp [idle, attn, present, still]
  refine ⟨fun i is active => ?_, fun none_ => ?_⟩
  · rw [pollCheck, if_pos all]
    dsimp only
    rw [active]
  · rw [pollCheck, if_pos all]
    dsimp only
    rw [none_]

/-- How the poll goes on after a GET-NOTICE of the round, with nothing else waiting for the channel. -/
structure PollGoesOn (i : Nat) (found : Bool) (s t : State) : Prop where
  released : s.pins.attn = false → t = { s with sbc := { s.sbc.freed with
    pollCursor := some i, noticeFound := found, poll := .idle } }
  next : ∀ k ks, s.pins.attn = true → (activeIndices s).filter (fun k => decide (i < k)) = k :: ks →
    t = { s with sbc := { s.sbc.freed with pollCursor := some i, noticeFound := found, poll := .round } }.requesterSends
      .ap (noticeRequest k)
  anew : ∀ k ks, s.pins.attn = true → (activeIndices s).filter (fun k => decide (i < k)) = [] → found = true →
    activeIndices s = k :: ks →
    t = { s with sbc := { s.sbc.freed with pollCursor := none, noticeFound := false, poll := .round } }.requesterSends
      .ap (noticeRequest k)
  holds : s.pins.attn = true → (activeIndices s).filter (fun k => decide (i < k)) = [] → found = false →
    t = { s with sbc := { s.sbc.freed with
      pollCursor := some i, noticeFound := found, poll := .holdoff, holdoff := some s.now } }

/-- The request that AP has placed on the free channel is sent. -/
theorem grantDecision_asks {q : Request} (free : s.sbc.channel = .free) (still : s.rwk.walking = false)
    (lc : s.sbc.lcReq = none) (ap : s.sbc.apReq = none) (dr : s.sbc.drReq = none) (kind : q.kind ≠ .releaseAll) :
    grantDecision { s with sbc := { s.sbc with apReq := some q } } = s.requesterSends .ap q := by
  let t : State := { s with sbc := { s.sbc with apReq := some q } }
  have choice : grantChoice t = some .ap := by
    rw [grantChoice_ordered (s := t) still (.inl dr)]
    simp [t, lc]
  rw [grantDecision_serves (s := t) free choice rfl, grantTo_eq kind]
  simp only [State.requesterSends, setRequest, agingAfter, dr, t, Option.isSome_none, Bool.false_eq_true, if_false,
    reduceCtorEq, ap]

theorem pollNext_goesOn {found : Bool} (idle : s.sbc.idleRequests) (still : s.rwk.walking = false)
    (present : s.ses.presence = true) : PollGoesOn i found s (grantDecision (pollNext i
      { s with sbc := { s.sbc.freed with pollCursor := some i, noticeFound := found } })) := by
  obtain ⟨-, lc, ap, ac, dr, -⟩ := idle
  let s0 : State := { s with sbc := { s.sbc.freed with pollCursor := some i, noticeFound := found } }
  have nobody : ∀ t : State, t.rwk = s.rwk → t.sbc.lcReq = none → t.sbc.apReq = none → t.sbc.acReq = none →
      t.sbc.drReq = none → grantDecision t = t := fun t rwk => grantDecision_idle (by rw [rwk]; exact still)
  have sends : ∀ (k : Nat) (t : State), t.sbc.inFlight = none → t.ses.presence = true → t.rwk.walking = false →
      t.sbc.channel = .free → t.sbc.lcReq = none → t.sbc.apReq = none → t.sbc.drReq = none →
      grantDecision (apPlace k t) = { t with sbc := { t.sbc with poll := .round } }.requesterSends .ap (noticeRequest k) := by
    intro k t flight present still free lc ap dr
    rw [apPlace_free present (by simp [flightIs, flight])]
    exact grantDecision_asks (s := { t with sbc := { t.sbc with poll := .round } }) free still lc ap dr (fun e => nomatch e)
  refine ⟨fun off => ?_, fun k ks on after => ?_, fun k ks on after found_ active => ?_, fun on after none_ => ?_⟩
  · have e : pollNext i s0 = { s0 with sbc := { s0.sbc with poll := .idle } } := by
      simp [pollNext, s0, off]
    rw [e]
    exact nobody _ rfl lc ap ac dr
  · have e : pollNext i s0 = apPlace k s0 := by
      rw [pollNext, if_neg (by simp [s0, on])]
      rw [show (activeIndices s0).filter (fun k => decide (i < k)) = k :: ks from after]
    rw [e]
    exact sends k s0 rfl present still rfl lc ap dr
  · have check : pollNext i s0 = pollCheck { s0 with sbc := { s0.sbc with poll := .idle } } := by
      rw [pollNext, if_neg (by simp [s0, on])]
      rw [show (activeIndices s0).filter (fun k => decide (i < k)) = [] from after]
      exact if_pos found_
    rw [check, (pollCheck_begins (s := { s0 with sbc := { s0.sbc with poll := .idle } }) rfl on present still).1 k ks active]
    exact sends k _ rfl present still rfl lc ap dr
  · have e : pollNext i s0 = beginHoldoff s0 := by
      rw [pollNext, if_neg (by simp [s0, on])]
      rw [show (activeIndices s0).filter (fun k => decide (i < k)) = [] from after]
      exact if_neg (by simp [s0, none_])
    rw [e]
    exact nobody _ rfl lc ap ac dr

end

/-! ### The outcome of a GET-NOTICE (R56, R57) -/

section
variable {s : State} {i : Nat} {orphan : Bool}

/-- An outcome that holds no notice. -/
theorem apResult_none {o : TxOutcome} (up : o ≠ .linkDown) (none_ : noticeOf o = none) : apResult i orphan o s =
    let s0 : State := { s with sbc := { s.sbc with pollCursor := some i } }
    if orphan then s0 else pollAfter i s0 := by
  cases o <;> simp_all [apResult]

theorem apResult_notice {d : List Byte} (held : d.getD 0 0 ≠ 0) : apResult i orphan (.response d) s =
    let s1 := handleNotice i (d.getD 0 0) (d.getD 1 0)
      { s with sbc := { s.sbc with pollCursor := some i, noticeFound := true } }
    if orphan then s1 else pollAfter i s1 := by
  simp only [apResult, noticeOf, if_neg held]

theorem noticeOf_failed {o : TxOutcome} (failed : o.failed) : o ≠ .linkDown ∧ noticeOf o = none := by
  rcases failed with rfl | rfl | rfl <;> exact ⟨by decide, rfl⟩

theorem handleNotice_tells {kind arg : Byte}
    (stays : ¬ (kind = 1 ∧ s.ses.session.refreshes = true ∧ s.ses.autoRefresh = true ∧ s.rwk.walking = false)) :
    handleNotice i kind arg s = post .sbc (.tileNotice i kind arg (entryAt s i).serial) s :=
  if_neg (by simpa using stays)

theorem handleNotice_walks {kind arg : Byte}
    (walks : kind = 1 ∧ s.ses.session.refreshes = true ∧ s.ses.autoRefresh = true ∧ s.rwk.walking = false) :
    handleNotice i kind arg s =
      startWalk .refresh .autoRefresh (post .sbc (.tileNotice i kind arg (entryAt s i).serial) s) :=
  if_pos (by simpa using walks)

theorem pollAfter_round (round : s.sbc.poll = .round) : pollAfter i s = pollNext i s := by simp [pollAfter, round]

theorem pollAfter_other (other : s.sbc.poll ≠ .round) : pollAfter i s = s := by
  unfold pollAfter
  split
  · contradiction
  · rfl

theorem channelToWalker_post (o : Owner) (e : Event) (now : Nat) :
    (post o e s).channelToWalker now = post o e (s.channelToWalker now) := by
  unfold State.channelToWalker
  rw [post_sbc]
  split <;> rfl

end

/-! ### SB_ATTN# and the holdoff (R55, R56) -/

section
variable {s : State}

/-- R55's check with the line asserted, the presence asserted and no walk: a round begins, or the holdoff. -/
theorem pollCheck_round (idle : s.sbc.poll = .idle) (attn : s.pins.attn = true) (present : s.ses.presence = true)
    (still : s.rwk.walking = false) :
    let b := { s.sbc with noticeFound := false, pollCursor := none, poll := .round }
    (∀ i is, activeIndices s = i :: is →
      (flightIs .ap s = false → pollCheck s = { s with sbc := { b with apReq := some (noticeRequest i) } })
      ∧ (flightIs .ap s = true → pollCheck s = { s with sbc := { b with deferred := some (noticeRequest i) } }))
    ∧ (activeIndices s = [] → pollCheck s = { s with sbc := { s.sbc with
      noticeFound := false, pollCursor := none, poll := .holdoff, holdoff := some s.now } }) := by
  obtain ⟨asks, empty⟩ := pollCheck_begins idle attn present still
  refine ⟨fun i is active => ⟨fun free => ?_, fun busy => ?_⟩, empty⟩
  · exact (asks i is active).trans (apPlace_free (by exact present) (by exact free))
  · exact (asks i is active).trans (apPlace_busy (by exact present) (by exact busy))

theorem withdraw_ap (s : State) : withdraw .ap s = { s with sbc := { s.sbc with
    apReq := none, deferred := if flightIs .ap s then none else s.sbc.deferred } } := by
  unfold withdraw
  split <;> rfl

theorem releaseAttention_ends (round : s.sbc.poll = .round) (waits : hasWaiting .ap s = true) :
    releaseAttention s = { s with
      pins := { s.pins with attn := false }
      sbc := { s.sbc with
        poll := .idle, apReq := none, deferred := if flightIs .ap s then none else s.sbc.deferred } } := by
  rw [releaseAttention, if_pos (by simp [round, waits]), withdraw_ap]
  rfl

theorem releaseAttention_stays (h : s.sbc.poll ≠ .round ∨ hasWaiting .ap s = false) :
    releaseAttention s = { s with pins := { s.pins with attn := false } } :=
  if_neg (by rcases h with h | h <;> simp [h])

theorem holdoffEnd_eq {t0 : Nat} (holds : s.sbc.poll = .holdoff) (timer : s.sbc.holdoff = some t0) :
    holdoffEnd s = pollCheck { s with
      now := max s.now (t0 + 2700000), sbc := { s.sbc with poll := .idle, holdoff := none } } := by
  simp [holdoffEnd, holds, timer, advanceTo, holdoffTicks]

end

theorem sendAttempt_touches (x : Transaction) (s : State) : Touches [.sbc, .out] s (sendAttempt x s) := by
  unfold sendAttempt
  split <;> exact { sbc := .inl (by decide), out := .inl (by decide), sent := List.prefix_append _ _ }

theorem sendAttempt_handed (x : Transaction) (s : State) : (sendAttempt x s).handed = s.handed := by
  unfold sendAttempt
  split <;> rfl

theorem grantTo_touches (r : Requester) (q : Request) (s : State) : Touches [.sbc, .out] s (grantTo r q s) :=
  ((setSbc_touches s _).mono (by decide)).trans (sendAttempt_touches _ _)

/-- The refresh walk that a DOWNSTREAM_CHANGED notice starts, with its first request sent. -/
theorem noticeWalk {s u : State} {q : Request} {w : WalkWait} {roster : List Entry}
    (begun : WalkBegun .refresh .autoRefresh w q roster s u) (free : s.sbc.channel = .free)
    (flight : s.sbc.inFlight = none) (round : s.sbc.poll = .round) (ap : s.sbc.apReq = none)
    (kind : q.kind ≠ .releaseAll) :
    let t := grantDecision u
    t.rwk = u.rwk ∧ t.ses = u.ses ∧ t.handed = u.handed ∧ Touches [.sbc, .out] u t ∧ t.sbc.poll = .idle
      ∧ t.sbc.apReq = none ∧ t.sbc.inFlight.map (·.requester) = some .wk := by
  have placed : u.sbc.wkReq = some q := begun.placed (by simp [flightIs, flight])
  have walks : u.rwk.walking = true := by rw [begun.rwk]; rfl
  have choice : grantChoice u = some .wk := by
    rw [grantChoice_walking walks]
    exact if_pos (by rw [placed]; rfl)
  have grant : grantDecision u = grantTo .wk q u := grantDecision_serves (begun.channel.trans free) choice placed
  have poll : u.sbc.poll = .idle := begun.polled.resolve_left fun e => begun.poll (e.trans round)
  have gone : u.sbc.apReq = none := begun.absent .ap (by decide) ap
  have touches := grantTo_touches .wk q u
  dsimp only
  rw [grant]
  refine ⟨touches.rwk.resolve_left (by decide), touches.ses.resolve_left (by decide), sendAttempt_handed _ _, touches, ?_⟩
  rw [grantTo_eq kind]
  exact ⟨poll, gone, rfl⟩

theorem handOutcome_ap {x : Transaction} {i : Nat} (own : x.requester = .ap) (request : x.request = noticeRequest i)
    (small : i < 64) (o : TxOutcome) (s : State) : handOutcome x o s = apResult i x.orphan o s := by
  have index : (BitVec.ofNat 8 (i + 1)).toNat - 1 = i := by simp; omega
  simp only [handOutcome, own, request, noticeRequest, index]

/-- Settles O48: the line and the holdoff by R55's check, and the outcome of a GET-NOTICE by whether it holds a notice
and whether its round still runs. -/
theorem attentionPoll : Obligations.AttentionPoll := by
  refine ⟨?line, fun s x i settled channel flight own request small => ⟨?inWalk, ?noWalk⟩⟩
  case line =>
    intro s settled low waits
    have settled' : low.handed = [] := settled
    have asserts : s.pins.attn = false → exec .attentionAsserted s = done (pollCheck low) := fun off =>
      congrArg done (if_neg (by simp [off]))
    have waits_iff : waits ↔ hasWaiting .ap s = true := by simp [waits, hasWaiting, requestOf]
    refine ⟨fun off idle present still => ?_, fun off why => ?_, fun on => ?_, fun round w => ?_, fun why => ?_,
      fun t0 holds timer off => ?_, fun t0 holds timer on => ?_⟩
    · obtain ⟨asks, empty⟩ := pollCheck_round (s := low) idle rfl present still
      refine ⟨fun i is active => ⟨fun free => ?_, fun busy => ?_⟩, fun none_ => ?_⟩
      · exact (asserts off).trans (done_of_eq ((asks i is active).1 free) settled')
      · exact (asserts off).trans (done_of_eq ((asks i is active).2 busy) settled')
      · exact (asserts off).trans (done_of_eq (empty none_) settled')
    · exact (asserts off).trans (done_of_eq (pollCheck_not (why.imp_right .inr)) settled')
    · exact done_of_eq (if_pos on) settled
    · exact done_of_eq (releaseAttention_ends round (waits_iff.1 w)) settled
    · exact done_of_eq (releaseAttention_stays (why.imp_right fun w => by simpa using waits_iff.not.1 w)) settled
    · exact done_of_eq ((holdoffEnd_eq holds timer).trans (pollCheck_not (.inr (.inl off)))) settled
    · intro now b run
      have end_ := holdoffEnd_eq holds timer
      refine ⟨fun why => done_of_eq (end_.trans (pollCheck_not (.inr (.inr why)))) settled, fun present still => ?_⟩
      obtain ⟨asks, empty⟩ := pollCheck_round
        (s := { s with now := now, sbc := { s.sbc with poll := .idle, holdoff := none } }) rfl on present still
      refine ⟨fun i is active => ⟨fun free => ?_, fun busy => ?_⟩, fun none_ => ?_⟩
      · exact done_of_eq (end_.trans ((asks i is active).1 free)) settled
      · exact done_of_eq (end_.trans ((asks i is active).2 busy)) settled
      · have e := end_.trans (empty none_)
        rw [← holds] at e
        exact done_of_eq e settled
  case inWalk =>
    intro walks prompt outside asked none_
    let F : Nat → State := fun now => { s with now := now, sbc := s.sbc.freed }
    have stays : ∀ t : State, t.sbc.poll = s.sbc.poll → (if x.orphan then t else pollAfter i t) = t := fun t poll => by
      cases unwanted : x.orphan with
      | true => rfl
      | false => exact pollAfter_other (by rw [poll]; exact outside.resolve_left (by simp [unwanted]))
    have holds_none : ∀ o now, o ≠ .linkDown → noticeOf o = none →
        none_ (done (grantDecision (handOutcome x o (F now)))) now := by
      intro o now up nothing
      refine done_of_eq ?_ ((channelToWalker_handed _ _).trans settled)
      rw [handOutcome_ap own request small, apResult_none up nothing]
      exact (congrArg grantDecision (stays { F now with sbc := { s.sbc.freed with pollCursor := some i } } rfl)).trans
        (grantDecision_toWalker (s := asked s.sbc.noticeFound) walks now)
    refine ⟨fun f d verdict => ⟨fun empty => ?_, fun held => ?_⟩, attemptFails_of channel flight prompt fun o now failed => ?_⟩
    · exact exec_response channel flight prompt verdict ▸ holds_none (.response d) s.now (by simp) (if_pos empty)
    · have told : apResult i x.orphan (.response d) (F s.now) =
          post .sbc (.tileNotice i (d.getD 0 0) (d.getD 1 0) (entryAt s i).serial)
            { F s.now with sbc := { s.sbc.freed with pollCursor := some i, noticeFound := true } } := by
        rw [apResult_notice held, handleNotice_tells (fun h => by simp [F, walks] at h)]
        exact stays _ rfl
      have end_ := exec_response channel flight prompt verdict
      rw [handOutcome_ap own request small, told] at end_
      refine end_.trans ((congrArg done ?_).trans (done_post (s := (asked true).channelToWalker s.now) .sbc _
        ((channelToWalker_handed _ _).trans settled)))
      exact (grantDecision_toWalker (s := post .sbc _ (asked true)) walks s.now).trans (channelToWalker_post ..)
    · exact holds_none o now (noticeOf_failed failed).1 (noticeOf_failed failed).2
  case noWalk =>
    intro idle still present after goesOn noNotice
    have prompt : s.sbc.deferred = none := idle.2.2.2.2.2
    let F : Nat → State := fun now => { s with now := now, sbc := s.sbc.freed }
    have quiet_of : ∀ o now, o ≠ .linkDown → noticeOf o = none →
        noNotice (done (grantDecision (handOutcome x o (F now)))) now := by
      intro o now up nothing
      rw [handOutcome_ap own request small, apResult_none up nothing]
      refine ⟨fun live round => ?_, fun unwanted => ?_⟩
      · have on := pollNext_goesOn (s := { s with now := now }) (i := i) (found := s.sbc.noticeFound) idle still present
        rw [live, if_neg (by decide), pollAfter_round (by exact round)]
        exact ⟨fun off => done_of_eq (on.released off) settled,
          fun k ks up after => done_of_eq (on.next k ks up after) settled,
          fun k ks up after found active => done_of_eq (on.anew k ks up after found active) settled,
          fun up after none_ => done_of_eq (on.holds up after none_) settled⟩
      · rw [unwanted, if_pos rfl]
        exact done_of_eq (grantDecision_freed (b := { s.sbc with pollCursor := some i }) rfl idle still) settled
    refine ⟨fun f d verdict => ?_, attemptFails_of channel flight prompt fun o now failed =>
      quiet_of o now (noticeOf_failed failed).1 (noticeOf_failed failed).2⟩
    intro run told walks
    have end_ : run = _ := exec_response channel flight prompt verdict
    let e : Event := .tileNotice i (d.getD 0 0) (d.getD 1 0) (entryAt s i).serial
    let s1 : State := { F s.now with sbc := { s.sbc.freed with pollCursor := some i, noticeFound := true } }
    refine ⟨fun empty => end_ ▸ quiet_of (.response d) s.now (by simp) (if_pos empty), fun held stays => ?_,
      fun walk round => ?_⟩
    · have tells : handleNotice i (d.getD 0 0) (d.getD 1 0) s1 = post .sbc e s1 :=
        handleNotice_tells fun h => stays ⟨h.1, h.2.2.1, (SessionState.refreshes_iff _).1 h.2.1⟩
      have result : apResult i x.orphan (.response d) (F s.now) =
          if x.orphan then post .sbc e s1 else pollAfter i (post .sbc e s1) := by
        rw [apResult_notice held]
        exact congrArg (fun t => if x.orphan then t else pollAfter i t) tells
      rw [handOutcome_ap own request small, result] at end_
      rw [end_]
      refine ⟨fun live round => ?_, fun unwanted => ?_⟩
      · have on := pollNext_goesOn (s := post .sbc e s) (i := i) (found := true) idle still present
        rw [live, if_neg (by decide), pollAfter_round (by exact round)]
        have report : ∀ {u t : State}, grantDecision (pollNext i (post .sbc e s1)) = t → t = post .sbc e u →
            u.handed = [] → done (grantDecision (pollNext i (post .sbc e s1))) = .next (writeEvent e u) := by
          intro u t is_ posted nothing
          rw [is_, posted, done_post .sbc e nothing]
        exact ⟨fun off => report (on.released off) rfl settled, fun k ks up after => report (on.next k ks up after) rfl settled,
          fun k ks up after found active => report (on.anew k ks up after found active) rfl settled,
          fun up after none_ => report (on.holds up after none_) rfl settled⟩
      · rw [unwanted, if_pos rfl, grantDecision_freed (t := post .sbc e s1)
          (b := { s.sbc with pollCursor := some i, noticeFound := true }) rfl idle still]
        exact done_post (s := s1) .sbc e settled
    · obtain ⟨down, auto, up⟩ := walk
      have held : d.getD 0 0 ≠ 0 := by rw [down]; decide
      have walks_ : handleNotice i (d.getD 0 0) (d.getD 1 0) s1 = startWalk .refresh .autoRefresh (post .sbc e s1) :=
        handleNotice_walks ⟨down, (SessionState.refreshes_iff _).2 up, auto, still⟩
      have listed := startWalk_refresh_handed (st := .autoRefresh) (by decide) (post .sbc e s1)
      obtain ⟨vacant, there, -⟩ := startWalk_refresh .autoRefresh (post .sbc e s1)
      generalize hu : startWalk .refresh .autoRefresh (post .sbc e s1) = u at *
      have begun : ∃ w q, q.kind ≠ .releaseAll ∧
          WalkBegun .refresh .autoRefresh w q (s.rwk.roster.map (fun e => { e with verified := false })) (post .sbc e s1) u := by
        by_cases root : (entryAt s 0).state = .vacant
        · exact ⟨_, _, by decide, vacant root⟩
        · exact ⟨_, _, by decide, there root⟩
      obtain ⟨w, q, kind, begun⟩ := begun
      obtain ⟨rwk, ses, handed, touches, poll, ap, sent⟩ := noticeWalk begun rfl rfl (by exact round) idle.2.2.1 kind
      have result : apResult i x.orphan (.response d) (F s.now) = u := by
        rw [apResult_notice held]
        refine (congrArg (fun t => if x.orphan then t else pollAfter i t) walks_).trans ?_
        cases x.orphan with
        | true => rfl
        | false => exact pollAfter_other begun.poll
      rw [handOutcome_ap own request small, result] at end_
      generalize ht : grantDecision u = t at *
      have all : Touches [.ses, .sbc, .rwk, .apq, .out] (post .sbc e s1) t :=
        (begun.touches.mono (by decide)).trans (touches.mono (by decide))
      have items : t.handed = [⟨.sbc, .event e⟩, ⟨.rwk, .event (.walkStarted .refresh .autoRefresh s.rwk.generation)⟩] := by
        rw [handed, listed]
        simp [s1, F, settled]
      obtain ⟨check, ses_⟩ := begun.ses
      obtain ⟨hif, out, fin⟩ := finishInOrder_spec t
      have reported : ∀ o e', ⟨o, .event e'⟩ ∈ t.handed → s.listens e'.kind = true → s.reports (finishInOrder t) e' = true := by
        intro o e' mem listens
        refine (finishInOrder_finishes t).reports (o := o) ?_ ?_ mem ?_
        · exact all.sent
        · rw [State.listens, all.hif.resolve_left (by decide)]
          exact listens
        · rw [items]
          exact Nat.le_trans List.countP_le_length (by simp)
      have rwk_ : (finishInOrder t).rwk = u.rwk := by rw [fin, ← rwk]
      have ses' : (finishInOrder t).ses = u.ses := by rw [fin, ← ses]
      have sbc_ : (finishInOrder t).sbc = t.sbc := by rw [fin]
      refine ⟨finishInOrder t, end_, ?_⟩
      rw [rwk_, ses', sbc_, begun.rwk, ses_]
      refine ⟨rfl, rfl, rfl, rfl, poll, ap, sent, fun listens => ?_, fun listens => ?_⟩
      · exact reported .sbc e (by rw [items]; exact List.mem_cons_self ..) listens
      · exact reported .rwk _ (by rw [items]; exact List.mem_cons_of_mem _ (List.mem_cons_self ..)) listens

end Sys2Proof.Machine

end

section
/-!
PROOFS. The commands of the video input, and its lines, runs and timing codes (sections 2.4 to 2.8, 10.1 to 10.3).
-/

namespace Sys2Proof.Machine

set_option Elab.async false

/-! ### An event before a completion -/

/-- What the handling of events may change of HIF. -/
def EventSide (h k : Hif) : Prop := ∃ ring cause lost, k = { h with event := ring, causeEvent := cause, overrun := lost }

theorem EventSide.trans {a b c : Hif} (h : EventSide a b) (k : EventSide b c) : EventSide a c := by
  obtain ⟨_, _, _, rfl⟩ := h
  obtain ⟨_, _, _, rfl⟩ := k
  exact ⟨_, _, _, rfl⟩

theorem putEvent_side (e : Event) (s : State) : EventSide s.hif (putEvent e s).hif := by
  cases event : s.hif.event with
  | none => rw [putEvent, event]; exact ⟨_, _, _, rfl⟩
  | some r => rw [putEvent_eq e event]; exact ⟨_, _, _, rfl⟩

theorem putOverrun_side (s : State) : EventSide s.hif (putOverrun s).hif := by
  unfold putOverrun
  split
  · split
    · exact .trans ⟨_, _, _, rfl⟩ (putEvent_side _ _)
    · exact ⟨_, _, _, rfl⟩
  · exact ⟨_, _, _, rfl⟩

theorem writeEvent_side (e : Event) (s : State) : EventSide s.hif (writeEvent e s).hif := by
  unfold writeEvent
  split
  · exact ⟨_, _, _, rfl⟩
  · refine (putOverrun_side s).trans ?_
    unfold writeOrCount
    split
    · split
      · exact putEvent_side e _
      · exact ⟨_, _, _, rfl⟩
    · exact ⟨_, _, _, rfl⟩

/-- A command stays pending while an event is handled. -/
theorem State.Pending.afterEvent {s : State} {h : Handle} {c : RecordRing} (p : s.Pending h c) (e : Event) :
    (writeEvent e s).Pending h c := by
  obtain ⟨settled, writes, comp, held⟩ := p
  obtain ⟨ring, cause, lost, side⟩ := writeEvent_side e s
  obtain ⟨hif, out, only⟩ := writeEvent_hifOnly e s
  refine ⟨by rw [only]; exact settled, ?_, ?_, ?_⟩ <;> rw [side]
  · exact writes
  · exact comp
  · exact held

/-- A row that posts an event and then completes a pending command. -/
theorem done_post_complete {s : State} {h : Handle} {c : RecordRing} (p : s.Pending h c) (o o' : Owner) (st : Status)
    (a b : Word) (e : Event) :
    done (complete o' h st a b (post o e s)) = .next ((writeEvent e s).completed c h st a b) := by
  have same : { s with handed := [] } = s := by rw [← p.settled]
  rw [done, finishInOrder_eq, complete_handed, post_handed, p.settled]
  simp only [List.nil_append, List.cons_append, List.foldl_cons, List.foldl_nil, deliver]
  rw [← writeCompletion_pending st a b (p.afterEvent e)]
  exact congrArg (fun t => Host.Outcome.next (writeCompletion h st a b (writeEvent e t))) same

/-! ### LOAD-FORMAT-ENTRY (R38) -/

theorem formatEntryOk_iff (code : Nat) (clear : Bool) (e : FormatEntry) : formatEntryOk code clear e = true ↔
    25 ≤ code ∧ code ≤ 32 ∧ (clear = true ∨ (2 ≤ e.ht ∧ e.ht ≤ 8191 ∧ 2 ≤ e.vt ∧ e.vt ≤ 4095 ∧ 1 ≤ e.ha ∧ e.ha < e.ht
      ∧ 1 ≤ e.va ∧ e.va < e.vt ∧ 12000 ≤ e.rate ∧ e.rate ≤ 240000 ∧ e.ht * e.vt * e.rate ≤ 300000000 * 1000)) := by
  simp [formatEntryOk, and_assoc]

section
variable {s : State}

theorem reclassify_unlocked (h : s.fmon.monitor ≠ .locked) : reclassify s = s := by
  unfold reclassify
  split
  · contradiction
  · rfl

theorem reclassify_same {r : Measurement} (held : s.fmon.reference = some r)
    (same : (classify s.fmon r).code = s.fmon.geometry.code) : reclassify s = s := by
  unfold reclassify
  split
  · next e =>
    cases held.symm.trans e
    exact if_pos same
  · rfl

theorem reclassify_other {r : Measurement} (locked : s.fmon.monitor = .locked) (held : s.fmon.reference = some r)
    (other : (classify s.fmon r).code ≠ s.fmon.geometry.code) :
    reclassify s = postLocked { s with fmon := { s.fmon with geometry := classify s.fmon r } } := by
  simp [reclassify, locked, held, other]

/-! ### SET-PIXEL-INPUT (R35, R158) -/

theorem modeOf_code {b : Byte} {m : InputMode} (spelt : modeOf b = some m) : m.code = b.toNat := by
  unfold modeOf at spelt
  split at spelt <;> simp_all <;> subst spelt <;> rfl

theorem methodOf_code {b : Byte} {c : ChromaMethod} (spelt : methodOf b = some c) : c.code = b.toNat := by
  unfold methodOf at spelt
  split at spelt <;> simp_all <;> subst spelt <;> rfl

theorem fmonModeChange_noSignal (h : s.fmon.monitor = .noSignal) : fmonModeChange s = restartLearning s := by
  simp [fmonModeChange, h]

theorem fmonModeChange_other (h : s.fmon.monitor ≠ .noSignal) : fmonModeChange s =
    restartLearning { s with fmon := { s.fmon with
      monitor := .acquiring, measuring := none, reference := none, equalCount := 0, activity := some s.now
      lossReport := s.fmon.lossReport || decide (s.fmon.monitor = .locked) } } := by
  unfold fmonModeChange
  split
  · contradiction
  · rfl

end

section
variable {s : State} {g : Ring} {c : RecordRing}

theorem exec_loadFormatEntry (f : s.Fetching controlRing g c) (tag : HostTag) (code : Byte) (clear il : Bool)
    (ht ha vt va : Half) (rate : Word) : exec (.loadFormatEntry tag code clear il ht ha vt va rate) s =
      done (loadFormat (s.takenAs controlRing g tag) code.toNat clear
        ⟨ht.toNat, ha.toNat, vt.toNat, va.toNat, il, rate.toNat⟩ (s.taken controlRing g tag)) :=
  congrArg done (f.takeFrom tag _)

theorem exec_setPixelInput (f : s.Fetching streamRing g c) (tag : HostTag) (mode method : Byte) :
    exec (.setPixelInput tag mode method) s =
      done (match modeOf mode, methodOf method with
        | some m, some k => setPixelInput (s.takenAs streamRing g tag) m k (s.taken streamRing g tag)
        | _, _ => complete .pxp (s.takenAs streamRing g tag) .badParam 0 0 (s.taken streamRing g tag)) :=
  congrArg done (f.takeFrom tag _)

end

/-- Settles O40: LOAD-FORMAT-ENTRY by its checks and by whether the reference's code changes, SET-PIXEL-INPUT by the
monitor's state. -/
theorem inputCommands : Obligations.InputCommands := by
  refine ⟨fun s g c tag code clear il ht ha vt va rate f => ?load, fun s g c tag mode method f => ?mode⟩
  case load =>
    intro h s1 run good entry f1
    have p : s1.Pending h c := f.pending tag
    let e : FormatEntry := ⟨ht.toNat, ha.toNat, vt.toNat, va.toNat, il, rate.toNat⟩
    have ok : formatEntryOk code.toNat clear e = true ↔ good := formatEntryOk_iff _ _ _
    have run_ : run = done (loadFormat h code.toNat clear e s1) := exec_loadFormatEntry f tag code clear il ht ha vt va rate
    have loads : good → run = done (complete .fmon h .ok (word code.toNat)
        (word (reclassify { s1 with fmon := f1 }).fmon.geometry.code) (reclassify { s1 with fmon := f1 })) := fun g =>
      run_.trans (congrArg done (if_pos (ok.2 g)))
    refine ⟨fun bad => ?_, fun g unlocked => ?_, fun r g locked held => ⟨fun same => ?_, fun other => ?_⟩⟩
    · exact run_.trans ((congrArg done (if_neg (ok.not.2 bad))).trans (done_complete .fmon .badParam 0 0 p))
    · rw [loads g, reclassify_unlocked (s := { s1 with fmon := f1 }) unlocked]
      exact done_complete (s := { s1 with fmon := f1 }) .fmon .ok _ _ ⟨p.settled, p.writes, p.comp, p.held⟩
    · rw [loads g, reclassify_same (s := { s1 with fmon := f1 }) held same]
      exact done_complete (s := { s1 with fmon := f1 }) .fmon .ok _ _ ⟨p.settled, p.writes, p.comp, p.held⟩
    · rw [loads g, reclassify_other (s := { s1 with fmon := f1 }) locked held other]
      exact done_post_complete (s := { s1 with
        fmon := { f1 with geometry := classify f1 r }, ses := { s1.ses with formatDrop := true } })
        ⟨p.settled, p.writes, p.comp, p.held⟩ .fmon .fmon .ok _ _ _
  case mode =>
    intro h s1 run
    have p : s1.Pending h c := f.pending tag
    have run_ := exec_setPixelInput f tag mode method
    refine ⟨fun bad => ?_, fun m k spelt spelt' => ?_⟩
    · refine run_.trans ?_
      rcases bad with none_ | none_
      · rw [none_]
        exact done_complete .pxp .badParam 0 0 p
      · rw [none_]
        cases modeOf mode <;> exact done_complete .pxp .badParam 0 0 p
    · intro learned p1 w
      rw [spelt, spelt'] at run_
      have word_ : word (m.code + 2 ^ 8 * k.code) = w := by rw [modeOf_code spelt, methodOf_code spelt']
      refine ⟨fun quiet => ?_, fun loud => ?_⟩
      · have e := fmonModeChange_noSignal (s := { s1 with pxp := p1 }) quiet
        refine run_.trans ((congrArg done ?_).trans (done_complete (s := { s1 with pxp := p1, fmon := learned })
          .pxp .ok s.fmon.fsn w ⟨p.settled, p.writes, p.comp, p.held⟩))
        rw [← word_]
        exact congrArg (complete .pxp h .ok s.fmon.fsn _) e
      · have e := fmonModeChange_other (s := { s1 with pxp := p1 }) loud
        refine run_.trans ((congrArg done ?_).trans (done_complete (s := { s1 with
          pxp := p1
          fmon := { learned with
            monitor := .acquiring, measuring := none, reference := none, equalCount := 0, activity := some s.now
            lossReport := s.fmon.lossReport || decide (s.fmon.monitor = MonitorState.locked) } })
          .pxp .ok s.fmon.fsn w ⟨p.settled, p.writes, p.comp, p.held⟩))
        rw [← word_]
        exact congrArg (complete .pxp h .ok s.fmon.fsn _) e

/-! ### Lines and runs (R30, R159) -/

theorem endLine_eq (o : OpenMeasurement) : o.endLine = if o.lineHa = 0 then o else { o with
    ha := some (o.ha.getD o.lineHa), lineHa := 0
    differed := o.differed || decide (o.ha.getD o.lineHa ≠ o.lineHa) } := by
  unfold OpenMeasurement.endLine
  cases h : o.ha <;> simp [OpenMeasurement.activeLine, noteLength, h]

section
variable {s : State} {w : PixelWords}

theorem seeRun_empty (none_ : w.words = []) : seeRun w s = { s with pxp := { s.pxp with cut := false, newFrame := false } } := by
  rw [seeRun, none_]
  rfl

theorem seeRun_words (some_ : w.words ≠ []) : seeRun w s =
    let run := s.pxp.run ++ w.words.drop (earlyWords w s)
    { s with
      fmon := { s.fmon with measuring := s.fmon.measuring.map (·.addRun (w.words.length - oldWords w s)) }
      pxp := { s.pxp with run := run, pixelCount := min 8191 run.length, cut := false, newFrame := false } } :=
  if_neg (by simpa using some_)

theorem closeRun_open (open_ : s.pxp.lineOpen = true) : closeRun s = { s with pxp := { s.pxp with
    picture := if s.pxp.source = .input ∧ s.pxp.picture.length = s.pxp.lineCount
      then s.pxp.picture.dropLast ++ [shownRun s s.pxp.run] else s.pxp.picture
    pixelCount := 0 } } := by
  simp [closeRun, open_]

theorem closeRun_first (first : s.pxp.lineOpen = false) : closeRun s = { s with pxp := { s.pxp with
    picture := if s.pxp.source = .input ∧ s.pxp.lineCount < s.fmon.geometry.va
      then s.pxp.picture ++ [shownRun s s.pxp.run] else s.pxp.picture
    lineCount := min 4095 (s.pxp.lineCount + 1), pixelCount := 0, lineOpen := true } } := by
  simp [closeRun, first, endRun]

/-- The end of a run, the first one of its line or not. -/
theorem closeRun_eq (s : State) : closeRun s = { s with pxp := { s.pxp with
    picture := if s.pxp.lineOpen then
        if s.pxp.source = .input ∧ s.pxp.picture.length = s.pxp.lineCount
          then s.pxp.picture.dropLast ++ [shownRun s s.pxp.run] else s.pxp.picture
      else if s.pxp.source = .input ∧ s.pxp.lineCount < s.fmon.geometry.va
        then s.pxp.picture ++ [shownRun s s.pxp.run] else s.pxp.picture
    lineCount := if s.pxp.lineOpen then s.pxp.lineCount else min 4095 (s.pxp.lineCount + 1)
    pixelCount := 0, lineOpen := true } } := by
  cases h : s.pxp.lineOpen with
  | true =>
    rw [closeRun_open h]
    simp [← h]
  | false =>
    rw [closeRun_first h]
    rfl

/-- What a run shows rests on the geometry alone of FMON. -/
theorem closeRun_levels (level : Option Level) (since : Option Nat) (s : State) :
    closeRun { s with fmon := { s.fmon with hLevel := level, sinceLine := since } } =
      { closeRun s with fmon := { s.fmon with hLevel := level, sinceLine := since } } := by
  rw [closeRun_eq, closeRun_eq]
  rfl

/-- An edge of PX_HS between two assertions parts their lines while no level is known (log entry 11). -/
theorem mayStartLine_parts (unknown : s.fmon.hLevel = none) : mayStartLine false s = { s with
    fmon := { s.fmon with measuring := s.fmon.measuring.map OpenMeasurement.endLine }
    pxp := { s.pxp with run := [], pixelCount := 0, lineOpen := false } } :=
  if_neg (by simp [unknown])

theorem mayStartLine_stays {asserted : Bool} (h : asserted = true ∨ s.fmon.hLevel ≠ none) : mayStartLine asserted s = s :=
  if_pos (by rcases h with h | h <;> simp [h, Option.isSome_iff_ne_none])

theorem seeLine_few {edge : LineEdge} {high low : Nat} {t : State}
    (e : mayStartLine (!edge.run.words.isEmpty) (seeRun edge.run s) = t) (few : t.fmon.hEdges < 2) :
    seeLine edge high low s = { t with fmon := { t.fmon with hEdges := t.fmon.hEdges + 1 } } := by
  simp only [seeLine, e, few, if_true]

theorem seeLine_level {edge : LineEdge} {high low : Nat} {t : State}
    (e : mayStartLine (!edge.run.words.isEmpty) (seeRun edge.run s) = t) (many : 2 ≤ t.fmon.hEdges)
    (other : t.fmon.hLevel = none ∨ edge.level ≠ activeLevel high low) : seeLine edge high low s =
      { t with fmon := { t.fmon with
        hLevel := some (activeLevel high low)
        sinceLine := t.fmon.sinceLine.map (· + sinceEdge edge.level high low) } } := by
  simp only [seeLine, e, if_neg (show ¬ t.fmon.hEdges < 2 by omega)]
  exact if_neg (by rcases other with h | h <;> simp [h])

theorem seeLine_starts {edge : LineEdge} {high low : Nat} {t : State}
    (e : mayStartLine (!edge.run.words.isEmpty) (seeRun edge.run s) = t) (many : 2 ≤ t.fmon.hEdges)
    (known : t.fmon.hLevel ≠ none) (same : edge.level = activeLevel high low) : seeLine edge high low s =
      startLine (!edge.run.words.isEmpty) { t with fmon := { t.fmon with
        hLevel := some (activeLevel high low)
        sinceLine := t.fmon.sinceLine.map (· + sinceEdge edge.level high low) } } := by
  simp only [seeLine, e, if_neg (show ¬ t.fmon.hEdges < 2 by omega)]
  exact if_pos (by simp [same, Option.isSome_iff_ne_none, known])

end

/-- A line start in an open measurement, the line before it n pixel periods long. -/
def OpenMeasurement.newLine (n : Option Nat) (o : OpenMeasurement) : OpenMeasurement :=
  { o.endLine with
    vt := o.vt + 1, ht := if o.ht.isSome then o.ht else n
    differed := o.endLine.differed || decide (o.ht.isSome ∧ n.isSome ∧ o.ht ≠ n) }

theorem measureLine_eq (n : Option Nat) (s : State) : measureLine n s = { s with fmon := { s.fmon with
    measuring := s.fmon.measuring.map (·.newLine n), prevLine := if n.isSome then n else s.fmon.prevLine } } := by
  have each : ∀ o : OpenMeasurement, ({ o.endLine with
      vt := o.endLine.vt + 1
      ht := if o.endLine.ht.isSome then o.endLine.ht else n
      differed := o.endLine.differed || (match n with
        | some k => noteLength o.endLine.ht k
        | none => false) } : OpenMeasurement) = o.newLine n := by
    intro o
    have kept : o.endLine.vt = o.vt ∧ o.endLine.ht = o.ht := by
      rw [endLine_eq]
      split <;> exact ⟨rfl, rfl⟩
    rw [kept.1, kept.2]
    unfold OpenMeasurement.newLine
    cases n with
    | none => simp
    | some k => cases o.ht <;> simp [noteLength]
  exact congrArg (fun f => ({ s with fmon := { s.fmon with
    measuring := s.fmon.measuring.map f, prevLine := if n.isSome then n else s.fmon.prevLine } } : State)) (funext each)

theorem startLine_eq (asserted : Bool) (s : State) : startLine asserted s =
    let t := if asserted then closeRun s else s
    { t with
      fmon := { t.fmon with
        measuring := t.fmon.measuring.map (·.newLine s.fmon.sinceLine)
        prevLine := if s.fmon.sinceLine.isSome then s.fmon.sinceLine else t.fmon.prevLine
        sinceLine := some 0 }
      pxp := { t.pxp with run := [], pixelCount := 0, lineOpen := false } } := by
  simp only [startLine, measureLine_eq]
  rfl

/-- Settles O41: the run by whether words came, the edge by how many came before it and where it leads. -/
theorem linesAndRuns : Obligations.LinesAndRuns := by
  intro s level high low w settled sync l n old early periods ended measured line run seen shown picture lines fresh parted
  have ended_eq : ended = OpenMeasurement.endLine := funext fun o => (endLine_eq o).symm
  have see : seeRun w s = seen := by
    by_cases none_ : w.words = []
    · rw [seeRun_empty none_]
      exact (if_pos none_).symm
    · rw [seeRun_words none_]
      exact (if_neg none_).symm
  have seen_hEdges : seen.fmon.hEdges = s.fmon.hEdges := by rw [← see]; unfold seeRun; split <;> rfl
  have seen_hLevel : seen.fmon.hLevel = s.fmon.hLevel := by rw [← see]; unfold seeRun; split <;> rfl
  have seen_since : seen.fmon.sinceLine = s.fmon.sinceLine := by rw [← see]; unfold seeRun; split <;> rfl
  have seen_prev : seen.fmon.prevLine = s.fmon.prevLine := by rw [← see]; unfold seeRun; split <;> rfl
  have seen_handed : seen.handed = [] := by rw [← see]; unfold seeRun; split <;> exact settled
  have close : w.words ≠ [] → closeRun seen = { seen with pxp := { seen.pxp with
      picture := picture, lineCount := lines, pixelCount := 0, lineOpen := true } } := by
    intro some_
    have e : seen = _ := if_neg some_
    rw [closeRun_eq, e]
    rfl
  have may : mayStartLine (!w.words.isEmpty) (seeRun w s) = parted := by
    rw [see]
    by_cases none_ : w.words = [] ∧ s.fmon.hLevel = none
    · obtain ⟨empty, unknown⟩ := none_
      have e : parted = _ := if_pos ⟨empty, unknown⟩
      have first := mayStartLine_parts (s := seen) (seen_hLevel.trans unknown)
      rw [e, empty]
      have same : seen.fmon = s.fmon := by rw [show seen = _ from if_pos empty]
      rw [same] at first
      rw [ended_eq]
      exact first
    · have e : parted = seen := if_neg none_
      rw [e]
      exact mayStartLine_stays (by
        rw [seen_hLevel]
        by_cases empty : w.words = []
        · exact .inr fun u => none_ ⟨empty, u⟩
        · exact .inl (by simpa using empty))
  have parted_hEdges : parted.fmon.hEdges = s.fmon.hEdges := by
    simp only [parted]
    split
    · rfl
    · exact seen_hEdges
  have parted_hLevel : parted.fmon.hLevel = s.fmon.hLevel := by
    simp only [parted]
    split
    · rfl
    · exact seen_hLevel
  have parted_since : parted.fmon.sinceLine = s.fmon.sinceLine := by
    simp only [parted]
    split
    · rfl
    · exact seen_since
  have parted_handed : parted.handed = [] := by
    simp only [parted]
    split <;> exact seen_handed
  have line_ : exec (.lineStart ⟨level, w⟩ high low) s = done (seeLine ⟨level, w⟩ high low s) :=
    congrArg done (if_neg (by simp [sync]))
  have since : s.fmon.sinceLine.map (· + sinceEdge level high low) = n := by cases level <;> rfl
  refine ⟨fun some_ => ?_, fun few => ?_, fun many other => ?_, fun many known same => ?_⟩
  · have e : exec (.activeRunEnd w) s = done (closeRun (seeRun w s)) := congrArg done (if_neg (by simp [sync]))
    rw [e, see]
    exact done_of_eq (close some_) seen_handed
  · have e := seeLine_few (edge := ⟨level, w⟩) (high := high) (low := low) may (by rw [parted_hEdges]; exact few)
    rw [parted_hEdges] at e
    exact line_.trans (done_of_eq e parted_handed)
  · have e := seeLine_level (edge := ⟨level, w⟩) (high := high) (low := low) may (by rw [parted_hEdges]; exact many)
      (by rw [parted_hLevel]; exact other)
    rw [parted_since, since] at e
    exact line_.trans (done_of_eq e parted_handed)
  · have stays : parted = seen := if_neg fun u => known u.2
    have e := seeLine_starts (edge := ⟨level, w⟩) (high := high) (low := low) (may.trans stays)
      (by rw [seen_hEdges]; exact many) (by rw [seen_hLevel]; exact known) same
    rw [seen_since, since, startLine_eq] at e
    have lined : (fun o => OpenMeasurement.newLine n o) = line := by
      funext o
      simp only [OpenMeasurement.newLine, line, ended_eq]
    have prev : (if n.isSome then n else seen.fmon.prevLine) = if n.isSome then n else s.fmon.prevLine := by rw [seen_prev]
    refine ⟨fun empty => ?_, fun some_ => ?_⟩
    · simp only [empty, List.isEmpty_nil, Bool.not_true, Bool.false_eq_true, if_false, prev, lined] at e
      exact line_.trans (done_of_eq e seen_handed)
    · simp only [closeRun_levels, close some_, show (!w.words.isEmpty) = true by simpa using some_, if_true, prev, lined] at e
      exact line_.trans (done_of_eq e seen_handed)

/-! ### Timing codes (R160, R161) -/

theorem mem_allFlags (c : CodeFlags) : c ∈ allFlags := by
  obtain ⟨f, v, h⟩ := c
  cases f <;> cases v <;> cases h <;> decide

/-- The patterns lie at least three bits apart, so that one bit is corrected. -/
theorem decodeFlags_near : ∀ b : Byte, ∀ c ∈ allFlags, popCount 8 (b ^^^ c.pattern) ≤ 1 → decodeFlags b = some c := by
  decide +kernel

theorem decodeFlags_far {b : Byte} (far : ∀ c : CodeFlags, 2 ≤ popCount 8 (b ^^^ c.pattern)) : decodeFlags b = none :=
  List.find?_eq_none.2 fun c _ => by simpa [Nat.lt_iff_add_one_le] using far c

theorem decodeFlags_ones : decodeFlags 0xFF = none := by decide +kernel

/-- The luma word at a place, and 1 past the end. -/
def lumaAt (mode : InputMode) (ws : List Sample) (k : Nat) : Nat := (ws[k]?.map (rawLuma mode)).getD 1

/-- A timing code begins at a place (R160). -/
def codeBegins (mode : InputMode) (ws : List Sample) (k : Nat) : Prop :=
  k + 3 < ws.length ∧ lumaAt mode ws k = lumaOnes mode ∧ lumaAt mode ws (k + 1) = 0 ∧ lumaAt mode ws (k + 2) = 0

theorem codeAt_some {mode : InputMode} {ws : List Sample} {flag : BitVec 10} (found : codeAt mode ws = some flag) :
    codeBegins mode ws 0 ∧ flag = BitVec.ofNat 10 (lumaAt mode ws 3) := by
  unfold codeAt at found
  split at found
  · split at found
    · next a b c d rest luma =>
      obtain ⟨ones, first, second⟩ := luma
      simp only [Option.some.injEq] at found
      exact ⟨⟨by simp, by simpa [lumaAt] using ones, by simpa [lumaAt] using first, by simpa [lumaAt] using second⟩,
        by simpa [lumaAt] using found.symm⟩
    · contradiction
  · contradiction

theorem codeAt_none {mode : InputMode} {ws : List Sample} (nothing : codeAt mode ws = none) : ¬ codeBegins mode ws 0 := by
  rintro ⟨long, ones, first, second⟩
  match ws, long with
  | a :: b :: c :: d :: rest, _ =>
    simp only [lumaAt, List.getElem?_cons_zero, List.getElem?_cons_succ, Option.map_some, Option.getD_some] at ones first second
    simp [codeAt, ones, first, second] at nothing

theorem codeBegins_cons {mode : InputMode} {x : Sample} {ws : List Sample} {k : Nat} :
    codeBegins mode (x :: ws) (k + 1) ↔ codeBegins mode ws k := by
  have long : k + 1 + 3 < (x :: ws).length ↔ k + 3 < ws.length := by
    rw [List.length_cons]
    omega
  exact and_congr_left' long

/-- The first code is found, and the words before it hold none. -/
theorem firstCode_some {mode : InputMode} {ws : List Sample} {flag : BitVec 10} (found : (firstCode mode ws).2 = some flag) :
    let n := (firstCode mode ws).1.length
    (firstCode mode ws).1 = ws.take n ∧ codeBegins mode ws n ∧ flag = BitVec.ofNat 10 (lumaAt mode ws (n + 3))
      ∧ ∀ k < n, ¬ codeBegins mode ws k := by
  induction ws with
  | nil => simp [firstCode] at found
  | cons w ws ih =>
    unfold firstCode at found ⊢
    cases at_ : codeAt mode (w :: ws) with
    | some flag' =>
      rw [at_] at found
      obtain ⟨begins, flag_⟩ := codeAt_some at_
      cases found
      exact ⟨rfl, begins, flag_, fun k lt => absurd lt (Nat.not_lt_zero k)⟩
    | none =>
      rw [at_] at found
      obtain ⟨taken, begins, flag_, before⟩ := ih found
      refine ⟨by simpa using taken, codeBegins_cons.2 begins, by simpa [lumaAt] using flag_, fun k lt => ?_⟩
      cases k with
      | zero => exact codeAt_none at_
      | succ k => exact codeBegins_cons.not.2 (before k (by simpa using lt))

theorem firstCode_none {mode : InputMode} {ws : List Sample} (nothing : (firstCode mode ws).2 = none) :
    (firstCode mode ws).1 = ws ∧ ∀ k < ws.length, ¬ codeBegins mode ws k := by
  induction ws with
  | nil => exact ⟨rfl, fun k lt => absurd lt (Nat.not_lt_zero k)⟩
  | cons w ws ih =>
    unfold firstCode at nothing ⊢
    cases at_ : codeAt mode (w :: ws) with
    | some flag => simp [at_] at nothing
    | none =>
      rw [at_] at nothing
      obtain ⟨all, none_⟩ := ih nothing
      refine ⟨by simp [all], fun k lt => ?_⟩
      cases k with
      | zero => exact codeAt_none at_
      | succ k => exact codeBegins_cons.not.2 (none_ k (by simpa using lt))

/-! ### The words of a TIMING_CODE row (R159 to R161) -/

section
variable {s : State}

theorem takeWords_eq (ws : List Sample) (s : State) : ∃ count, takeWords ws s = { s with pxp := { s.pxp with
    run := s.pxp.run ++ (if s.pxp.active && s.pxp.pictureMark then ws else []), pixelCount := count } } := by
  by_cases pixels : (s.pxp.active && s.pxp.pictureMark) = true
  · exact ⟨_, by rw [takeWords, if_pos pixels, if_pos pixels]⟩
  · exact ⟨s.pxp.pixelCount, by rw [takeWords, if_neg pixels, if_neg pixels, List.append_nil]⟩

theorem passPeriods_zero (s : State) : passPeriods 0 s = s := by
  simp [passPeriods]

/-- With nothing left the scan leaves all but a count of pixels. -/
theorem scanCodes_nil (n skip : Nat) (s : State) :
    ∃ count, scanCodes (n + 1) false skip [] s = { s with pxp := { s.pxp with pixelCount := count } } := by
  obtain ⟨count, e⟩ := takeWords_eq [] s
  refine ⟨count, ?_⟩
  have words : takeWords [] s = { s with pxp := { s.pxp with pixelCount := count } } := by
    rw [e, ite_self, List.append_nil]
  simp only [scanCodes, firstCode, List.length_nil, List.drop_nil, words, passPeriods_zero]
  rfl

/-- A flag word of all ones at the end waits for the words after it. -/
theorem scanCodes_held (n skip : Nat) (x : Sample) (s : State) :
    scanCodes (n + 1) true skip [x] s = { s with pxp := { s.pxp with lastFlag := some x } } := by
  simp [scanCodes, firstCode, codeAt]

/-- The words before the code have been taken. -/
def contentTaken (n : Nat) (content : List Sample) (count : Nat) (s : State) : State :=
  { s with
    fmon := { s.fmon with sinceLine := s.fmon.sinceLine.map (· + n), sinceSav := s.fmon.sinceSav.map (· + n) }
    pxp := { s.pxp with
      cut := false, newFrame := false, lastFlag := none, run := s.pxp.run ++ content, pixelCount := count } }

/-- The words that the row has to look at, its own behind one that waits from the row before. -/
def codeWords (w : PixelWords) (last : Sample) (s : State) : List Sample :=
  s.pxp.lastFlag.toList ++ (w.words ++ [last]).drop (oldWords w s)

/-- The pixels among the words before the code. -/
def codeContent (w : PixelWords) (last : Sample) (n : Nat) (s : State) : List Sample :=
  if s.pxp.active && s.pxp.pictureMark then
    ((codeWords w last s).take n).drop (s.pxp.lastFlag.toList.length + ((if s.pxp.newFrame then w.early else 0) - oldWords w s))
  else []

section
variable {s : State} {w : PixelWords} {last : Sample} {flag : BitVec 10} {n : Nat}
  (found : firstCode s.pxp.mode (codeWords w last s) = ((codeWords w last s).take n, some flag))
  (only : n = (codeWords w last s).length - 4)
include found only

theorem codeWords_length : (codeWords w last s).length = n + 4 := by
  obtain ⟨-, ⟨long, -⟩, -⟩ := firstCode_some (mode := s.pxp.mode) (ws := codeWords w last s) (flag := flag) (by rw [found])
  rw [found] at long
  simp only [List.length_take] at long
  omega

theorem codeWords_last : (codeWords w last s).drop (n + 3) = [last] := by
  have length := codeWords_length found only
  have few : s.pxp.lastFlag.toList.length ≤ 1 := by cases s.pxp.lastFlag <;> simp
  have kept : oldWords w s ≤ w.words.length := by
    simp only [codeWords, List.length_append, List.length_drop, List.length_singleton] at length
    omega
  have split : codeWords w last s = (s.pxp.lastFlag.toList ++ w.words.drop (oldWords w s)) ++ [last] := by
    rw [codeWords, List.drop_append_of_le_length kept, List.append_assoc]
  rw [split] at length ⊢
  refine List.drop_left' ?_
  rw [List.length_append, List.length_singleton] at length
  omega

/-- The scan of the row: the words before the code, then the code. -/
theorem timingCode_eq : ∃ count skip, timingCode w last s =
    let t := contentTaken n (codeContent w last n s) count s
    if flag.toNat = lumaOnes s.pxp.mode then scanCodes (n + 3) true skip [last] (passPeriods 3 (codeError t))
    else scanCodes (n + 3) false skip [] (flagWord flag t) := by
  have length := codeWords_length found only
  have taken : ((codeWords w last s).take n).length = n := by rw [List.length_take, length]; omega
  have none_left : (codeWords w last s).drop (n + 4) = [] := List.drop_eq_nil_of_le length.le
  let s0 : State := { s with pxp := { s.pxp with cut := false, newFrame := false, lastFlag := none } }
  let skip := earlyWords w s - oldWords w s + s.pxp.lastFlag.toList.length
  have held : max skip (bitAt 0 s.pxp.lastFlag.isSome) =
      s.pxp.lastFlag.toList.length + ((if s.pxp.newFrame then w.early else 0) - oldWords w s) := by
    have bit : bitAt 0 s.pxp.lastFlag.isSome = s.pxp.lastFlag.toList.length := by cases s.pxp.lastFlag <;> rfl
    simp only [skip, earlyWords, bit]
    omega
  obtain ⟨count, words⟩ := takeWords_eq (((codeWords w last s).take n).drop (max skip (bitAt 0 s.pxp.lastFlag.isSome))) s0
  have step : passPeriods n (takeWords (((codeWords w last s).take n).drop
      (max skip (bitAt 0 s.pxp.lastFlag.isSome))) s0) = contentTaken n (codeContent w last n s) count s := by
    rw [words, held]
    rfl
  have run : timingCode w last s = scanCodes (n + 4) s.pxp.lastFlag.isSome skip (codeWords w last s) s0 := by
    rw [← length]
    rfl
  refine ⟨count, if flag.toNat = lumaOnes s.pxp.mode then skip - (n + 3) else skip - (n + 4), ?_⟩
  rw [run, scanCodes]
  simp only [show firstCode s0.pxp.mode (codeWords w last s) = _ from found, taken, step, codeWords_last found only, none_left]
  by_cases ones : flag.toNat = lumaOnes s.pxp.mode
  · simp [ones, s0]
  · simp [ones, s0]

end

end

/-- A flag word of all ones. -/
theorem flag_ones_iff (mode : InputMode) (flag : BitVec 10) :
    flag.toNat = lumaOnes mode ↔ flag = BitVec.ofNat 10 (lumaOnes mode) := by
  have small : lumaOnes mode < 2 ^ 10 := by cases mode <;> decide
  rw [← BitVec.toNat_inj, BitVec.toNat_ofNat, Nat.mod_eq_of_lt small]

/-- It is no pattern's. -/
theorem decodeFlags_flag_ones {mode : InputMode} {flag : BitVec 10} (ones : flag.toNat = lumaOnes mode) :
    decodeFlags (flagByte mode flag) = none := by
  obtain rfl := (flag_ones_iff mode flag).1 ones
  have byte : flagByte mode (BitVec.ofNat 10 (lumaOnes mode)) = 0xFF := by cases mode <;> decide
  rw [byte, decodeFlags_ones]

/-- The number of active pixels of a line is known at its end-of-active code. -/
def OpenMeasurement.activeEnd (n : Option Nat) (o : OpenMeasurement) : OpenMeasurement :=
  match n with
  | some k => o.activeLine k
  | none => o

/-- The end of a line of the embedded-code modes in an open measurement. -/
theorem newLine_activeEnd {o : OpenMeasurement} (flat : o.lineHa = 0) (ht ha : Option Nat) :
    let o1 := (o.newLine ht).activeEnd ha
    o1.vt = o.vt + 1 ∧ o1.va = o.va ∧ o1.ht = (if o.ht.isSome then o.ht else ht)
      ∧ o1.ha = (if o.ha.isSome then o.ha else ha)
      ∧ o1.differed = (o.differed || ht.any (fun p => o.ht.any (· ≠ p)) || ha.any (fun p => o.ha.any (· ≠ p))) := by
  have ended : o.endLine = o := if_pos flat
  have ht_ : decide (o.ht.isSome ∧ ht.isSome ∧ o.ht ≠ ht) = ht.any (fun p => o.ht.any (· ≠ p)) := by
    cases ht <;> cases o.ht <;> simp
  have line : o.newLine ht = { o with
      vt := o.vt + 1, ht := if o.ht.isSome then o.ht else ht
      differed := o.differed || ht.any (fun p => o.ht.any (· ≠ p)) } := by
    rw [OpenMeasurement.newLine, ended, ht_]
  rw [line]
  cases ha with
  | none => cases o.ha <;> simp [OpenMeasurement.activeEnd]
  | some k => cases o.ha <;> simp [OpenMeasurement.activeEnd, OpenMeasurement.activeLine, noteLength]

/-- An uncorrectable code counts while a measurement is open, and the fourth marks it. -/
theorem codeError_spec (s : State) : ∃ errors reported measuring, codeError s = { s with
      fmon := { s.fmon with measuring := measuring }
      pxp := { s.pxp with codeErrors := errors, errorReported := reported } }
    ∧ (s.fmon.measuring = none → errors = s.pxp.codeErrors)
    ∧ (∀ o, s.fmon.measuring = some o → errors = min 255 (s.pxp.codeErrors + 1)
      ∧ (3 ≤ s.pxp.codeErrors → s.pxp.errorReported = false →
        reported = true ∧ measuring = some { o with invalid := true })) := by
  cases open_ : s.fmon.measuring with
  | none =>
    exact ⟨s.pxp.codeErrors, s.pxp.errorReported, s.fmon.measuring, if_neg (by simp [open_]), fun _ => rfl,
      fun o e => by simp at e⟩
  | some o =>
    let s1 : State := { s with pxp := { s.pxp with codeErrors := min 255 (s.pxp.codeErrors + 1) } }
    have counts : codeError s = codeErrorReport s1 := if_pos (by simp [open_])
    by_cases fourth : 3 ≤ s.pxp.codeErrors ∧ s.pxp.errorReported = false
    · obtain ⟨three, fresh⟩ := fourth
      have four : 4 ≤ min 255 (s.pxp.codeErrors + 1) := by omega
      refine ⟨min 255 (s.pxp.codeErrors + 1), true, some { o with invalid := true }, ?_, fun e => by simp at e,
        fun o' e => ?_⟩
      · rw [counts, codeErrorReport, if_pos (by simp [s1, fresh, four])]
        simp only [markInvalid, s1, open_, Option.map_some]
      · cases e
        exact ⟨rfl, fun _ _ => ⟨rfl, rfl⟩⟩
    · refine ⟨min 255 (s.pxp.codeErrors + 1), s.pxp.errorReported, s.fmon.measuring, ?_, fun e => by simp at e,
        fun o' e => ?_⟩
      · refine counts.trans (if_neg fun report => fourth ?_)
        simp only [Bool.and_eq_true, decide_eq_true_eq, Bool.not_eq_true', s1] at report
        exact ⟨by omega, report.2⟩
      · cases e
        exact ⟨rfl, fun three fresh => absurd ⟨three, fresh⟩ fourth⟩

section
variable {s : State} {c : CodeFlags}

theorem fmonEndCode_eq (s : State) : fmonEndCode s = { s with fmon := { s.fmon with
    measuring := s.fmon.measuring.map fun o => (o.newLine s.fmon.sinceLine).activeEnd s.fmon.sinceSav
    prevLine := if s.fmon.sinceLine.isSome then s.fmon.sinceLine else s.fmon.prevLine
    sinceLine := some 0, sinceSav := none } } := by
  unfold fmonEndCode
  rw [measureLine_eq]
  cases s.fmon.sinceSav with
  | none => rfl
  | some k => simp [measureActive, OpenMeasurement.activeEnd, Function.comp_def]

/-- A start-of-active code. -/
theorem goodCode_start (start : c.h = false) : goodCode c s = { s with
    fmon := { s.fmon with
      sinceLine := s.fmon.sinceLine.map (· + 4), sinceSav := if c.v then none else some 0
      measuring := s.fmon.measuring.map fun o => { o with va := o.va + bitAt 0 (!c.v) }
      codeV := some c.v
      boundaryDue := if s.fmon.codeV = some false ∧ c.v = true then some c.f else s.fmon.boundaryDue }
    pxp := { s.pxp with active := true, pictureMark := !c.v } } := by
  cases v : c.v <;> simp [goodCode, start, v, seeVertical, pxpStartCode, fmonStartCode, passPeriods, countActive, bitAt]

/-- An end-of-active code. -/
theorem goodCode_end (end_ : c.h = true) : goodCode c s = { s with
    fmon := { s.fmon with
      sinceLine := some 4, sinceSav := none
      prevLine := if s.fmon.sinceLine.isSome then s.fmon.sinceLine else s.fmon.prevLine
      measuring := s.fmon.measuring.map fun o => (o.newLine s.fmon.sinceLine).activeEnd s.fmon.sinceSav
      codeV := some c.v
      boundaryDue := if s.fmon.codeV = some false ∧ c.v = true then some c.f else s.fmon.boundaryDue }
    pxp := { (if s.pxp.pictureMark then (endRun s.pxp.run s).pxp else s.pxp) with active := false, pictureMark := false } } := by
  simp only [goodCode, end_, if_true, fmonEndCode_eq]
  cases mark : s.pxp.pictureMark <;> simp [seeVertical, passPeriods, pxpEndCode, mark, endRun, shownRun]

end

/-- Settles O42: the decoding by the distance of the patterns, the search by induction over the words, the row by the
flags of its code. -/
theorem timingCodes : Obligations.TimingCodes := by
  refine ⟨fun b => ⟨fun c near => decodeFlags_near b c (mem_allFlags c) near, decodeFlags_far⟩, fun mode ws => ?_, ?_⟩
  · intro width luma code found
    have luma_ : ∀ k, luma k = lumaAt mode ws k := fun k => by
      refine congrArg (Option.getD · 1) (congrArg (Option.map · ws[k]?) (funext fun x => ?_))
      cases mode <;> rfl
    have ones : 2 ^ width - 1 = lumaOnes mode := by cases mode <;> rfl
    have code_ : ∀ k, code k ↔ codeBegins mode ws k := fun k => by
      simp only [code, codeBegins, luma_, ones]
    simp only [code_, luma_]
    exact ⟨fun flag => firstCode_some, firstCode_none⟩
  · intro s w last flag settled embedded old early held ws n content found
    have row : exec (.timingCode w last) s = done (timingCode w last s) := congrArg done (if_pos embedded)
    obtain ⟨count, skip, scanned⟩ := timingCode_eq (n := n) found rfl
    have content_ : codeContent w last n s = content := rfl
    rw [content_] at scanned
    refine ⟨fun c good => ?_, fun bad => ?_⟩
    · have not_ones : flag.toNat ≠ lumaOnes s.pxp.mode := fun ones => by
        rw [decodeFlags_flag_ones ones] at good
        contradiction
      have word : flagWord flag (contentTaken n content count s) = goodCode c (contentTaken n content count s) := by
        simp [flagWord, contentTaken, good]
      obtain ⟨count', nil_⟩ := scanCodes_nil (n + 2) skip (goodCode c (contentTaken n content count s))
      dsimp only at scanned
      rw [if_neg not_ones, word, nil_] at scanned
      cases h : c.h with
      | false =>
        rw [goodCode_start h] at scanned
        refine ⟨_, row.trans (done_of_eq scanned settled), rfl, rfl, rfl, rfl, rfl, rfl, rfl, rfl, rfl, fun zero v => ?_,
          fun other => ?_, fun e => absurd e (by decide), fun _ => ⟨rfl, rfl⟩, ?_, rfl, fun o open_ flat => ?_⟩
        · exact if_pos ⟨zero, v⟩
        · exact if_neg fun k => other.elim (fun a => a k.1) fun a => by simp [k.2] at a
        · simp [contentTaken, Function.comp_def]
        · exact ⟨_, congrArg (Option.map _) open_, rfl, rfl, fun _ => ⟨rfl, rfl, rfl⟩, fun e => absurd e (by decide)⟩
      | true =>
        rw [goodCode_end h] at scanned
        refine ⟨_, row.trans (done_of_eq scanned settled), rfl, rfl, rfl, ?_, ?_, ?_, rfl, rfl, rfl, fun zero v => ?_,
          fun other => ?_, fun _ mark => ?_, fun e => absurd e (by decide), rfl, rfl, fun o open_ flat => ?_⟩
        · dsimp only
          split <;> rfl
        · dsimp only
          split <;> rfl
        · dsimp only
          split <;> rfl
        · exact if_pos ⟨zero, v⟩
        · exact if_neg fun k => other.elim (fun a => a k.1) fun a => by simp [k.2] at a
        · have marked : (contentTaken n content count s).pxp.pictureMark = true := mark
          dsimp only
          rw [if_pos marked]
          refine ⟨rfl, rfl, ?_⟩
          by_cases shows : s.pxp.source = .input ∧ s.pxp.lineCount < s.fmon.geometry.va
          · rw [if_pos shows]
            exact if_pos (by rw [Bool.and_eq_true, decide_eq_true_eq, decide_eq_true_eq]; exact shows)
          · rw [if_neg shows, List.append_nil]
            exact if_neg (by rw [Bool.and_eq_true, decide_eq_true_eq, decide_eq_true_eq]; exact shows)
        · obtain ⟨vt, va, ht, ha, differed⟩ := newLine_activeEnd flat (s.fmon.sinceLine.map (· + n)) (s.fmon.sinceSav.map (· + n))
          exact ⟨_, congrArg (Option.map _) open_, vt, va, fun e => absurd e (by decide), fun _ => ⟨ht, ha, differed⟩⟩
    · have unreadable : ∀ t : State, t.pxp.mode = s.pxp.mode → flagWord flag t = passPeriods 4 (codeError t) := fun t mode => by
        simp [flagWord, mode, bad]
      obtain ⟨errors, reported, measuring, error, none_, some_⟩ := codeError_spec (contentTaken n content count s)
      dsimp only at scanned
      by_cases ones : flag = BitVec.ofNat 10 (lumaOnes s.pxp.mode)
      · rw [if_pos ((flag_ones_iff _ _).2 ones), scanCodes_held, error] at scanned
        refine ⟨_, row.trans (done_of_eq scanned settled), rfl, rfl, rfl, rfl, rfl, rfl, rfl, rfl, (if_pos ones).symm, ?_, ?_,
          none_, some_⟩
        · simp [if_pos ones, passPeriods, contentTaken, Function.comp_def, Nat.add_assoc]
        · simp [if_pos ones, passPeriods, contentTaken, Function.comp_def, Nat.add_assoc]
      · obtain ⟨count', nil_⟩ := scanCodes_nil (n + 2) skip (flagWord flag (contentTaken n content count s))
        rw [if_neg ((flag_ones_iff _ _).not.2 ones), nil_, unreadable (contentTaken n content count s) rfl, error] at scanned
        refine ⟨_, row.trans (done_of_eq scanned settled), rfl, rfl, rfl, rfl, rfl, rfl, rfl, rfl, (if_neg ones).symm, ?_, ?_,
          none_, some_⟩
        · simp [if_neg ones, passPeriods, contentTaken, Function.comp_def, Nat.add_assoc]
        · simp [if_neg ones, passPeriods, contentTaken, Function.comp_def, Nat.add_assoc]

end Sys2Proof.Machine

end

section
/-!
PROOFS. The standing table's commands, the audio port, SEND and CANCEL (sections 7.3, 8.1, 8.6, 9).
-/

namespace Sys2Proof.Machine

set_option Elab.async false

/-! ### The audio port (R146, R149, R153, R154) -/

section
variable {s : State} {f : AudioFormat} {w : RateWindow}

theorem AudioState.keeps_iff (a : AudioState) : a.keeps = true ↔ a = .filling ∨ a = .flowing := by
  cases a <;> simp [AudioState.keeps]

theorem countEdge_eq (window : s.ain.window = some w) :
    countEdge s = { s with ain := { s.ain with window := some { w with edges := w.edges + 1 } } } := by
  simp [countEdge, window]

theorem beginCapture_first (on : s.ain.audio ≠ .off) (idle : s.ain.capturing = false) :
    beginCapture s = countEdge { s with ain := { s.ain with capturing := true } } :=
  if_neg (by simp [on, idle])

theorem groupComplete_kept (format : s.ain.format = some f) (capturing : s.ain.capturing = true)
    (keeps : s.ain.audio = .filling ∨ s.ain.audio = .flowing) (halves : List (List Bool)) :
    groupComplete halves s = joinFifo f (groupOf f halves) (countEdge s) := by
  have on : s.ain.audio ≠ .off := by rcases keeps with e | e <;> simp [e]
  simp [groupComplete, format, capturing, on, (AudioState.keeps_iff _).2 keeps]

theorem groupComplete_halted (format : s.ain.format = some f) (capturing : s.ain.capturing = true)
    (halted : s.ain.audio = .halted) (halves : List (List Bool)) : groupComplete halves s = countEdge s := by
  simp [groupComplete, format, capturing, halted, AudioState.keeps]

theorem windowEnd_eq (window : s.ain.window = some w) (format : s.ain.format = some f) : windowEnd s =
    judgeWindow f w.edges { s with
      now := max s.now (w.start + 270000), ain := { s.ain with window := some ⟨w.start + 270000, 0⟩ } } := by
  simp [windowEnd, window, format, advanceTo, windowTicks]

theorem rateMatches_iff (declared measured : Nat) : rateMatches declared measured = true ↔
    (declared - measured + (measured - declared)) * 50 ≤ declared := by simp [rateMatches]

theorem judgeWindow_kept {edges : Nat} (keeps : s.ain.audio = .filling ∨ s.ain.audio = .flowing) :
    judgeWindow f edges s = if rateMatches f.rate (edges * 100) then s
      else post .ain (.audioRateMismatch s.ain.audio f.rate (edges * 100))
        (emptyFifo { s with ain := { s.ain with audio := .halted } }) :=
  if_pos ((AudioState.keeps_iff _).2 keeps)

theorem judgeWindow_whileHalted {edges : Nat} (halted : s.ain.audio = .halted) :
    judgeWindow f edges s = if rateMatches f.rate (edges * 100) then
        post .ain (.audioRateRestored f.rate (edges * 100))
          { s with ain := { s.ain with audio := .filling, capturing := false } }
      else s := by
  simp [judgeWindow, halted, AudioState.keeps]

end

/-- Settles O60: an edge by the capture and audio states, a window by the rate that it measures. -/
theorem audioPort : Obligations.AudioPort := by
  intro s f w settled format window on edge keeps
  have counted : countEdge s = { s with ain := edge } := countEdge_eq window
  refine ⟨fun idle => ?_, fun capturing => ?_, fun halves capturing => ?_, ?_⟩
  · exact done_of_eq ((beginCapture_first on idle).trans (countEdge_eq (by exact window))) settled
  · exact done_of_eq (if_pos (.inr capturing)) settled
  · intro run group
    have joins : keeps → run = done (joinFifo f group { s with ain := edge }) := fun k =>
      congrArg done ((groupComplete_kept format capturing k halves).trans (congrArg (joinFifo f group) counted))
    have full : 8192 ≤ s.ain.fifo.length → ¬ edge.fifo.length < fifoMax := fun many => Nat.not_lt.2 many
    refine ⟨fun k room => ?_, fun k many armed => ?_, fun k many quiet => ?_, fun halted => ?_⟩
    · exact (joins k).trans (done_of_eq (if_pos (by exact room)) settled)
    · refine (joins k).trans ((congrArg done ((if_neg (full many)).trans (if_pos (by exact armed)))).trans ?_)
      exact done_post (s := { s with ain := { edge with armed := false } }) .ain _ settled
    · exact (joins k).trans (done_of_eq ((if_neg (full many)).trans (if_neg (by simp [edge, quiet]))) settled)
    · exact done_of_eq ((groupComplete_halted format capturing halted halves).trans counted) settled
  · intro m at_ next near
    have judged : exec .rateCheckWindowEnd s = done (judgeWindow f w.edges next) := congrArg done (windowEnd_eq window format)
    have settled' : next.handed = [] := settled
    refine ⟨fun k n => ?_, fun k n => ?_, fun k n => ?_, fun k n => ?_⟩
    · exact judged.trans (done_of_eq ((judgeWindow_kept (s := next) k).trans (if_pos ((rateMatches_iff _ _).2 n))) settled')
    · refine judged.trans ((congrArg done ((judgeWindow_kept (s := next) k).trans
        (if_neg ((rateMatches_iff _ _).not.2 n)))).trans ?_)
      exact done_post (s := { next with ain := { next.ain with audio := .halted, fifo := [], armed := true } }) .ain _ settled'
    · exact judged.trans (done_of_eq ((judgeWindow_whileHalted (s := next) k).trans
        (if_neg ((rateMatches_iff _ _).not.2 n))) settled')
    · refine judged.trans ((congrArg done ((judgeWindow_whileHalted (s := next) k).trans
        (if_pos ((rateMatches_iff _ _).2 n)))).trans ?_)
      exact done_post (s := { next with ain := { next.ain with audio := .filling, capturing := false } }) .ain _ settled'

/-! ### The standing table (R119 to R121) -/

section
variable {s : State}

theorem standingWork_bad {h : Handle} {index enable period phase kind len : Byte} {addr : Addr}
    (bad : ¬ (2 ≤ index.toNat ∧ index.toNat ≤ 15) ∨ (enable ≠ 0 ∧ ¬ (enable = 1 ∧ 1 ≤ period.toNat
      ∧ phase.toNat < period.toNat ∧ 1 ≤ len.toNat ∧ len.toNat ≤ 112))) :
    standingWork h index enable period phase kind addr len = none := by
  unfold standingWork
  split
  · rfl
  · next here =>
    obtain ⟨set, off⟩ := bad.resolve_left (by omega)
    rw [if_neg set, if_neg off]

theorem standingWork_on {h : Handle} {index enable period phase kind len : Byte} {addr : Addr}
    (there : 2 ≤ index.toNat ∧ index.toNat ≤ 15) (on : enable = 1 ∧ 1 ≤ period.toNat ∧ phase.toNat < period.toNat
      ∧ 1 ≤ len.toNat ∧ len.toNat ≤ 112) : standingWork h index enable period phase kind addr len =
      some ⟨h, index.toNat, true, period.toNat, phase.toNat, kind, addr, len.toNat⟩ := by
  rw [standingWork, if_neg (by omega), if_neg (by rw [on.1]; decide), if_pos on]

theorem standingWork_off {h : Handle} {index enable period phase kind len : Byte} {addr : Addr}
    (there : 2 ≤ index.toNat ∧ index.toNat ≤ 15) (off : enable = 0) :
    standingWork h index enable period phase kind addr len = some ⟨h, index.toNat, false, 1, 0, 0, addr, 0⟩ := by
  rw [standingWork, if_neg (by omega), if_pos off]

/-- The work list rests while it is empty, its head needs a read, or one is in progress (R120). -/
theorem standingOn_rests (rests : s.stt.work = [] ∨ (∃ w ∈ s.stt.work.head?, w.enabled = true) ∨ s.stt.reading = true) :
    standingOn s = s := by
  unfold standingOn
  cases work : s.stt.work with
  | nil => rfl
  | cons w ws =>
    rw [List.length_cons, workStanding, work]
    refine if_pos ?_
    rcases rests with e | ⟨w', head, enabled⟩ | reading
    · simp [work] at e
    · rw [work] at head
      cases head
      simp [enabled]
    · simp [reading]

/-- A disable at the head is stored at once (R120). -/
theorem standingOn_disable {w : StandingWork} {ws : List StandingWork} (work : s.stt.work = w :: ws)
    (off : w.enabled = false) (idle : s.stt.reading = false) : standingOn s =
      workStanding ws.length (storeStanding w [] { s with stt := { s.stt with work := ws } }) := by
  rw [standingOn, work, List.length_cons, workStanding, work]
  exact if_neg (by simp [off, idle])

/-- An entry with a record of the work list. -/
def StandingEntry.holding (e : StandingEntry) (w : StandingWork) (payload : List Byte) : StandingEntry :=
  { e with pending := some ⟨w.enabled, w.period, w.phase, w.kind, payload, w.handle⟩ }

/-- A record stored. -/
def storedStanding (w : StandingWork) (payload : List Byte) (s : State) : State :=
  { s with stt := { s.stt with
    entries := s.stt.entries.set w.index ((s.stt.entries.getD w.index StandingEntry.empty).holding w payload) } }

theorem storeStanding_free {w : StandingWork} {payload : List Byte}
    (free : (s.stt.entries.getD w.index StandingEntry.empty).pending = none) :
    storeStanding w payload s = storedStanding w payload s := by
  simp only [storeStanding, free]
  rfl

theorem storeStanding_over {w : StandingWork} {payload : List Byte} {p : PendingStanding}
    (held : (s.stt.entries.getD w.index StandingEntry.empty).pending = some p) :
    storeStanding w payload s = complete .stt p.handle .superseded 0 0 (storedStanding w payload s) := by
  simp only [storeStanding, held]
  rfl

theorem endStandingRead_good {w : StandingWork} {ws : List StandingWork} (work : s.stt.work = w :: ws)
    (reading : s.stt.reading = true) {d : List Byte} (length : d.length = w.len) : endStandingRead (some d) s =
      standingOn (storeStanding w d { s with stt := { s.stt with work := ws, reading := false } }) := by
  simp only [endStandingRead, work, reading, if_true, readData, length]

theorem endStandingRead_failed {w : StandingWork} {ws : List StandingWork} (work : s.stt.work = w :: ws)
    (reading : s.stt.reading = true) : endStandingRead none s =
      standingOn (complete .stt w.handle .hostReadError 0 0
        { s with stt := { s.stt with work := ws, reading := false } }) := by
  simp only [endStandingRead, work, reading, if_true, readData]

end

theorem exec_setStanding {s : State} {g : Ring} {c : RecordRing} (f : s.Fetching streamRing g c) (tag : HostTag)
    (index enable period phase kind : Byte) (addr : Addr) (len : Byte) :
    exec (.setStanding tag index enable period phase kind addr len) s =
      done (match standingWork (s.takenAs streamRing g tag) index enable period phase kind addr len with
        | some w => joinStanding w (s.taken streamRing g tag)
        | none => complete .stt (s.takenAs streamRing g tag) .badParam 0 0 (s.taken streamRing g tag)) :=
  congrArg done (f.takeFrom tag _)

/-- Settles O56: the take by the checks and the work list's head, the read's end by what comes behind it. -/
theorem standingTable : Obligations.StandingTable := by
  refine ⟨fun s g c tag index enable period phase kind addr len f => ?take,
    fun s w ws settled work on idle => ?start, fun s c w ws p work reading => ?ends⟩
  case take =>
    intro h s1 run there e stored on
    have p : s1.Pending h c := f.pending tag
    have run_ : run = _ := exec_setStanding f tag index enable period phase kind addr len
    have waits : ∀ w : StandingWork, (s.stt.work = [] ∧ w.enabled = true ∨ (∃ w ∈ s.stt.work.head?, w.enabled = true)
        ∨ s.stt.reading = true) → joinStanding w s1 = { s1 with stt := { s1.stt with work := s.stt.work ++ [w] } } := by
      intro w rests
      refine standingOn_rests ?_
      rcases rests with ⟨empty, enabled⟩ | ⟨w', head, enabled⟩ | reading
      · exact .inr (.inl ⟨w, by simp [s1, empty], enabled⟩)
      · exact .inr (.inl ⟨w', by rw [List.head?_append, show s1.stt.work.head? = some w' from head]; rfl, enabled⟩)
      · exact .inr (.inr reading)
    refine ⟨fun bad => ?_, fun here enables rests => ?_, fun here disables rests => ?_, fun here disables empty idle => ?_⟩
    · rw [run_, standingWork_bad bad]
      exact done_complete .stt .badParam 0 0 p
    · rw [run_, standingWork_on here enables]
      exact done_of_eq (waits _ (rests.imp_left fun e => ⟨e, rfl⟩)) p.settled
    · rw [run_, standingWork_off here disables]
      exact done_of_eq (waits _ (.inr rests)) p.settled
    · rw [standingWork_off here disables] at run_
      let w : StandingWork := ⟨h, index.toNat, false, 1, 0, 0, addr, 0⟩
      have stores : joinStanding w s1 = storeStanding w [] s1 := by
        have empty' : s1.stt.work = [] := empty
        have e := standingOn_disable (s := { s1 with stt := { s1.stt with work := s1.stt.work ++ [w] } }) (w := w) (ws := [])
          (by simp [empty']) rfl idle
        have same : ({ s1 with stt := { s1.stt with work := [] } } : State) = s1 := by rw [← empty']
        exact e.trans (congrArg (storeStanding w []) same)
      refine ⟨fun free => ?_, fun old held inFlight => ?_⟩
      · rw [run_]
        exact done_of_eq (stores.trans (storeStanding_free (s := s1) free)) p.settled
      · rw [run_]
        exact done_older .stt .superseded (stores.trans (storeStanding_over (s := s1) held))
          ⟨p.settled, p.writes, p.comp, (f.pendingOlder tag inFlight).held⟩
  case start =>
    have e : startStandingRead s = emit (.hostRead w.addr w.len) { s with stt := { s.stt with reading := true } } := by
      simp [startStandingRead, work, on, idle]
    exact done_of_eq e settled
  case ends =>
    intro s1 settled e stored
    have p1 : s1.Pending w.handle c := ⟨p.settled, p.writes, p.comp, p.held⟩
    have rests : settled → ∀ t : State, t.stt.work = ws → standingOn t = t := fun next t work => by
      refine standingOn_rests ?_
      rw [work]
      cases ws with
      | nil => exact .inl rfl
      | cons w1 ws => exact .inr (.inl ⟨w1, rfl, next w1 rfl⟩)
    refine ⟨fun next => ?_, fun d next length free => ?_, fun d old next length held inFlight => ?_,
      ?behind⟩
    · have e := (endStandingRead_failed work reading).trans (rests next _ rfl)
      exact (congrArg done e).trans (done_complete .stt .hostReadError 0 0 p1)
    · have e := (endStandingRead_good work reading length).trans (congrArg standingOn (storeStanding_free (s := s1) free))
      exact done_of_eq (e.trans (rests next _ rfl)) p.settled
    · have e := (endStandingRead_good work reading length).trans (congrArg standingOn (storeStanding_over (s := s1) held))
      exact done_older .stt .superseded (e.trans (rests next _ rfl)) ⟨p.settled, p.writes, p.comp, inFlight⟩
    · intro d w1 one off other length free e1 free1
      have e := (endStandingRead_good work reading length).trans (congrArg standingOn (storeStanding_free (s := s1) free))
      let t : State := { storedStanding w d s1 with stt := { (storedStanding w d s1).stt with work := [] } }
      have behind : t.stt.entries.getD w1.index StandingEntry.empty = e1 := by
        simp [t, storedStanding, List.getD_eq_getElem?_getD, List.getElem?_set_ne (Ne.symm other), e1, s1]
      have second := standingOn_disable (s := storedStanding w d s1) (w := w1) (ws := []) one off rfl
      have store : storeStanding w1 [] t = storedStanding w1 [] t := storeStanding_free (by rw [behind]; exact free1)
      have stands := e.trans (second.trans store)
      rw [storedStanding, behind, StandingEntry.holding, off] at stands
      exact done_of_eq stands p.settled

/-! ### SEND (R126, R128) -/

section
variable {s : State} {h : Handle} {index cls len : Byte} {bc ack : Bool} {deadline : Half} {sn : Serial} {addr : Addr}

theorem classOf_isSome (b : Byte) : (classOf b).isSome = true ↔ b.toNat ≤ 2 := by
  unfold classOf
  split
  · next e => simp [e]
  · next e => simp [e]
  · next e => simp [e]
  · next zero one two =>
    have : b.toNat ≠ 0 ∧ b.toNat ≠ 1 ∧ b.toNat ≠ 2 := ⟨zero, one, two⟩
    simp
    omega

/-- The checks that SEND's fields must pass (R126). -/
def sendShaped (index cls len : Byte) (bc ack : Bool) : Prop :=
  cls.toNat ≤ 2 ∧ ¬ (ack = true ∧ bc = true) ∧ 1 ≤ len.toNat ∧ len.toNat ≤ 112 ∧ (bc = false → index.toNat ≤ 63)

theorem sendShaped_iff (index len : Byte) (bc ack : Bool) (few : cls.toNat ≤ 2) : sendShaped index cls len bc ack ↔
    ¬ ((ack && bc) || !decide (1 ≤ len.toNat ∧ len.toNat ≤ 112) || (!bc && decide (63 < index.toNat))) = true := by
  cases bc <;> cases ack <;> simp [sendShaped, few, and_assoc, Nat.one_le_iff_ne_zero]

/-- The target that SEND names is there (R126). -/
theorem targetHeld_iff (s : State) (i : Nat) (sn : Serial) (bc : Bool) :
    targetHeld s (if bc then .broadcast else .tile i sn) = true ↔
      bc = true ∨ ((entryAt s i).state = .active ∧ (entryAt s i).serial = sn) := by
  cases bc <;> simp [targetHeld, Entry.isActive]

theorem SessionState.takesPackets_iff (x : SessionState) :
    x.takesPackets = true ↔ x = .ready ∨ x = .carrying ∨ x = .quiet := by
  cases x <;> simp [SessionState.takesPackets]

theorem takeSend_misshaped (bad : ¬ sendShaped index cls len bc ack) :
    takeSend h index bc ack cls deadline sn addr len s = complete .apq h .badParam 0 0 s := by
  unfold takeSend
  dsimp only
  split
  · rfl
  · next k spelt =>
    have few : cls.toNat ≤ 2 := (classOf_isSome cls).1 (by simp [spelt])
    rw [sendShaped_iff index len bc ack few, not_not] at bad
    exact if_pos bad

theorem takeSend_shaped {k : PacketClass} (shaped : sendShaped index cls len bc ack) (spelt : classOf cls = some k) :
    takeSend h index bc ack cls deadline sn addr len s =
      if !s.ses.session.takesPackets then complete .apq h .notReady 0 0 s
      else if !targetHeld s (if bc then .broadcast else .tile index.toNat sn) then complete .apq h .targetGone 0 0 s
      else { s with apq := { s.apq with fetching := s.apq.fetching ++
        [newPacket h (if bc then .broadcast else .tile index.toNat sn) k ack deadline addr len.toNat s] } } := by
  have few : cls.toNat ≤ 2 := (classOf_isSome cls).1 (by simp [spelt])
  simp only [takeSend, spelt]
  exact if_neg ((sendShaped_iff index len bc ack few).1 shaped)

/-! ### CANCEL (R139) -/

theorem earliest_spec : ∀ l : List (Packet × HeldPlace),
    (earliest l = none → l = []) ∧ ∀ x, earliest l = some x → x ∈ l ∧ ∀ y ∈ l, x.1.handle.id ≤ y.1.handle.id := by
  intro l
  induction l with
  | nil => simp [earliest]
  | cons x xs ih =>
    obtain ⟨none_, some_⟩ := ih
    unfold earliest
    cases rest : earliest xs with
    | none =>
      rw [none_ rest]
      simp
    | some y =>
      obtain ⟨mem, least⟩ := some_ y rest
      by_cases lt : y.1.handle.id < x.1.handle.id
      · simp only [lt, if_true, reduceCtorEq, false_implies, Option.some.injEq, true_and]
        rintro _ rfl
        refine ⟨List.mem_cons_of_mem _ mem, fun z hz => ?_⟩
        rcases List.mem_cons.1 hz with rfl | hz
        · exact lt.le
        · exact least z hz
      · simp only [lt, if_false, reduceCtorEq, false_implies, Option.some.injEq, true_and]
        rintro _ rfl
        refine ⟨List.mem_cons_self .., fun z hz => ?_⟩
        rcases List.mem_cons.1 hz with rfl | hz
        · exact le_rfl
        · exact (Nat.not_lt.1 lt).trans (least z hz)

theorem heldPackets_packets (q : Apq) : (heldPackets q).map (·.1) = q.sends := by
  unfold heldPackets Apq.sends
  cases q.fetching <;> simp [Function.comp_def]

/-- The SEND that CANCEL finds. -/
theorem namedSend_eq {q : Apq} {target : HostTag} {p : Packet} {place : HeldPlace} (held : (p, place) ∈ heldPackets q)
    (named : p.handle.tag = target) (least : ∀ r ∈ q.sends, r.handle.tag = target → p.handle.id ≤ r.handle.id)
    (nodup : (q.sends.map (·.handle.id)).Nodup) : namedSend q target = some (p, place) := by
  have mem : (p, place) ∈ (heldPackets q).filter (fun x => decide (x.1.handle.tag = target)) :=
    List.mem_filter.2 ⟨held, by simpa using named⟩
  obtain ⟨none_, some_⟩ := earliest_spec ((heldPackets q).filter (fun x => decide (x.1.handle.tag = target)))
  unfold namedSend
  cases found : earliest ((heldPackets q).filter (fun x => decide (x.1.handle.tag = target))) with
  | none => rw [none_ found] at mem; simp at mem
  | some x =>
    obtain ⟨x_mem, x_least⟩ := some_ x found
    obtain ⟨x_held, x_named⟩ := List.mem_filter.1 x_mem
    have x_sent : x.1 ∈ q.sends := heldPackets_packets q ▸ List.mem_map_of_mem x_held
    have same : x.1.handle.id = p.handle.id :=
      Nat.le_antisymm (x_least _ mem) (least x.1 x_sent (by simpa using x_named))
    have ids : ((heldPackets q).map (·.1.handle.id)).Nodup := by
      rw [← heldPackets_packets, List.map_map] at nodup
      exact nodup
    rw [List.inj_on_of_nodup_map ids x_held held same]

theorem namedSend_none {q : Apq} {target : HostTag} (nobody : ∀ p ∈ q.sends, p.handle.tag ≠ target) :
    namedSend q target = none := by
  have empty : (heldPackets q).filter (fun x => decide (x.1.handle.tag = target)) = [] := by
    refine List.filter_eq_nil_iff.2 fun x hx => ?_
    simpa using nobody x.1 (heldPackets_packets q ▸ List.mem_map_of_mem hx)
  rw [namedSend, empty]
  rfl

/-- A row that completes two pending commands. -/
theorem done_two_completions {k : Handle} {c : RecordRing} (p : s.Pending h c) (held : k ∈ s.hif.inFlight) (ne : k ≠ h)
    (o o' : Owner) (st st' : Status) (a b a' b' : Word) : done (complete o' k st' a' b' (complete o h st a b s)) =
      .next ((s.completed c h st a b).completed c.advance k st' a' b') := by
  have same : { s with handed := [] } = s := by rw [← p.settled]
  have later : (s.completed c h st a b).Pending k c.advance :=
    ⟨p.settled, p.writes, rfl, (List.mem_erase_of_ne ne).2 held⟩
  rw [done, finishInOrder_eq, complete_handed, complete_handed, p.settled]
  simp only [List.nil_append, List.cons_append, List.foldl_cons, List.foldl_nil, deliver]
  rw [← writeCompletion_pending st' a' b' later, ← writeCompletion_pending st a b p]
  exact congrArg (fun t => Host.Outcome.next (writeCompletion k st' a' b' (writeCompletion h st a b t))) same

end

theorem exec_send {s : State} {g : Ring} {c : RecordRing} (f : s.Fetching dispatchRing g c) (tag : HostTag)
    (index : Byte) (bc ack : Bool) (cls : Byte) (deadline : Half) (sn : Serial) (addr : Addr) (len : Byte) :
    exec (.send tag index bc ack cls deadline sn addr len) s =
      done (takeSend (s.takenAs dispatchRing g tag) index bc ack cls deadline sn addr len (s.taken dispatchRing g tag)) :=
  congrArg done (f.takeFrom tag _)

theorem exec_cancel {s : State} {g : Ring} {c : RecordRing} (f : s.Fetching controlRing g c) (tag target : HostTag) :
    exec (.cancel tag target) s =
      done (takeCancel (s.takenAs controlRing g tag) target (s.taken controlRing g tag)) :=
  congrArg done (f.takeFrom tag _)

/-- Settles O57: SEND by its checks, its payload's end by the mark, CANCEL by the place of the earliest SEND held. -/
theorem addressedCommands : Obligations.AddressedCommands := by
  refine ⟨fun s g c tag index bc ack cls deadline sn addr len f => ?send, fun s p ps settled fetching idle => ?start,
    fun s c p ps pend fetching reading => ?ends, fun s g c tag target f => ?cancel⟩
  case send =>
    intro h s1 run refused e shaped up there
    have p : s1.Pending h c := f.pending tag
    have run_ : run = _ := exec_send f tag index bc ack cls deadline sn addr len
    have class_ : shaped → ∃ k, classOf cls = some k := fun ok =>
      Option.isSome_iff_exists.1 ((classOf_isSome cls).2 ok.1)
    refine ⟨fun bad => ?_, fun ok down => ?_, fun ok ready gone => ?_, fun k ok ready here spelt => ?_⟩
    · refine run_.trans ?_
      rw [takeSend_misshaped bad]
      exact done_complete .apq .badParam 0 0 p
    · obtain ⟨k, spelt⟩ := class_ ok
      refine run_.trans ?_
      rw [takeSend_shaped ok spelt, if_pos (by simpa using (SessionState.takesPackets_iff _).not.2 down)]
      exact done_complete .apq .notReady 0 0 p
    · obtain ⟨k, spelt⟩ := class_ ok
      refine run_.trans ?_
      rw [takeSend_shaped ok spelt, if_neg (by simpa using (SessionState.takesPackets_iff _).2 ready),
        if_pos (by simpa using (targetHeld_iff s1 index.toNat sn bc).not.2 gone)]
      exact done_complete .apq .targetGone 0 0 p
    · rw [run_, takeSend_shaped ok spelt, if_neg (by simpa using (SessionState.takesPackets_iff _).2 ready),
        if_neg (by simpa using (targetHeld_iff s1 index.toNat sn bc).2 here)]
      exact done_of_eq rfl p.settled
  case start =>
    have e : startSendRead s = emit (.hostRead p.addr p.len) { s with apq := { s.apq with reading := true } } := by
      simp [startSendRead, fetching, idle]
    exact done_of_eq e settled
  case ends =>
    intro s1
    have p1 : s1.Pending p.handle c := ⟨pend.settled, pend.writes, pend.comp, pend.held⟩
    refine ⟨fun live => ?_, fun d st marked => ?_, fun d live length => ?_⟩
    · have e : endSendRead none s = finishPacket p .hostReadError s1 := by
        simp [endSendRead, fetching, reading, live, readData, s1]
      exact (congrArg done e).trans (done_complete .apq .hostReadError _ _ p1)
    · have e : endSendRead d s = finishPacket p st s1 := by
        simp [endSendRead, fetching, reading, marked, s1]
      exact (congrArg done e).trans (done_complete .apq st _ _ p1)
    · have e : endSendRead (some d) s = joinTail { p with payload := d } s1 := by
        simp [endSendRead, fetching, reading, live, readData, length, s1]
      refine (congrArg done e).trans (done_of_eq ?_ pend.settled)
      cases p.cls <;> simp [joinTail, setQueue, queueOf, s1]
  case cancel =>
    intro h s1 run
    have p : s1.Pending h c := f.pending tag
    have run_ : run = _ := exec_cancel f tag target
    refine ⟨fun nobody => ?_, fun q mem named least nodup => ?_⟩
    · have e : takeCancel h target s1 = complete .apq h .notFound 0 0 s1 := by
        rw [takeCancel, namedSend_none (q := s1.apq) nobody]
      exact run_.trans ((congrArg done e).trans (done_complete .apq .notFound 0 0 p))
    · intro without ends
      have found : ∀ place, (q, place) ∈ heldPackets s.apq → namedSend s1.apq target = some (q, place) :=
        fun place held => namedSend_eq held named least nodup
      have leaves : ∀ place : HeldPlace, (place = .fetchWaiting ∨ place = .queue) → (q, place) ∈ heldPackets s.apq →
          q.handle ∈ s.hif.inFlight → q.handle ≠ h → ends (word place.code) := by
        intro place which held inFlight ne
        have drops : dropQueued q.handle.id s1.apq = { s1.apq with
            fetching := without s.apq.fetching, urgent := without s.apq.urgent, normal := without s.apq.normal
            bulk := without s.apq.bulk } := by
          simp [dropQueued, without, s1]
        have e : takeCancel h target s1 = complete .apq h .ok (word place.code) (word q.cls.code)
            (finishPacket q .cancelled { s1 with apq := dropQueued q.handle.id s1.apq }) := by
          rw [takeCancel, found place held]
          rcases which with rfl | rfl <;> rfl
        rw [drops] at e
        refine run_.trans ((congrArg done e).trans ?_)
        have older : q.handle ∈ s1.hif.inFlight := by simp [s1, State.taken, inFlight]
        exact done_two_completions (s := { s1 with apq := { s1.apq with
          fetching := without s.apq.fetching, urgent := without s.apq.urgent, normal := without s.apq.normal
          bulk := without s.apq.bulk } }) ⟨p.settled, p.writes, p.comp, older⟩ p.held ne.symm .apq .apq .cancelled .ok ..
      refine ⟨fun awaits => ?_, fun ps fetching reading => ?_, fun waits => ?_, fun queued => ?_⟩
      · have e : takeCancel h target s1 = complete .apq h .tooLate (word 3) (word q.cls.code) s1 := by
          rw [takeCancel, found .awaiting (by simp [heldPackets, awaits])]
          rfl
        exact run_.trans ((congrArg done e).trans (done_complete .apq .tooLate _ _ p))
      · have e : takeCancel h target s1 = complete .apq h .ok (word 1) (word q.cls.code)
            { s1 with apq := markHead .cancelled s1.apq } := by
          rw [takeCancel, found .fetchReading (by simp [heldPackets, fetching, reading])]
          rfl
        have marks : markHead .cancelled s1.apq = { s1.apq with fetching := { q with cancel := some .cancelled } :: ps } := by
          simp [markHead, s1, fetching]
        rw [marks] at e
        exact run_.trans ((congrArg done e).trans (done_complete .apq .ok _ _ ⟨p.settled, p.writes, p.comp, p.held⟩))
      · refine leaves .fetchWaiting (.inl rfl) ?_
        unfold heldPackets
        cases fetching : s.apq.fetching with
        | nil => simp [fetching] at waits
        | cons x xs => cases reading : s.apq.reading <;> simp_all
      · exact leaves .queue (.inr rfl) (by simp [heldPackets, queued])

end Sys2Proof.Machine

end

section
/-!
PROOFS. The roster's commands (sections 4.2, 4.10, 12.6).
-/

namespace Sys2Proof.Machine

set_option Elab.async false

/-! ### The roster image (R83, section 12.6) -/

/-- The pieces of a roster entry record. -/
def entryPieces (e : Entry) : List (Nat × Option Nat) :=
  [(1, some e.state.code), (1, some (bitAt 0 e.parent.isSome + bitAt 1 e.suspect)), (1, some (e.parent.getD 0)),
    (1, some e.port), (1, some e.depth), (1, some e.ports), (1, some e.present.toNat), (1, some e.miss),
    (6, some e.serial.toNat), (2, none), (2, some e.stamp.toNat), (1, some e.nextTag.toNat), (1, none),
    (2, some e.lostGen.toNat), (10, none)]

theorem leBytes_serial (sn : Serial) : leBytes 8 sn.toNat = leBytes 6 sn.toNat ++ [0, 0] := by
  have small := sn.isLt
  simp only [leBytes, List.cons_append, List.nil_append, List.cons.injEq, true_and, and_true]
  refine ⟨?_, ?_⟩ <;> apply BitVec.eq_of_toNat_eq <;> simp <;> omega

theorem entryBytes_eq (e : Entry) : entryBytes e = (entryPieces e).flatMap pieceBytes := by
  simp [entryBytes, entryPieces, padTo, pieceBytes, leBytes_serial, leBytes_byte, zeros, List.replicate]

theorem entryBytes_length (e : Entry) : (entryBytes e).length = 32 := by
  rw [entryBytes_eq, List.length_flatMap]
  exact congrArg List.sum (List.map_congr_left fun x _ => pieceBytes_length x)

/-- The pieces of the record of the last walk in the image's header. -/
def lastWalkPieces : Option LastWalk → List (Nat × Option Nat)
  | none => [(8, none)]
  | some w => [(1, some 1), (1, some w.kind.code), (1, some w.starter.code), (1, some w.outcome.code),
      (1, some w.warnings), (1, none), (2, some w.generation.toNat)]

/-- The pieces of the image's header. -/
def headerPieces (generation : Half) (count denyCount : Nat) (check : Word) (last : Option LastWalk) :
    List (Nat × Option Nat) :=
  [(2, some generation.toNat), (1, some count), (1, some denyCount), (4, some check.toNat)] ++ lastWalkPieces last
    ++ [(48, none)]

theorem rosterHeader_eq (generation : Half) (count denyCount : Nat) (check : Word) (last : Option LastWalk) :
    rosterHeader generation count denyCount check last =
      (headerPieces generation count denyCount check last).flatMap pieceBytes := by
  cases last with
  | none => rfl
  | some w =>
    simp [rosterHeader, headerPieces, lastWalkPieces, padTo, pieceBytes, zeros]
    rfl

theorem rosterHeader_length (generation : Half) (count denyCount : Nat) (check : Word) (last : Option LastWalk) :
    (rosterHeader generation count denyCount check last).length = 64 := by
  cases last <;> simp [rosterHeader, padTo, zeros]

theorem flatMap_entryBytes_length (es : List Entry) : (es.flatMap entryBytes).length = 32 * es.length := by
  induction es with
  | nil => rfl
  | cons e es ih => rw [List.flatMap_cons, List.length_append, entryBytes_length, ih, List.length_cons]; omega

/-- The record of an entry within the records of all. -/
theorem flatMap_entryBytes_at : ∀ (es : List Entry) (i : Nat), i < es.length →
    ((es.flatMap entryBytes).drop (32 * i)).take 32 = entryBytes (es.getD i Entry.vacant) := by
  intro es
  induction es with
  | nil => intro i small; simp at small
  | cons e es ih =>
    intro i small
    rw [List.flatMap_cons]
    cases i with
    | zero => exact List.take_left' (entryBytes_length e)
    | succ i =>
      have skip : 32 * (i + 1) = (entryBytes e).length + 32 * i := by rw [entryBytes_length]; omega
      rw [skip, List.drop_append, List.drop_eq_nil_of_le (by omega), List.nil_append, Nat.add_sub_cancel_left]
      exact ih i (by simpa using small)

/-! ### SET-DENY-LIST (R63) -/

section
variable {s : State} {w : DenyWork} {ws : List DenyWork} {d : List Byte}

/-- The work list stands still with a read to do or in progress at its head, or with nothing in it. -/
theorem denyOn_rests (h : s.rwk.denyWork = [] ∨ (∃ w ∈ s.rwk.denyWork.head?, w.count ≠ 0) ∨ s.rwk.denyReading = true) :
    denyOn s = s := by
  unfold denyOn
  cases work : s.rwk.denyWork with
  | nil => rfl
  | cons w ws =>
    have stays : ¬ (w.count = 0 ∧ !s.rwk.denyReading) := by
      rcases h with h | ⟨w', mem, on⟩ | h
      · simp [work] at h
      · have : w = w' := by simpa [work] using mem
        subst this
        exact fun both => on both.1
      · simp [h]
    rw [List.length_cons, workDeny, work]
    exact if_neg stays

/-- An empty list at the head of the work list is stored at once. -/
theorem denyOn_empty (work : s.rwk.denyWork = [w]) (none_ : w.count = 0) (idle : s.rwk.denyReading = false) :
    denyOn s = storeDeny w [] { s with rwk := { s.rwk with denyWork := [] } } := by
  simp [denyOn, workDeny, work, none_, idle]

/-- A list without APPLY is stored. -/
theorem storeDeny_plain (plain : w.apply = false) (l : List Serial) : storeDeny w l s =
    complete .rwk w.handle .ok (word w.count) 0 { s with rwk := { s.rwk with denyList := l } } := by
  simp [storeDeny, plain, bitAt, word]

theorem storeDeny_walks (apply : w.apply = true) (up : s.ses.session.refreshes = true) (still : s.rwk.walking = false)
    (l : List Serial) : storeDeny w l s = complete .rwk w.handle .ok (word w.count) (word 1)
      (startWalk .refresh .apply { s with rwk := { s.rwk with denyList := l } }) := by
  simp [storeDeny, apply, up, still, bitAt]

theorem endDenyRead_good (work : s.rwk.denyWork = w :: ws) (reading : s.rwk.denyReading = true)
    (length : d.length = 8 * w.count) : endDenyRead (some d) s =
      denyOn (storeDeny w (serialsOf w.count d) { s with rwk := { s.rwk with denyWork := ws, denyReading := false } }) := by
  simp [endDenyRead, work, reading, readData, length]

theorem endDenyRead_failed (work : s.rwk.denyWork = w :: ws) (reading : s.rwk.denyReading = true) :
    endDenyRead none s = denyOn (complete .rwk w.handle .hostReadError 0 0
      { s with rwk := { s.rwk with denyWork := ws, denyReading := false } }) := by
  simp [endDenyRead, work, reading, readData]

/-- What the refresh walk of APPLY leaves (R63, R71). -/
theorem applyWalk (t : State) : let u := startWalk .refresh .apply t
    u.rwk.denyList = t.rwk.denyList ∧ u.rwk.denyWork = t.rwk.denyWork ∧ u.rwk.walking = true ∧ u.rwk.kind = .refresh
      ∧ u.rwk.starter = .apply ∧ u.ses.session = t.ses.session := by
  have shape : ∀ {w q roster u}, WalkBegun .refresh .apply w q roster t u →
      u.rwk.denyList = t.rwk.denyList ∧ u.rwk.denyWork = t.rwk.denyWork ∧ u.rwk.walking = true ∧ u.rwk.kind = .refresh
        ∧ u.rwk.starter = .apply ∧ u.ses.session = t.ses.session := by
    intro w q roster u begun
    obtain ⟨c, ses⟩ := begun.ses
    rw [begun.rwk, ses]
    exact ⟨rfl, rfl, rfl, rfl, rfl, rfl⟩
  obtain ⟨vacant, there, -⟩ := startWalk_refresh .apply t
  by_cases root : (entryAt t 0).state = .vacant
  · exact shape (vacant root)
  · exact shape (there root)

end

/-! ### The rows -/

section
variable {s : State} {g : Ring} {c : RecordRing} (f : s.Fetching controlRing g c) (tag : HostTag)
include f

theorem exec_readRoster (addr : Addr) (len : Word) : exec (.readRoster tag addr len) s =
    done (takeReadRoster (s.takenAs controlRing g tag) addr len (s.taken controlRing g tag)) :=
  congrArg done (f.takeFrom tag _)

theorem exec_setDenyList (count : Byte) (apply : Bool) (addr : Addr) : exec (.setDenyList tag count apply addr) s =
    done (takeDenyList (s.takenAs controlRing g tag) count apply addr (s.taken controlRing g tag)) :=
  congrArg done (f.takeFrom tag _)

end

theorem endRosterCopy_eq {s : State} {n : Nat} {k : Copy} (h : s.rwk.copies[n]? = some k) (ok : Bool) :
    endRosterCopy n ok s = endCopyOf .rwk k ok { s with rwk := { s.rwk with copies := s.rwk.copies.eraseIdx n } } := by
  simp only [endRosterCopy, h]

/-- Settles O53: the image piece by piece, the copies as READ-STATUS's, the deny list by the work list's head. -/
theorem rosterCommands : Obligations.RosterCommands := by
  refine fun s => ⟨fun full => ?image, by decide, fun g c tag addr len f => ?take, fun n c k copy p => ⟨?_, ?_⟩,
    fun g c tag count apply addr f => ?deny, fun w ws settled work on idle => ?start, fun w c work reading p => ?ends⟩
  case image =>
    intro last
    have length : (rosterImage s).length = 2112 := by
      rw [rosterImage, List.length_append, rosterHeader_length, flatMap_entryBytes_length, full]
    refine ⟨length, ?_, fun i small => ?_⟩
    · have head : (rosterImage s).take 64 = _ := List.take_left' (rosterHeader_length ..)
      rw [head, rosterHeader_eq]
      refine laidOut_pieces _ rfl ?_ fun f => ?_
      · cases s.rwk.lastWalk <;> rfl
      · have last_ : last = piecesAt 8 (lastWalkPieces s.rwk.lastWalk) := by
          cases h : s.rwk.lastWalk <;> simp [last, h, lastWalkPieces, piecesAt]
        rw [last_, headerPieces, ← rosterCount_eq]
        simp [piecesAt, piecesAt_append]
    · intro e
      have rec_ : ((rosterImage s).drop (64 + 32 * i)).take 32 = entryBytes e := by
        rw [rosterImage, List.drop_append, rosterHeader_length, List.drop_eq_nil_of_le (by rw [rosterHeader_length]; omega),
          List.nil_append, Nat.add_sub_cancel_left]
        exact flatMap_entryBytes_at s.rwk.roster i (by omega)
      rw [rec_]
      refine laidOut_pieces (entryPieces e) (entryBytes_eq e) rfl fun f => ?_
      simp [entryPieces, piecesAt, bitAt]
  case take =>
    intro h s1
    have p : s1.Pending h c := f.pending tag
    refine ⟨fun short => ?_, fun long walks => ?_, fun long still => ?_⟩
    · rw [exec_readRoster f, takeReadRoster, if_pos short]
      exact done_complete .rwk .badParam 0 0 p
    · rw [exec_readRoster f, takeReadRoster, if_neg (Nat.not_lt.2 long)]
      exact (congrArg done (if_pos walks)).trans (done_complete .rwk .busy 0 0 p)
    · rw [exec_readRoster f, takeReadRoster, if_neg (Nat.not_lt.2 long)]
      exact done_of_eq (if_neg (by simp [State.taken, still])) p.settled
  · have q : ({ s with rwk := { s.rwk with copies := s.rwk.copies.eraseIdx n } } : State).Pending k.handle c :=
      ⟨p.settled, p.writes, p.comp, p.held⟩
    exact (congrArg done (endRosterCopy_eq copy true)).trans (endCopyOf_good .rwk q)
  · have q : ({ s with rwk := { s.rwk with copies := s.rwk.copies.eraseIdx n } } : State).Pending k.handle c :=
      ⟨p.settled, p.writes, p.comp, p.held⟩
    exact (congrArg done (endRosterCopy_eq copy false)).trans (endCopyOf_failed .rwk q)
  case deny =>
    intro h s1
    have p : s1.Pending h c := f.pending tag
    refine ⟨fun many => ?_, fun some_ few work => ?_, fun none_ work idle => ?_⟩
    · rw [exec_setDenyList f, takeDenyList, if_pos many]
      exact done_complete .rwk .badParam 0 0 p
    · have work' : s1.rwk.denyWork = [] := work
      have joins : takeDenyList h count apply addr s1 = { s1 with rwk := { s1.rwk with
          denyWork := [⟨h, count.toNat, apply, addr⟩] } } := by
        rw [takeDenyList, if_neg (by omega), work']
        exact denyOn_rests (.inr (.inl ⟨_, rfl, by dsimp only; omega⟩))
      rw [exec_setDenyList f]
      exact done_of_eq joins p.settled
    · have work' : s1.rwk.denyWork = [] := work
      have same : ({ s1 with rwk := { s1.rwk with denyWork := [] } } : State) = s1 := by rw [← work']
      have stores : takeDenyList h count false addr s1 =
          complete .rwk h .ok 0 0 { s1 with rwk := { s1.rwk with denyList := [] } } := by
        rw [takeDenyList, if_neg (by simp [none_]), work']
        refine (denyOn_empty (s := { s1 with rwk := { s1.rwk with denyWork := [⟨h, count.toNat, false, addr⟩] } })
          rfl (by simp [none_]) idle).trans ?_
        refine (storeDeny_plain rfl []).trans ?_
        rw [none_]
        exact congrArg (fun t : State => complete .rwk h .ok 0 0 { t with rwk := { t.rwk with denyList := [] } }) same
      rw [exec_setDenyList f, stores]
      exact done_complete .rwk .ok 0 0 (s := { s1 with rwk := { s1.rwk with denyList := [] } })
        ⟨p.settled, p.writes, p.comp, p.held⟩
  case start =>
    have e : startDenyRead s = emit (.hostRead w.addr (8 * w.count)) { s with rwk := { s.rwk with denyReading := true } } := by
      simp [startDenyRead, work, on, idle]
    exact done_of_eq e settled
  case ends =>
    intro s1
    have rests : ∀ t : State, t.rwk.denyWork = [] → denyOn t = t := fun t work => denyOn_rests (.inl work)
    refine ⟨?_, fun d length plain => ?_, fun d length apply still up => ?_⟩
    · have e := (endDenyRead_failed work reading).trans (rests _ rfl)
      exact (congrArg done e).trans (done_complete (s := s1) .rwk .hostReadError 0 0 ⟨p.settled, p.writes, p.comp, p.held⟩)
    · have e := (endDenyRead_good work reading length).trans
        ((congrArg denyOn (storeDeny_plain (s := s1) plain _)).trans (rests _ rfl))
      exact (congrArg done e).trans (done_complete .rwk .ok _ _ (s := { s1 with rwk := { s1.rwk with
        denyList := serialsOf w.count d } }) ⟨p.settled, p.writes, p.comp, p.held⟩)
    · let s2 : State := { s1 with rwk := { s1.rwk with denyList := serialsOf w.count d } }
      obtain ⟨list, rest, walks, kind, starter, session⟩ := applyWalk s2
      have e := (endDenyRead_good work reading length).trans
        ((congrArg denyOn (storeDeny_walks (s := s1) apply ((SessionState.refreshes_iff _).2 up) still _)).trans
          (rests _ rest))
      exact done_fields (congrArg done e) fun hif out => ⟨list, walks, kind, starter, session⟩

end Sys2Proof.Machine

end

section
/-!
PROOFS. The descriptor reader: requests, their turn, copies, reads over the sideband, and the cache (section 5).
-/

namespace Sys2Proof.Machine

set_option Elab.async false

/-! ### READ-DESCRIPTOR at its take and at its turn (R90, R91) -/

section
variable {s : State} {g : Ring} {c : RecordRing} (f : s.Fetching controlRing g c) (tag : HostTag)
include f

theorem exec_readDescriptor (index : Byte) (sn : Serial) (addr : Addr) (len : Word) :
    exec (.readDescriptor tag index sn addr len) s = done (takeReadDescriptor (s.takenAs controlRing g tag) index sn addr
      len (s.taken controlRing g tag)) :=
  congrArg done (f.takeFrom tag _)

theorem exec_dropDescriptors : exec (.dropDescriptors tag) s =
    done (takeDrop (s.takenAs controlRing g tag) (s.taken controlRing g tag)) :=
  congrArg done (f.takeFrom tag _)

end

section
variable {s : State} {h : Handle} {index : Byte} {sn : Serial} {addr : Addr} {len : Word}

theorem heldBy_iff (e : Entry) (sn : Serial) : (e.isHeld && decide (e.serial = sn)) = true ↔
    (e.state = .active ∨ e.state = .denied) ∧ e.serial = sn := by
  simp [Entry.isHeld]

theorem takeReadDescriptor_misshaped (bad : ¬ (index.toNat ≤ 63 ∧ 128 ≤ len.toNat)) :
    takeReadDescriptor h index sn addr len s = complete .dcr h .badParam 0 0 s :=
  if_pos (by simp; omega)

theorem takeReadDescriptor_shaped (shaped : index.toNat ≤ 63 ∧ 128 ≤ len.toNat) :
    takeReadDescriptor h index sn addr len s =
      if !((entryAt s index.toNat).isHeld && decide ((entryAt s index.toNat).serial = sn)) then
        complete .dcr h .targetGone 0 0 s
      else if descQueueMax ≤ s.dcr.queue.length then complete .dcr h .busy 0 0 s
      else { s with dcr := { s.dcr with queue := s.dcr.queue ++ [⟨h, sn, addr, len.toNat, false, false⟩] } } :=
  if_neg (by simp; omega)

end

section
variable {s : State} {q : DescRequest} {qs : List DescRequest}

/-- The head of the queue leaves it, its read given up. -/
theorem endRead_eq (queue : s.dcr.queue = q :: qs) (st : Status) (w1 : Word) : endRead st w1 s =
    complete .dcr q.handle st w1 0
      { s with dcr := { s.dcr with queue := qs, context := none, cache := s.dcr.cache.filter (·.valid) } } := by
  simp [endRead, queue, removeFilling]

theorem done_endRead {w : RecordRing} (queue : s.dcr.queue = q :: qs) (p : s.Pending q.handle w) (st : Status)
    (w1 : Word) : done (endRead st w1 s) = .next ({ s with dcr := { s.dcr with
      queue := qs, context := none, cache := s.dcr.cache.filter (·.valid) } }.completed w q.handle st w1 0) :=
  (congrArg done (endRead_eq queue st w1)).trans
    (done_complete (s := { s with dcr := { s.dcr with
      queue := qs, context := none, cache := s.dcr.cache.filter (·.valid) } }) .dcr st w1 0
      ⟨p.settled, p.writes, p.comp, p.held⟩)

theorem requestBlock_present (present : s.ses.presence = true) (c : ReadContext) : requestBlock c s =
    joinSet .dr ⟨BitVec.ofNat 8 c.address, .readBlock, [BitVec.ofNat 8 c.block]⟩
      { s with dcr := { s.dcr with context := some c } } :=
  if_pos present

/-- Copies start for the head and for every request with its serial (R96). -/
theorem startGroup_eq (d : Dcr) (queue : d.queue = q :: qs) (sn : Serial) (hit : Bool) : startGroup sn hit d = { d with
    queue := { q with group := true, hit := hit }
      :: qs.map (fun r => if r.serial = sn then { r with group := true, hit := true } else r)
    copying := some sn
    cache := d.cache.filter (fun e => !decide (e.serial = sn)) ++ d.cache.filter (fun e => decide (e.serial = sn)) } := by
  simp [startGroup, queue, touchEntry, removeEntry]

theorem descriptorTurn_waits (queue : s.dcr.queue = q :: qs) (walks : s.rwk.walking = true) : descriptorTurn s = s := by
  simp [descriptorTurn, queue, walks]

section
variable (queue : s.dcr.queue = q :: qs) (context : s.dcr.context = none) (copying : s.dcr.copying = none)
  (still : s.rwk.walking = false)
include queue context copying still

theorem descriptorTurn_gone (gone : heldIndex q.serial s = none) : descriptorTurn s = endRead .targetGone 0 s := by
  simp [descriptorTurn, queue, context, copying, still, gone]

theorem descriptorTurn_hit {i : Nat} {e : CacheEntry} (held : heldIndex q.serial s = some i)
    (current : currentEntry q.serial (entryAt s i).stamp s.dcr = some e) :
    descriptorTurn s = { s with dcr := startGroup q.serial true s.dcr } := by
  simp [descriptorTurn, queue, context, copying, still, held, current]

theorem descriptorTurn_reads {i : Nat} (held : heldIndex q.serial s = some i)
    (stale : currentEntry q.serial (entryAt s i).stamp s.dcr = none) :
    descriptorTurn s = requestBlock ⟨i + 1, (entryAt s i).stamp, false, none, 0, 0⟩ s := by
  simp [descriptorTurn, queue, context, copying, still, held, stale]

end

/-- The end of the copy of a group of one request. -/
theorem endCopy_one {e : CacheEntry} (ok : Bool) (queue : s.dcr.queue = [q]) (group : q.group = true)
    (copying : s.dcr.copying = some e.serial) (there : cached e.serial s.dcr = some e) (removal : s.dcr.removal = none) :
    endCopy ok s = finishCopy ok e q { s with dcr := { s.dcr with queue := [], copying := none } } := by
  have first : copyingRequest s.dcr = some q := by simp [copyingRequest, queue, group]
  have rest : s.dcr.queue.eraseP (fun r => decide (r.handle.id = q.handle.id)) = [] := by simp [queue]
  simp only [endCopy, copying, first, there, rest]
  simp [nextCopy, copyingRequest, removal]

end

/-- Settles O54: the take by its checks, the turn by what the roster and the cache hold, the copy and the drop. -/
theorem descriptors : Obligations.Descriptors := by
  refine ⟨fun s g c tag index sn addr len f => ?take, fun s c q qs p queue context copying => ?turn,
    fun s c q e p queue group copying there removal => ?copy, fun s g c tag f => ?drop⟩
  case take =>
    intro h s1 run refused e shaped there
    have p : s1.Pending h c := f.pending tag
    have run_ : run = _ := exec_readDescriptor f tag index sn addr len
    have held := heldBy_iff (entryAt s1 index.toNat) sn
    refine ⟨fun bad => ?_, fun ok gone => ?_, fun ok here full => ?_, fun ok here room => ?_⟩
    · refine run_.trans ?_
      rw [takeReadDescriptor_misshaped bad]
      exact done_complete .dcr .badParam 0 0 p
    · refine run_.trans ?_
      rw [takeReadDescriptor_shaped ok, if_pos (Bool.not_eq_true' _ ▸ Bool.eq_false_iff.2 (held.not.2 gone))]
      exact done_complete .dcr .targetGone 0 0 p
    · refine run_.trans ?_
      rw [takeReadDescriptor_shaped ok, if_neg (by rw [held.2 here]; decide), if_pos (by exact full)]
      exact done_complete .dcr .busy 0 0 p
    · rw [run_, takeReadDescriptor_shaped ok, if_neg (by rw [held.2 here]; decide),
        if_neg (by exact Nat.not_le.2 room)]
      exact done_settled p.settled rfl
  case turn =>
    refine ⟨fun walks => done_of_eq (descriptorTurn_waits queue walks) p.settled, fun still => ⟨fun gone => ?_,
      fun i e held current => ?_, fun i held stale present => ?_⟩⟩
    · refine (congrArg done (descriptorTurn_gone queue context copying still gone)).trans ?_
      have e := done_endRead queue p .targetGone 0
      rw [← context] at e
      exact e
    · have e := descriptorTurn_hit queue context copying still held current
      rw [startGroup_eq s.dcr queue] at e
      exact done_of_eq e p.settled
    · intro asks request
      have e := (descriptorTurn_reads queue context copying still held stale).trans (requestBlock_present present _)
      refine ⟨fun free => ?_, fun busy => ?_⟩
      · exact done_of_eq (e.trans (joinSet_free (by exact free))) p.settled
      · exact done_of_eq (e.trans (joinSet_deferred (by exact busy))) p.settled
  case copy =>
    intro n w1 s1
    have e_ := fun ok => endCopy_one ok queue group copying there removal
    refine ⟨?_, ?_⟩
    · refine (congrArg done (e_ true)).trans ?_
      exact done_complete (s := { s1 with out := s.out ++ [Output.hostWrite q.addr (e.blocks.take n).flatten] }) .dcr
        (if n < e.count then .truncated else .ok) w1 (word (128 * n)) ⟨p.settled, p.writes, p.comp, p.held⟩
    · refine (congrArg done (e_ false)).trans ?_
      exact done_complete (s := { s1 with
        out := s.out ++ [Output.hostWrite q.addr (partWritten s.choices (e.blocks.take n).flatten)]
        choices := s.choices + 1 }) .dcr .hostWriteError w1 0 ⟨p.settled, p.writes, p.comp, p.held⟩
  case drop =>
    intro h s1 valid w1 w2
    have p : s1.Pending h c := f.pending tag
    refine ⟨fun idle => ?_, fun sn copying => ?_⟩
    · have e : takeDrop h s1 = complete .dcr h .ok w1 w2
          { s1 with dcr := { s1.dcr with cache := s.dcr.cache.filter (fun e => !e.valid) } } := by
        simp [takeDrop, s1, State.taken, idle, w1, w2, valid, blocksUsed]
      rw [exec_dropDescriptors f, e]
      exact done_complete (s := { s1 with dcr := { s1.dcr with cache := s.dcr.cache.filter (fun e => !e.valid) } })
        .dcr .ok w1 w2 ⟨p.settled, p.writes, p.comp, p.held⟩
    · have e : takeDrop h s1 = complete .dcr h .ok w1 w2 { s1 with dcr := { s1.dcr with
          removal := some sn, cache := s.dcr.cache.filter (fun e => !e.valid || decide (sn = e.serial)) } } := by
        simp [takeDrop, s1, State.taken, copying, w1, w2, valid, blocksUsed]
      rw [exec_dropDescriptors f, e]
      exact done_complete (s := { s1 with dcr := { s1.dcr with
        removal := some sn, cache := s.dcr.cache.filter (fun e => !e.valid || decide (sn = e.serial)) } })
        .dcr .ok w1 w2 ⟨p.settled, p.writes, p.comp, p.held⟩

/-! ### Evictions (R94) -/

/-- The room that an entry of n blocks needs. -/
def hasRoom (n : Nat) (c : List CacheEntry) : Prop := c.length < 16 ∧ (c.map (·.count)).sum + n ≤ 32

theorem makeRoom_suffix (n : Nat) : ∀ c : List CacheEntry, (∀ e ∈ c, e.valid = true) → n ≤ 8 →
    makeRoom n c <:+ c ∧ hasRoom n (makeRoom n c)
      ∧ ∀ k < c.length, (makeRoom n c).length < k + 1 → ¬ hasRoom n (c.drop (c.length - (k + 1))) := by
  intro c
  induction c with
  | nil => exact fun _ small => ⟨List.suffix_refl _, ⟨Nat.zero_lt_succ _, by simp [makeRoom]; omega⟩, by simp⟩
  | cons e es ih =>
    intro valid small
    obtain ⟨suffix, room, least⟩ := ih (fun e he => valid e (List.mem_cons_of_mem _ he)) small
    have cond : es.length + 1 < cacheEntries ∧ blocksUsed (e :: es) + n ≤ cacheBlocks ↔ hasRoom n (e :: es) := Iff.rfl
    by_cases fits : hasRoom n (e :: es)
    · rw [makeRoom, if_pos (cond.2 fits)]
      exact ⟨List.suffix_refl _, fits, fun k low high => by omega⟩
    · rw [makeRoom, if_neg (cond.not.2 fits), if_pos (valid e (List.mem_cons_self ..))]
      refine ⟨suffix.trans (List.suffix_cons ..), room, fun k low high => ?_⟩
      rw [List.length_cons] at low ⊢
      rcases Nat.lt_succ_iff_lt_or_eq.1 low with inner | rfl
      · rw [show es.length + 1 - (k + 1) = (es.length - (k + 1)) + 1 by omega, List.drop_succ_cons]
        exact least k inner high
      · rw [Nat.sub_self]
        exact fits

theorem mem_makeRoom {n : Nat} {x : CacheEntry} : ∀ {c : List CacheEntry}, x ∈ makeRoom n c → x ∈ c := by
  intro c
  induction c with
  | nil => exact id
  | cons e es ih =>
    unfold makeRoom
    split
    · exact id
    · split
      · exact fun h => List.mem_cons_of_mem _ (ih h)
      · rw [List.mem_cons, List.mem_cons]
        exact Or.imp_right ih

/-! ### The outcome of a READ-BLOCK (R92 to R95) -/

/-- After the end of its transaction DR asks for a block, and its request is sent (R52). -/
theorem grantDecision_dr {s : State} {q : Request} (free : s.sbc.channel = .free) (still : s.rwk.walking = false)
    (lc : s.sbc.lcReq = none) (ap : s.sbc.apReq = none) (ac : s.sbc.acReq = none) (dr : s.sbc.drReq = none)
    (kind : q.kind ≠ .releaseAll) :
    grantDecision { s with sbc := { s.sbc with drReq := some q } } = s.requesterSends .dr q := by
  let t : State := { s with sbc := { s.sbc with drReq := some q } }
  have choice : grantChoice t = some .dr := by
    by_cases aged : 8 ≤ t.sbc.aging
    · exact grantChoice_aged (s := t) still rfl aged
    · rw [grantChoice_ordered (s := t) still (.inr (Nat.not_le.1 aged))]
      simp [t, lc, ap, ac]
  rw [grantDecision_serves (s := t) free choice rfl, grantTo_eq kind]
  simp only [State.requesterSends, setRequest, agingAfter, if_true, t, dr]

section
variable {s : State} {c : ReadContext} {q : DescRequest} {qs : List DescRequest} {w : RecordRing} {now : Nat}

/-- The row's end where DR asks for a block with a cache. -/
theorem done_requestBlock {cache : List CacheEntry} {old : Option ReadContext} (settled : s.handed = [])
    (idle : s.sbc.idleRequests) (still : s.rwk.walking = false) (present : s.ses.presence = true) (c1 : ReadContext) :
    let free : State := { s with now := now, sbc := s.sbc.freed }
    done (grantDecision (requestBlock c1 { free with dcr := { s.dcr with context := old, cache := cache } })) =
      .next ({ free with dcr := { s.dcr with context := some c1, cache := cache } }.requesterSends .dr
        ⟨BitVec.ofNat 8 c1.address, .readBlock, [BitVec.ofNat 8 c1.block]⟩) := by
  intro free
  obtain ⟨-, lc, ap, ac, dr, -⟩ := idle
  refine done_of_eq ?_ settled
  rw [requestBlock_present (by exact present), joinSet_free rfl]
  exact grantDecision_dr (s := { free with dcr := { s.dcr with context := some c1, cache := cache } }) rfl still lc ap ac dr
    (fun e => nomatch e)

/-- The row's end where the read of the queue's head is given up. -/
theorem done_endRead_granted (p : s.Pending q.handle w) (queue : s.dcr.queue = q :: qs) (idle : s.sbc.idleRequests)
    (still : s.rwk.walking = false) (st : Status) (w1 : Word) :
    let free : State := { s with now := now, sbc := s.sbc.freed }
    done (grantDecision (endRead st w1 free)) = .next ({ free with dcr := { s.dcr with
      queue := qs, context := none, cache := s.dcr.cache.filter (·.valid) } }.completed w q.handle st w1 0) := by
  intro free
  have rests : grantDecision (endRead st w1 free) = endRead st w1 free := by
    rw [endRead_eq (s := free) queue]
    exact grantDecision_freed (b := s.sbc) rfl idle still
  rw [rests]
  exact done_endRead (s := free) queue ⟨p.settled, p.writes, p.comp, p.held⟩ st w1

/-- A serial's entry that is the most recent already stays where it is. -/
theorem touch_last {sn : Serial} {cache : List CacheEntry} {e : CacheEntry} (others : ∀ x ∈ cache, x.serial ≠ sn)
    (own : e.serial = sn) : (cache ++ [e]).filter (fun e => !decide (e.serial = sn))
      ++ (cache ++ [e]).filter (fun e => decide (e.serial = sn)) = cache ++ [e] := by
  have keeps : cache.filter (fun e => !decide (e.serial = sn)) = cache :=
    List.filter_eq_self.2 fun x hx => by simp [others x hx]
  have none_ : cache.filter (fun e => decide (e.serial = sn)) = [] :=
    List.filter_eq_nil_iff.2 fun x hx => by simp [others x hx]
  rw [List.filter_append, List.filter_append, keeps, none_]
  simp [own]

/-- The row's end where the last block is stored: the copies start (R96). -/
theorem done_fillDone {cache : List CacheEntry} {e : CacheEntry} (settled : s.handed = []) (queue : s.dcr.queue = q :: qs)
    (idle : s.sbc.idleRequests) (still : s.rwk.walking = false) (others : ∀ x ∈ cache, x.serial ≠ q.serial)
    (own : e.serial = q.serial) :
    let free : State := { s with sbc := s.sbc.freed }
    done (grantDecision (fillDone q.serial { free with dcr := { s.dcr with cache := cache ++ [e] } })) =
      .next { free with dcr := { s.dcr with
        context := none, cache := cache ++ [e], copying := some q.serial
        queue := { q with group := true, hit := false }
          :: qs.map (fun r => if r.serial = q.serial then { r with group := true, hit := true } else r) } } := by
  intro free
  refine done_of_eq ?_ settled
  rw [fillDone, startGroup_eq (q := q) (qs := qs) _ (by exact queue), touch_last others own]
  exact grantDecision_freed (b := s.sbc) rfl idle still

/-! #### The cases of R92, R93 and R95 -/

variable {o : TxOutcome} {i : Nat} {d : List Byte}

theorem drResult_walking (context : s.dcr.context = some c) (queue : s.dcr.queue = q :: qs)
    (walks : s.rwk.walking = true) : drResult o s = { s with dcr := { s.dcr with held := some o } } := by
  simp [drResult, context, queue, walks]

theorem drResult_judges (context : s.dcr.context = some c) (queue : s.dcr.queue = q :: qs)
    (still : s.rwk.walking = false) : drResult o s = judgeRead q.serial c o s := by
  simp [drResult, context, queue, still]

theorem judgeRead_gone {sn : Serial} (gone : heldIndex sn s = none) : judgeRead sn c o s = endRead .targetGone 0 s := by
  simp [judgeRead, gone]

theorem judgeRead_moved {sn : Serial} (held : heldIndex sn s = some i) (moved : i + 1 ≠ c.address) :
    judgeRead sn c o s = requestBlock { c with address := i + 1 } s := by
  simp [judgeRead, held, moved]

theorem judgeRead_restamped {sn : Serial} (held : heldIndex sn s = some i) (there : i + 1 = c.address)
    (new : (entryAt s i).stamp ≠ c.stamp) : judgeRead sn c o s =
      if c.restarted then endRead .descriptorBad (countWord c) s else restartRead c (entryAt s i).stamp s := by
  simp [judgeRead, held, there, new]

/-- The tile still stands where the read has found it, with its stamp. -/
theorem judgeRead_steady {sn : Serial} (held : heldIndex sn s = some i) (there : i + 1 = c.address)
    (same : (entryAt s i).stamp = c.stamp) : judgeRead sn c o s = judgeBlock sn c c.stamp o s := by
  simp [judgeRead, held, there, same]

theorem blockWhole_iff (n : Nat) (d : List Byte) : blockWhole n d = true ↔
    (d.getD 0 0).toNat = n ∧ (d.drop 1).length = 128 ∧ ((d.drop 1).map BitVec.toNat).sum % 256 = 0 :=
  decide_eq_true_iff

theorem judgeBlock_torn {sn : Serial} {stamp : Half} (torn : ¬ blockWhole c.block d = true) :
    judgeBlock sn c stamp (.response d) s = rereadBlock c s :=
  if_pos (by simpa using torn)

theorem judgeBlock_first {sn : Serial} {stamp : Half} (whole : blockWhole c.block d = true) (first : c.block = 0) :
    judgeBlock sn c stamp (.response d) s = openDescriptor sn c stamp (d.drop 1) s :=
  (if_neg (by simpa using whole)).trans (if_pos first)

theorem judgeBlock_later {sn : Serial} {stamp : Half} (whole : blockWhole c.block d = true) (later : 0 < c.block) :
    judgeBlock sn c stamp (.response d) s = nextBlock sn c (d.drop 1) s :=
  (if_neg (by simpa using whole)).trans (if_neg later.ne')

theorem judgeBlock_failed {sn : Serial} {stamp : Half} (failed : o.failed) :
    judgeBlock sn c stamp o s = endRead .noResponse (countWord c) s := by
  rcases failed with rfl | rfl | rfl <;> rfl

theorem openDescriptor_unfit {sn : Serial} {stamp : Half} {b : List Byte}
    (unfit : ¬ (1 ≤ (b.getD 0 0).toNat ∧ (b.getD 0 0).toNat ≤ 8 ∧ fromBe ((b.drop 1).take 2) = c.stamp.toNat)) :
    openDescriptor sn c stamp b s =
      if c.restarted then endRead .descriptorBad (countWord c) s else restartRead c stamp s :=
  if_neg (by simpa [and_assoc] using unfit)

theorem openDescriptor_fits {sn : Serial} {stamp : Half} {b : List Byte}
    (fits : 1 ≤ (b.getD 0 0).toNat ∧ (b.getD 0 0).toNat ≤ 8 ∧ fromBe ((b.drop 1).take 2) = c.stamp.toNat)
    (others : ∀ e ∈ s.dcr.cache, e.serial ≠ sn) : openDescriptor sn c stamp b s =
      let n := (b.getD 0 0).toNat
      let s1 : State := { s with dcr := { s.dcr with
        cache := makeRoom n s.dcr.cache ++ [⟨sn, c.stamp, n, [b], decide (n ≤ 1)⟩] } }
      if n = 1 then fillDone sn s1 else requestBlock { c with count := some n, block := 1, reread := 0 } s1 := by
  have kept : removeEntry sn s.dcr.cache = s.dcr.cache := List.filter_eq_self.2 fun x hx => by simp [others x hx]
  rw [openDescriptor, if_pos (by simpa [and_assoc] using fits), createEntry, kept]

/-- The block joins the FILLING entry, the most recent one. -/
theorem storeBlock_last {b : List Byte} {cache : List CacheEntry} {e : CacheEntry}
    (valid : ∀ x ∈ cache, x.valid = true) (filling : e.valid = false) : storeBlock b (cache ++ [e]) =
      cache ++ [{ e with blocks := e.blocks ++ [b], valid := decide (e.count ≤ e.blocks.length + 1) }] := by
  have kept : storeBlock b cache = cache := by
    refine (List.map_congr_left fun x hx => ?_).trans (List.map_id _)
    simp [valid x hx]
  rw [storeBlock, List.map_append]
  exact congrArg₂ _ kept (by simp [filling])

end

/-- Settles O55: the outcomes by the cases of R92, R93 and R95, and the evictions by induction on the cache. -/
theorem descriptorReads : Obligations.DescriptorReads := by
  refine ⟨fun s x c q qs w i p channel flight own kind live prompt idle context queue present => ?reads,
    fun n cache valid small => makeRoom_suffix n cache valid small⟩
  intro free asks valid ends again bad copies steady
  have deferred : s.sbc.deferred = none := idle.2.2.2.2.2
  let F : Nat → State := fun now => { s with now := now, sbc := s.sbc.freed }
  have hands : ∀ o now, handOutcome x o (F now) = drResult o (F now) := fun o now => by
    simp [handOutcome, own, live]
  have judges : s.rwk.walking = false → ∀ o now, handOutcome x o (F now) = judgeRead q.serial c o (F now) :=
    fun still o now => (hands o now).trans (drResult_judges context queue still)
  have ended : s.rwk.walking = false → ∀ st w1 now, done (grantDecision (endRead st w1 (F now))) = ends now st w1 :=
    fun still st w1 now => done_endRead_granted p queue idle still st w1
  have asked : s.rwk.walking = false → ∀ c1 old cache,
      done (grantDecision (requestBlock c1 { free with dcr := { s.dcr with context := old, cache := cache } })) =
        asks c1 cache :=
    fun still c1 old cache => done_requestBlock (now := s.now) p.settled idle still present c1
  have asked_same : s.rwk.walking = false → ∀ c1, done (grantDecision (requestBlock c1 free)) = asks c1 s.dcr.cache :=
    fun still c1 => asked still c1 s.dcr.context s.dcr.cache
  have restarts : s.rwk.walking = false → ∀ stamp, done (grantDecision (if c.restarted then
      endRead .descriptorBad (countWord c) free else restartRead c stamp free)) = if c.restarted then bad else again stamp := by
    intro still stamp
    split
    · exact ended still _ _ s.now
    · exact asked still _ s.dcr.context valid
  have judged : steady → ∀ o now, handOutcome x o (F now) = judgeBlock q.serial c c.stamp o (F now) := by
    rintro ⟨still, held, there, same⟩ o now
    exact (judges still o now).trans (judgeRead_steady held there same)
  have failed : steady → ∀ o now, o.failed → done (grantDecision (handOutcome x o (F now))) =
      ends now .noResponse (word (c.count.getD 0)) := by
    intro st o now fails
    rw [judged st o now, judgeBlock_failed fails]
    exact ended st.1 _ _ now
  have fails := attemptFails_of (claim := fun run now => steady → run = ends now .noResponse (word (c.count.getD 0)))
    channel flight deferred fun o now fails st => failed st o now fails
  refine ⟨fun f d verdict => ?_, fun f d verdict st => fails.1 f d verdict st,
    fun t0 third timer st => (fails.2 third).2 t0 prompt timer st⟩
  intro run b whole n fits
  have end_ : run = _ := exec_response channel flight deferred verdict
  have whole_iff : blockWhole c.block d = true ↔ whole := blockWhole_iff ..
  refine ⟨fun walks => ?_, fun still gone => ?_, fun still held moved => ?_, fun still held there new => ?_,
    fun st torn => ?_, fun st ok first unfit => ?_, fun st ok first fit others => ?_,
    fun e es st ok later listed others filling own_ blocks count => ?_⟩
  · refine end_.trans (done_of_eq ?_ p.settled)
    rw [show handOutcome x (.response d) free = drResult (.response d) free from hands _ s.now,
      drResult_walking (s := free) context queue walks]
    refine grantDecision_nobody ((grantChoice_walking (by exact walks)).trans (if_neg ?_))
    simp [free, Sbc.freed, idle.1]
  · rw [end_, judges still (.response d) s.now, judgeRead_gone (by exact gone)]
    exact ended still _ _ s.now
  · rw [end_, judges still (.response d) s.now, judgeRead_moved (by exact held) moved]
    exact asked_same still _
  · rw [end_, judges still (.response d) s.now, judgeRead_restamped (by exact held) there (by exact new)]
    exact restarts still _
  · rw [end_, judged st (.response d) s.now, judgeBlock_torn (whole_iff.not.2 torn), rereadBlock]
    split
    · exact asked_same st.1 _
    · exact ended st.1 _ _ s.now
  · rw [end_, judged st (.response d) s.now, judgeBlock_first (whole_iff.2 ok) first, openDescriptor_unfit unfit]
    exact restarts st.1 _
  · intro cache
    have opens := openDescriptor_fits (s := free) (sn := q.serial) (stamp := c.stamp) fit fun e he => (others e he).2
    have absent : ∀ e ∈ cache, e.serial ≠ q.serial := fun e he => (others e (mem_makeRoom he)).2
    rw [end_, judged st (.response d) s.now, judgeBlock_first (whole_iff.2 ok) first,
      show openDescriptor q.serial c c.stamp (d.drop 1) (F s.now) = _ from opens]
    refine ⟨fun one => ?_, fun more => ?_⟩
    · refine (congrArg (fun t => done (grantDecision t)) (if_pos one)).trans ?_
      have entry : (⟨q.serial, c.stamp, n, [b], decide (n ≤ 1)⟩ : CacheEntry) = ⟨q.serial, c.stamp, 1, [b], true⟩ := by
        rw [one]
        rfl
      rw [← entry]
      exact done_fillDone (cache := cache) p.settled queue idle st.1 absent rfl
    · refine (congrArg (fun t => done (grantDecision t)) (if_neg more.ne')).trans ?_
      rw [decide_eq_false (Nat.not_le.2 more)]
      exact asked st.1 _ s.dcr.context _
  · have cache : s.dcr.cache = es.reverse ++ [e] := by
      rw [← List.reverse_reverse s.dcr.cache, listed, List.reverse_cons]
    have others' : ∀ y ∈ es.reverse, y.valid = true ∧ y.serial ≠ q.serial := fun y hy => others y (List.mem_reverse.1 hy)
    have stored : storeBlock b s.dcr.cache = es.reverse ++ [{ e with
        blocks := e.blocks ++ [b], valid := decide (e.count ≤ c.block + 1) }] := by
      rw [cache, storeBlock_last (fun y hy => (others' y hy).1) filling, blocks]
    rw [end_, judged st (.response d) s.now, judgeBlock_later (whole_iff.2 ok) later, nextBlock]
    simp only [count, Option.getD_some]
    refine ⟨fun last => ?_, fun more => ?_⟩
    · rw [if_pos last, show storeBlock (d.drop 1) (F s.now).dcr.cache = _ from stored, decide_eq_true last]
      exact done_fillDone p.settled queue idle st.1 (fun y hy => (others' y hy).2) own_
    · rw [if_neg (Nat.not_le.2 more), show storeBlock (d.drop 1) (F s.now).dcr.cache = _ from stored,
        decide_eq_false (Nat.not_le.2 more), ← filling]
      exact asked st.1 { c with count := some e.count, block := c.block + 1, reread := 0 } s.dcr.context _

end Sys2Proof.Machine

end

section
/-!
PROOFS. Deadlines, due marks and receipts (sections 8.2, 8.5).
-/

namespace Sys2Proof.Machine

set_option Elab.async false

/-! ### The completions that a step hands over -/

/-- The command that an item completes. -/
def Handed.command? (x : Handed) : Option Handle :=
  match x.item with
  | .completion h _ _ _ => some h
  | .event _ => none

/-- Where no command is completed twice, one that is handed over is completed (R176). -/
theorem Finishes.completes_once {s t u : State} (before : s.out <+: u.out) (ends : Finishes u t) {o : Owner} {h : Handle}
    {st : Status} {a b : Word} (can : u.canComplete h) (there : ⟨o, .completion h st a b⟩ ∈ u.handed)
    (once : (u.handed.filterMap Handed.command?).Nodup) : s.completes t h st a b = true := by
  refine ends.completes before can there fun x hx st' a' b' item => ?_
  have same : ∀ l : List Handed, (l.filterMap Handed.command?).Nodup → ∀ x ∈ l, ∀ y ∈ l, x.command? = some h →
      y.command? = some h → x = y := by
    intro l
    induction l with
    | nil => exact fun _ x hx => (nomatch hx)
    | cons z l ih =>
      intro nodup x hx y hy xh yh
      have tail : (l.filterMap Handed.command?).Nodup := by
        cases hz : z.command? <;> simp [hz] at nodup
        · exact nodup
        · exact nodup.2
      have head : ∀ w ∈ l, w.command? = some h → z.command? ≠ some h := by
        intro w hw wh zh
        rw [List.filterMap_cons_some zh, List.nodup_cons] at nodup
        exact nodup.1 (List.mem_filterMap.2 ⟨w, hw, wh⟩)
      rcases List.mem_cons.1 hx with rfl | hx' <;> rcases List.mem_cons.1 hy with rfl | hy'
      · rfl
      · exact absurd xh (head y hy' yh)
      · exact absurd yh (head x hx' xh)
      · exact ih tail x hx' y hy' xh yh
  have e := same u.handed once x hx _ there (by simp [Handed.command?, item]) (by simp [Handed.command?])
  rw [e] at item
  simpa using item.symm

/-- The writing of records leaves the command rings as they are. -/
theorem finishInOrder_rings (s : State) : (finishInOrder s).hif.rings = s.hif.rings := by
  have one : ∀ (s : State) (x : Handed), (deliver s x).hif.rings = s.hif.rings := by
    intro s x
    unfold deliver
    split
    · next h st a b _ =>
      rcases writeCompletion_cases h st a b s with e | ⟨c, -, e⟩ <;> rw [e]
      rfl
    · obtain ⟨_, _, _, e⟩ := writeEvent_side (by assumption) s
      rw [e]
  rw [finishInOrder_eq]
  exact List.foldlRecOn (motive := fun t => t.hif.rings = s.hif.rings) (b := { s with handed := [] })
    s.handed deliver rfl fun t e x _ => (one t x).trans e

/-- The completion of a SEND. -/
def sendItem (st : Status) (p : Packet) : Handed := ⟨.apq, .completion p.handle st (placedWord p) (sendWord p)⟩

theorem finishPacket_eq (p : Packet) (st : Status) (s : State) :
    finishPacket p st s = { s with handed := s.handed ++ [sendItem st p] } := rfl

theorem finishPackets_eq (st : Status) (ps : List Packet) (s : State) :
    finishPackets st ps s = { s with handed := s.handed ++ ps.map (sendItem st) } := by
  unfold finishPackets
  induction ps generalizing s with
  | nil => simp
  | cons p ps ih =>
    rw [List.foldl_cons, ih, finishPacket_eq]
    simp

theorem commands_sendItems (st : Status) (ps : List Packet) :
    (ps.map (sendItem st)).filterMap Handed.command? = ps.map (·.handle) := by
  induction ps with
  | nil => rfl
  | cons p ps ih => rw [List.map_cons, List.filterMap_cons_some (f := Handed.command?) (b := p.handle) rfl, ih, List.map_cons]

/-! ### Deadlines (R130) and due marks (R135) -/

/-- The expiries of a moment. -/
theorem expirePackets_eq (s : State) : expirePackets s = { s with
    apq := { s.apq with
      urgent := s.apq.urgent.filter (fun p => !p.late s.fmon.fsn)
      normal := s.apq.normal.filter (fun p => !p.late s.fmon.fsn)
      bulk := s.apq.bulk.filter (fun p => !p.late s.fmon.fsn) }
    handed := s.handed ++ ((classPackets s.apq).filter (fun p => p.late s.fmon.fsn)).map (sendItem .expired) } :=
  finishPackets_eq ..

section
variable {s : State} {p : Packet}

theorem nextReceipt_nothing (free : s.apq.acPacket = none) (none_ : s.apq.awaiting.find? (·.due) = none) :
    nextReceipt s = s := by
  simp [nextReceipt, free, none_]

/-- The collector asks for the receipt of the first packet due (R135). -/
theorem nextReceipt_asks (free : s.apq.acPacket = none) (first : s.apq.awaiting.find? (·.due) = some p)
    (present : s.ses.presence = true) : nextReceipt s =
      let q : Request := ⟨BitVec.ofNat 8 (p.target.index + 1), .getReceipt, [p.tag.getD 0]⟩
      { s with
        apq := { s.apq with acPacket := some p.handle.id }
        sbc := if flightIs .ac s then { s.sbc with deferred := some q } else { s.sbc with acReq := some q } } := by
  simp only [nextReceipt, free, first, present, if_true, joinSet, addressOf]
  split
  · next busy => rw [if_pos (by exact busy)]
  · next idle => rw [if_neg (by exact idle)]; rfl

/-! ### The outcome of a GET-RECEIPT (R136, R137) -/

/-- Whether a packet's target is there: BROADCAST, or an ACTIVE entry with its serial (R132). -/
def State.targetThere (s : State) (t : Target) : Prop :=
  t = .broadcast ∨ ((entryAt s t.index).state = .active ∧ t = .tile t.index (entryAt s t.index).serial)

theorem targetHeld_there (s : State) (t : Target) : targetHeld s t = true ↔ s.targetThere t := by
  cases t with
  | broadcast => simp [targetHeld, State.targetThere]
  | tile i sn =>
    simp only [targetHeld, State.targetThere, Target.index, Entry.isActive, Bool.and_eq_true, decide_eq_true_eq,
      reduceCtorEq, false_or, Target.tile.injEq, true_and]
    exact and_congr_right fun _ => eq_comm

theorem acResult_gone (o : TxOutcome) {id : Nat} (asked : s.apq.acPacket = some id)
    (gone : ∀ q ∈ s.apq.awaiting, q.handle.id ≠ id ∧ q.due = false) :
    acResult o s = { s with apq := { s.apq with acPacket := none } } := by
  have absent : awaitingWith s.apq id = none := List.find?_eq_none.2 fun q hq => by simp [(gone q hq).1]
  simp only [acResult, asked, absent]
  exact nextReceipt_nothing rfl (List.find?_eq_none.2 fun q hq => by simp [(gone q hq).2])

theorem awaitingWith_only (awaits : s.apq.awaiting = [p]) : awaitingWith s.apq p.handle.id = some p := by
  simp [awaitingWith, awaits]

section
variable (asked : s.apq.acPacket = some p.handle.id) (awaits : s.apq.awaiting = [p])
include asked awaits

theorem acResult_held (o : TxOutcome) (walks : s.rwk.walking = true) :
    acResult o s = { s with apq := { s.apq with held := some o } } := by
  simp [acResult, asked, awaitingWith_only awaits, walks]

theorem acResult_judges (o : TxOutcome) (still : s.rwk.walking = false) : acResult o s = judgeAndNext p o s := by
  simp [acResult, asked, awaitingWith_only awaits, still]

end

/-- The only packet awaiting leaves the list and its SEND completes; the collector has nothing more to ask. -/
theorem nextReceipt_finished (awaits : s.apq.awaiting = [p]) (free : s.apq.acPacket = none) (st : Status) :
    nextReceipt (finishAwaiting p st s) = finishPacket p st { s with apq := { s.apq with awaiting := [] } } := by
  have empty : dropAwaiting p.handle.id s.apq = { s.apq with awaiting := [] } := by simp [dropAwaiting, awaits]
  rw [finishAwaiting, empty]
  exact nextReceipt_nothing (by exact free) rfl

/-- The status with which the only packet awaiting ends, if it does (R136, R137). -/
inductive ReceiptEnds (s : State) (p : Packet) : TxOutcome → Status → Prop where
  | gone {o : TxOutcome} : ¬ s.targetThere p.target → ReceiptEnds s p o .targetGone
  | failed {o : TxOutcome} : s.targetThere p.target → o.failed → ReceiptEnds s p o .noResponse
  | otherTag {d : List Byte} : s.targetThere p.target → some (d.getD 0 0) ≠ p.tag → ReceiptEnds s p (.response d) .noResponse
  | received {d : List Byte} : s.targetThere p.target → some (d.getD 0 0) = p.tag → d.getD 1 0 ≠ 0 →
      ReceiptEnds s p (.response d) .ok
  | third {d : List Byte} : s.targetThere p.target → some (d.getD 0 0) = p.tag → d.getD 1 0 = 0 → 3 ≤ p.attempts →
      ReceiptEnds s p (.response d) .notDelivered
  | expired {d : List Byte} : s.targetThere p.target → some (d.getD 0 0) = p.tag → d.getD 1 0 = 0 → p.attempts < 3 →
      p.late s.fmon.fsn = true → ReceiptEnds s p (.response d) .expired

theorem judgeReceipt_ends {o : TxOutcome} {st : Status} (h : ReceiptEnds s p o st) :
    judgeReceipt p o s = finishAwaiting p st s := by
  have there : s.targetThere p.target → targetHeld s p.target = true := (targetHeld_there s p.target).2
  unfold judgeReceipt
  cases h with
  | gone away => exact if_pos (by simpa using (targetHeld_there s p.target).not.2 away)
  | failed here fails => rcases fails with rfl | rfl | rfl <;> exact if_neg (by simp [there here])
  | otherTag here other => exact (if_neg (by simp [there here])).trans (if_neg other)
  | received here own set_ => exact (if_neg (by simp [there here])).trans ((if_pos own).trans (if_neg set_))
  | third here own clear third =>
    exact (if_neg (by simp [there here])).trans ((if_pos own).trans ((if_pos clear).trans (if_pos third)))
  | expired here own clear few late =>
    exact (if_neg (by simp [there here])).trans ((if_pos own).trans ((if_pos clear).trans
      ((if_neg (Nat.not_le.2 few)).trans (if_pos late))))

/-- A packet that is not received goes back to the head of its class (R137). -/
theorem judgeReceipt_again {d : List Byte} (here : s.targetThere p.target) (own : some (d.getD 0 0) = p.tag)
    (clear : d.getD 1 0 = 0) (few : p.attempts < 3) (early : p.late s.fmon.fsn = false) :
    judgeReceipt p (.response d) s = joinHead { p with due := false } { s with apq := dropAwaiting p.handle.id s.apq } :=
  (if_neg (by simp [(targetHeld_there s p.target).2 here])).trans ((if_pos own).trans ((if_pos clear).trans
    ((if_neg (Nat.not_le.2 few)).trans (if_neg (by simp [early])))))

theorem judgeAndNext_ends {o : TxOutcome} {st : Status} (awaits : s.apq.awaiting = [p]) (h : ReceiptEnds s p o st) :
    judgeAndNext p o s =
      finishPacket p st { s with apq := { s.apq with awaiting := [], acPacket := none, held := none } } := by
  have h' : ReceiptEnds { s with apq := { s.apq with acPacket := none, held := none } } p o st := by
    cases h with
    | gone away => exact .gone away
    | failed here fails => exact .failed here fails
    | otherTag here other => exact .otherTag here other
    | received here own set_ => exact .received here own set_
    | third here own clear third => exact .third here own clear third
    | expired here own clear few late => exact .expired here own clear few late
  rw [judgeAndNext, judgeReceipt_ends h']
  exact nextReceipt_finished (s := { s with apq := { s.apq with acPacket := none, held := none } }) awaits rfl st

theorem judgeAndNext_again {d : List Byte} (awaits : s.apq.awaiting = [p]) (here : s.targetThere p.target)
    (own : some (d.getD 0 0) = p.tag) (clear : d.getD 1 0 = 0) (few : p.attempts < 3)
    (early : p.late s.fmon.fsn = false) : judgeAndNext p (.response d) s =
      joinHead { p with due := false } { s with apq := { s.apq with awaiting := [], acPacket := none, held := none } } := by
  have empty : dropAwaiting p.handle.id { s.apq with acPacket := none, held := none } =
      { s.apq with awaiting := [], acPacket := none, held := none } := by simp [dropAwaiting, awaits]
  rw [judgeAndNext, judgeReceipt_again (s := { s with apq := { s.apq with acPacket := none, held := none } })
    here own clear few early]
  rw [show dropAwaiting p.handle.id
    ({ s with apq := { s.apq with acPacket := none, held := none } } : State).apq = _ from empty]
  cases p.cls <;> simp only [joinHead, setQueue] <;> exact nextReceipt_nothing rfl rfl

end

/-- With no request waiting a grant decision serves nobody, a walk or none. -/
theorem grantDecision_nothing {t : State} {b : Sbc} (sbc : t.sbc = b.freed) (idle : b.idleRequests) :
    grantDecision t = t := by
  cases walks : t.rwk.walking with
  | false => exact grantDecision_freed sbc idle walks
  | true =>
    refine grantDecision_nobody ((grantChoice_walking walks).trans (if_neg ?_))
    rw [sbc]
    simp [Sbc.freed, idle.1]

theorem handOutcome_ac {x : Transaction} (own : x.requester = .ac) (o : TxOutcome) (s : State) :
    handOutcome x o s = acResult o s := by
  simp [handOutcome, own]

/-- Settles O59: the expiries and due marks as they are, and the receipt by the first case of R136 that applies. -/
theorem expiryAndReceipts : Obligations.ExpiryAndReceipts := by
  refine ⟨fun s settled => ?expiry, fun s p f settled awaits placed free present => ?due,
    fun s c x p pend channel flight own kind prompt asked unheld idle => ?receipt⟩
  case expiry =>
    intro keep
    refine ⟨?_, fun p c pend urgent normal bulk late => ?_⟩
    · obtain ⟨hif, out, fin⟩ := finishInOrder_spec (expirePackets s)
      have rings : (finishInOrder (expirePackets s)).hif.rings = s.hif.rings := by
        rw [finishInOrder_rings, expirePackets_eq]
      refine ⟨finishInOrder (expirePackets s), rfl, ?_, ?_, ?_, ?_, rings, fun nodup p mem late can => ?_⟩
      · rw [fin, expirePackets_eq]
      · rw [fin, expirePackets_eq]
      · rw [fin, expirePackets_eq]
      · rw [fin, expirePackets_eq]
      · have e := expirePackets_eq s
        refine (finishInOrder_finishes _).completes_once (o := .apq) (u := expirePackets s) ?_ ?_ ?_ ?_
        · rw [e]
        · rw [e]; exact can
        · rw [e]
          exact List.mem_append_right _ (List.mem_map_of_mem (List.mem_filter.2 ⟨mem, late⟩))
        · rw [e]
          simp only [settled, List.nil_append, commands_sendItems]
          exact nodup.sublist (List.filter_sublist.map _)
    · have e : expirePackets s = finishPacket p .expired { s with apq := { s.apq with normal := [] } } := by
        rw [expirePackets_eq, finishPacket_eq]
        simp [classPackets, urgent, normal, bulk, late]
      exact (congrArg done e).trans (done_complete (s := { s with apq := { s.apq with normal := [] } }) .apq .expired _ _
        ⟨pend.settled, pend.writes, pend.comp, pend.held⟩)
  case due =>
    intro q
    have marks : markDue s = { s with apq := { s.apq with
        awaiting := [if reached s.fmon.fsn (f + 2) then { p with due := true } else p] } } := by
      simp [markDue, awaits, placed]
    refine ⟨fun at_ => ?_, fun before undue => ?_⟩
    · rw [if_pos at_] at marks
      have e := (congrArg nextReceipt marks).trans (nextReceipt_asks (s := { s with apq := { s.apq with
        awaiting := [{ p with due := true }] } }) (p := { p with due := true }) free (by simp) present)
      exact done_of_eq e settled
    · rw [if_neg (by rw [before]; decide)] at marks
      have same : markDue s = s := by rw [marks, ← awaits]
      exact done_of_eq ((congrArg nextReceipt same).trans (nextReceipt_nothing free (by simp [awaits, undue]))) settled
  case receipt =>
    intro s1 there judged ended
    have deferred : s.sbc.deferred = none := idle.2.2.2.2.2
    let F : Nat → State := fun now => { s with now := now, sbc := s.sbc.freed }
    have ends_ : judged → ∀ o st now, ReceiptEnds s p o st → done (grantDecision (handOutcome x o (F now))) = ended now st := by
      rintro ⟨awaits, still⟩ o st now h
      have h' : ReceiptEnds (F now) p o st := by
        cases h with
        | gone away => exact .gone away
        | failed here fails => exact .failed here fails
        | otherTag here other => exact .otherTag here other
        | received here own set_ => exact .received here own set_
        | third here own clear third => exact .third here own clear third
        | expired here own clear few late => exact .expired here own clear few late
      have e := (acResult_judges (s := F now) asked awaits o still).trans (judgeAndNext_ends (s := F now) awaits h')
      rw [handOutcome_ac own, e]
      refine (congrArg done (grantDecision_nothing (b := s.sbc) rfl idle)).trans ?_
      rw [← unheld]
      exact done_complete (s := { s1 with now := now }) .apq st _ _ ⟨pend.settled, pend.writes, pend.comp, pend.held⟩
    have fails := attemptFails_of (claim := fun run now => judged → run = ended now (if there then .noResponse else .targetGone))
      channel flight deferred fun o now failed j => by
        by_cases here : there
        · rw [if_pos here]
          exact ends_ j o _ now (.failed here failed)
        · rw [if_neg here]
          exact ends_ j o _ now (.gone here)
    refine ⟨fun f d verdict => ?_, fails.1, fun f third bad => (fails.2 third).1 f (.inl bad),
      fun t0 third timer => (fails.2 third).2 t0 prompt timer⟩
    intro run tag ends
    have end_ : run = _ := exec_response channel flight deferred verdict
    have e_ := fun j st h => end_.trans (ends_ j (.response d) st s.now h)
    refine ⟨fun gone => ?_, fun awaits walks => ?_, fun j away => e_ j _ (.gone away), fun j here other => e_ j _ (.otherTag here other),
      fun j here own_ set_ => e_ j _ (.received here own_ set_), fun j here own_ clear => ⟨fun third => e_ j _ (.third here own_ clear third),
        fun few late => e_ j _ (.expired here own_ clear few late), fun few early => ?_⟩⟩
    · refine end_.trans (done_of_eq ?_ pend.settled)
      rw [handOutcome_ac own, acResult_gone (s := F s.now) _ asked gone]
      exact grantDecision_nothing (b := s.sbc) rfl idle
    · refine end_.trans (done_of_eq ?_ pend.settled)
      rw [handOutcome_ac own, acResult_held (s := F s.now) asked awaits _ walks]
      exact grantDecision_nothing (b := s.sbc) rfl idle
    · obtain ⟨awaits, still⟩ := j
      refine end_.trans (done_of_eq ?_ pend.settled)
      rw [handOutcome_ac own, acResult_judges (s := F s.now) asked awaits _ still,
        judgeAndNext_again (s := F s.now) awaits here own_ clear few early, ← unheld]
      refine (grantDecision_nothing (b := s.sbc) (by cases p.cls <;> rfl) idle).trans ?_
      cases p.cls <;> simp [joinHead, setQueue, queueOf, s1, F]

end Sys2Proof.Machine

end

section
/-!
PROOFS. The walker's steps: entries that become LOST, requests sent, the port loop, and the end of a walk
(sections 4.4 to 4.8).
-/

namespace Sys2Proof.Machine

set_option Elab.async false

/-! ### Entries that become LOST (R77) -/

/-- What losing an entry leaves of it. -/
theorem lose_leaves (gen : Half) (e : Entry) : (e.lose gen).parent = e.parent ∧ (e.lose gen).port = e.port
    ∧ (e.lose gen).depth = e.depth ∧ (e.lose gen).ports = e.ports ∧ (e.lose gen).present = e.present
    ∧ (e.lose gen).serial = e.serial ∧ (e.lose gen).verified = e.verified ∧ (e.lose gen).isVacant = e.isVacant := by
  unfold Entry.lose
  split
  · next held =>
    refine ⟨rfl, rfl, rfl, rfl, rfl, rfl, rfl, ?_⟩
    cases h : e.state <;> simp_all [Entry.isVacant, Entry.isHeld]
  · exact ⟨rfl, rfl, rfl, rfl, rfl, rfl, rfl, rfl⟩

theorem lose_lose (gen : Half) (e : Entry) : (e.lose gen).lose gen = e.lose gen := by
  unfold Entry.lose
  split
  · simp [Entry.isHeld]
  · rfl

/-- How the model writes that an entry is lost. -/
theorem lose_eq (gen : Half) (e : Entry) : e.lose gen =
    if e.state = .active ∨ e.state = .denied then { e with state := .lost, lostGen := gen } else e := by
  simp [Entry.lose, Entry.isHeld]

/-- A roster in which every entry that satisfies lost at its index is lost. -/
def loseAt (gen : Half) (lost : Nat → Bool) (r : List Entry) : List Entry :=
  r.mapIdx (fun j e => if lost j then e.lose gen else e)

section
variable {gen : Half} {lost : Nat → Bool} {r : List Entry}

theorem loseWhere_eq (p : Nat → Bool) (s : State) : loseWhere p s = { s with
    rwk := { s.rwk with roster := loseAt s.rwk.generation p s.rwk.roster } } := rfl

@[simp] theorem loseAt_length : (loseAt gen lost r).length = r.length := by simp [loseAt]

theorem loseAt_getElem? (i : Nat) :
    (loseAt gen lost r)[i]? = r[i]?.map (fun e => if lost i then e.lose gen else e) := by
  simp [loseAt]

theorem vacant_lose (gen : Half) : Entry.vacant.lose gen = Entry.vacant := rfl

theorem loseAt_getD (i : Nat) : (loseAt gen lost r).getD i Entry.vacant =
    if lost i then (r.getD i Entry.vacant).lose gen else r.getD i Entry.vacant := by
  rw [List.getD_eq_getElem?_getD, List.getD_eq_getElem?_getD, loseAt_getElem?]
  cases r[i]? with
  | none => simp [vacant_lose]
  | some e => rfl

/-- A field that losing leaves alone is the same all over the roster. -/
theorem loseAt_field {α : Type} {f : Entry → α} (same : ∀ e : Entry, f (e.lose gen) = f e) (i : Nat) :
    f ((loseAt gen lost r).getD i Entry.vacant) = f (r.getD i Entry.vacant) := by
  rw [loseAt_getD]
  split
  · exact same _
  · rfl

theorem isBelow_congr {r r' : List Entry} (same : ∀ i, (r'.getD i Entry.vacant).parent = (r.getD i Entry.vacant).parent)
    (i n j : Nat) : isBelow r' i n j = isBelow r i n j := by
  induction n generalizing j with
  | zero => rfl
  | succ n ih =>
    unfold isBelow
    rw [same j]
    split
    · rfl
    · next k _ => rw [ih]

theorem isBelow_loseAt (i n j : Nat) : isBelow (loseAt gen lost r) i n j = isBelow r i n j :=
  isBelow_congr (loseAt_field (f := (·.parent)) fun e => (lose_leaves gen e).1) i n j

theorem loseAt_none (none_ : ∀ i, lost i = false) : loseAt gen lost r = r := by
  refine List.ext_getElem? fun i => ?_
  rw [loseAt_getElem?, none_ i]
  exact congrFun Option.map_id _

theorem loseAt_loseAt (lost' : Nat → Bool) :
    loseAt gen lost' (loseAt gen lost r) = loseAt gen (fun i => lost i || lost' i) r := by
  refine List.ext_getElem? fun i => ?_
  rw [loseAt_getElem?, loseAt_getElem?, loseAt_getElem?, Option.map_map]
  congr 1
  funext e
  cases hl : lost i <;> cases hl' : lost' i <;> simp [lose_lose]

theorem loseAt_congr {lost' : Nat → Bool} (same : ∀ i < r.length, lost i = lost' i) :
    loseAt gen lost r = loseAt gen lost' r := by
  refine List.ext_getElem? fun i => ?_
  rw [loseAt_getElem?, loseAt_getElem?]
  by_cases small : i < r.length
  · rw [same i small]
  · rw [List.getElem?_eq_none (Nat.le_of_not_lt small)]
    rfl

end

/-- The entries that satisfy gone, and their descendants. -/
def under (r : List Entry) (gone : Entry → Bool) (j : Nat) : Bool :=
  (List.range r.length).any (fun i => gone (r.getD i Entry.vacant) && (decide (j = i) || isBelow r i 64 j))

theorem under_loseAt {gen : Half} {lost : Nat → Bool} {r : List Entry} {gone : Entry → Bool}
    (same : ∀ e, gone (Entry.lose gen e) = gone e) : under (loseAt gen lost r) gone = under r gone := by
  funext j
  simp only [under, loseAt_length]
  congr 1
  funext i
  rw [loseAt_field same, isBelow_loseAt]

theorem under_or (r : List Entry) (g h : Entry → Bool) (j : Nat) :
    (under r g j || under r h j) = under r (fun e => g e || h e) j := by
  unfold under
  rw [Bool.eq_iff_iff]
  simp only [Bool.or_eq_true, List.any_eq_true, Bool.and_eq_true]
  constructor
  · rintro (⟨i, hi, hg, h'⟩ | ⟨i, hi, hg, h'⟩)
    · exact ⟨i, hi, .inl hg, h'⟩
    · exact ⟨i, hi, .inr hg, h'⟩
  · rintro ⟨i, hi, hg | hg, h'⟩
    · exact .inl ⟨i, hi, hg, h'⟩
    · exact .inr ⟨i, hi, hg, h'⟩

theorem under_none {r : List Entry} {g : Entry → Bool} (none_ : ∀ e, g e = false) (j : Nat) : under r g j = false := by
  simp [under, none_]

/-- How statements write the roster in which such entries and their descendants are lost. -/
theorem mapIdx_under (gen : Half) (r : List Entry) {P : Entry → Prop} [DecidablePred P] {g : Entry → Bool}
    (same : ∀ e, g e = true ↔ P e) :
    r.mapIdx (fun j c => if ∃ i ∈ List.range r.length, P (r.getD i Entry.vacant) ∧ (j = i ∨ isBelow r i 64 j = true) then
      (if c.state = .active ∨ c.state = .denied then { c with state := .lost, lostGen := gen } else c) else c)
      = loseAt gen (under r g) r := by
  unfold loseAt
  congr 1
  funext j c
  rw [← lose_eq]
  refine if_congr ?_ rfl rfl
  simp [under, same]

/-! ### Requests of the walker -/

/-- The state in which the outcome of the walker's transaction is handled, its end being at the time now. -/
def State.afterTx (s : State) (now : Nat) : State :=
  { s with now := now, sbc := s.sbc.freed, rwk := { s.rwk with wait := none } }

section
variable {s : State} {now : Nat}

/-- A request that the walker places at the end of its transaction is sent (R42, R53). -/
theorem grantDecision_wkPlace (walks : s.rwk.walking = true) {w : WalkWait} {d : Byte} {k : RequestKind} {ps : List Byte}
    (kind : k ≠ .releaseAll) :
    grantDecision (wkPlace w d k ps (s.afterTx now)) = s.walkerSends now w ⟨d, k, ps⟩ := by
  have placed : wkPlace w d k ps (s.afterTx now) = { s.afterTx now with
      rwk := { s.rwk with wait := some w }, sbc := { s.sbc.freed with wkReq := some ⟨d, k, ps⟩ } } := joinSet_free rfl
  have choice := grantChoice_walking (s := { s.afterTx now with
    rwk := { s.rwk with wait := some w }, sbc := { s.sbc.freed with wkReq := some ⟨d, k, ps⟩ } }) walks
  rw [placed, grantDecision_serves rfl (choice.trans (if_pos rfl)) rfl, grantTo_eq (by exact kind)]
  rfl

theorem done_wkPlace (settled : s.handed = []) (walks : s.rwk.walking = true) {w : WalkWait} {d : Byte} {k : RequestKind}
    {ps : List Byte} (kind : k ≠ .releaseAll) :
    done (grantDecision (wkPlace w d k ps (s.afterTx now))) = .next (s.walkerSends now w ⟨d, k, ps⟩) :=
  done_of_eq (grantDecision_wkPlace walks kind) settled

/-! ### The end of a walk (R78, R79) -/

theorem grantDecision_touches (s : State) : Touches [.sbc, .out] s (grantDecision s) := by
  unfold grantDecision
  split
  · split
    · split
      · exact grantTo_touches _ _ s
      · exact .refl _ s
    · exact .refl _ s
  · exact .refl _ s

theorem grantDecision_handed (s : State) : (grantDecision s).handed = s.handed := by
  unfold grantDecision
  split
  · split
    · split
      · exact sendAttempt_handed _ _
      · rfl
    · rfl
  · rfl

theorem apPlace_touches (i : Nat) (s : State) : Touches [.sbc] s (apPlace i s) := by
  unfold apPlace
  split
  · exact (setSbc_touches s _).trans (joinSet_touches _ _ _)
  · exact setSbc_touches s _

theorem apPlace_handed (i : Nat) (s : State) : (apPlace i s).handed = s.handed := by
  unfold apPlace joinSet
  split
  · split <;> rfl
  · rfl

theorem pollCheck_touches (s : State) : Touches [.sbc] s (pollCheck s) := by
  unfold pollCheck
  split
  · dsimp only
    split
    · exact (setSbc_touches s _).trans (apPlace_touches _ _)
    · exact (setSbc_touches s _).trans (setSbc_touches _ _)
  · exact .refl _ s

theorem pollCheck_handed (s : State) : (pollCheck s).handed = s.handed := by
  unfold pollCheck
  split
  · dsimp only
    split
    · exact apPlace_handed _ _
    · rfl
  · rfl

theorem nextReceipt_touches (s : State) : Touches [.apq, .sbc] s (nextReceipt s) := by
  have judged : ∀ (p : Packet) (s : State), Touches [.apq] s (judgeReceipt p .linkDown s) := by
    intro p s
    have finished : ∀ st, Touches [.apq] s (finishAwaiting p st s) := fun st =>
      (setApq_touches s _).trans ((finishPacket_touches p st _).mono (by decide))
    unfold judgeReceipt
    split
    · exact finished _
    · exact finished _
  unfold nextReceipt
  split
  · exact .refl _ s
  · split
    · exact .refl _ s
    · split
      · exact ((setApq_touches s _).mono (by decide)).trans ((joinSet_touches .ac _ _).mono (by decide))
      · exact (Touches.foldl (fun s p => judged p s) _ s).mono (by decide)

theorem judgeAndNext_touches (p : Packet) (o : TxOutcome) (s : State) : Touches [.apq, .sbc] s (judgeAndNext p o s) := by
  have joined : ∀ (p : Packet) (s : State), Touches [.apq] s (joinHead p s) := fun p s => setApq_touches s _
  have finished : ∀ (st : Status) (s : State), Touches [.apq] s (finishAwaiting p st s) := fun st s =>
    (setApq_touches s _).trans ((finishPacket_touches p st _).mono (by decide))
  have judged : ∀ s : State, Touches [.apq] s (judgeReceipt p o s) := by
    intro s
    unfold judgeReceipt
    split
    · exact finished _ s
    · split
      · exact finished _ s
      · split
        · split
          · unfold notReceived
            split
            · exact finished _ s
            · split
              · exact finished _ s
              · exact (setApq_touches s _).trans (joined _ _)
          · exact finished _ s
        · exact finished _ s
      · exact finished _ s
  exact (((setApq_touches s _).trans (judged _)).mono (by decide)).trans (nextReceipt_touches _)

theorem packetsSweep_touches (s : State) : Touches [.apq, .sbc] s (packetsSweep s) := by
  unfold packetsSweep
  extract_lets keep src s1 s2
  have first : Touches [.apq] s s1 := (setApq_touches s _).trans ((finishPackets_touches _ _ _).mono (by decide))
  have second : Touches [.apq, .sbc] s s2 := (first.mono (by decide)).trans (settleReceipt_touches _)
  split
  · split
    · exact second.trans (judgeAndNext_touches _ _ _)
    · exact second
  · exact second.trans (nextReceipt_touches _)

theorem endRead_touches (st : Status) (w : Word) (s : State) : Touches [.dcr] s (endRead st w s) := by
  unfold endRead
  split
  · exact .trans (b := { s with dcr := _ }) { dcr := .inl (by decide) } ((complete_touches _ _ _ _ _ _).mono (by decide))
  · exact .refl _ s

theorem setDcr_touches (s : State) (d : Dcr) : Touches [.dcr] s { s with dcr := d } := { dcr := .inl (by decide) }

theorem requestBlock_touches (c : ReadContext) (s : State) : Touches [.dcr, .sbc] s (requestBlock c s) := by
  unfold requestBlock
  split
  · exact ((setDcr_touches s _).mono (by decide)).trans ((joinSet_touches _ _ _).mono (by decide))
  · exact (endRead_touches _ _ s).mono (by decide)

theorem judgeRead_touches (sn : Serial) (c : ReadContext) (o : TxOutcome) (s : State) :
    Touches [.dcr, .sbc] s (judgeRead sn c o s) := by
  have ended : ∀ st w, Touches [.dcr, .sbc] s (endRead st w s) := fun st w => (endRead_touches st w s).mono (by decide)
  have asked : ∀ (d : Dcr) c, Touches [.dcr, .sbc] s (requestBlock c { s with dcr := d }) := fun d c =>
    ((setDcr_touches s d).mono (by decide)).trans (requestBlock_touches c _)
  have filled : ∀ d : Dcr, Touches [.dcr, .sbc] s (fillDone sn { s with dcr := d }) := fun d =>
    ((setDcr_touches s d).mono (by decide)).trans ((setDcr_touches _ _).mono (by decide))
  unfold judgeRead
  split
  · exact ended _ _
  · dsimp only
    split
    · exact requestBlock_touches _ s
    · split
      · split
        · exact ended _ _
        · exact asked _ _
      · unfold judgeBlock
        split
        · split
          · unfold rereadBlock
            split
            · exact requestBlock_touches _ s
            · exact ended _ _
          · split
            · unfold openDescriptor
              dsimp only
              split
              · split
                · exact filled _
                · exact asked _ _
              · split
                · exact ended _ _
                · exact asked _ _
            · unfold nextBlock
              dsimp only
              split
              · exact filled _
              · exact asked _ _
        · exact ended _ _
        · exact ended _ _

theorem drResult_touches (o : TxOutcome) (s : State) : Touches [.dcr, .sbc] s (drResult o s) := by
  unfold drResult
  split
  · split
    · exact (setDcr_touches s _).mono (by decide)
    · exact judgeRead_touches _ _ _ _
  · exact .refl _ s

theorem judgeHeldBlock_touches (s : State) : Touches [.dcr, .sbc] s (judgeHeldBlock s) := by
  unfold judgeHeldBlock
  split
  · exact ((setDcr_touches s _).mono (by decide)).trans (drResult_touches _ _)
  · exact .refl _ s

/-- RWK after the walk's end, but for the ENUMERATE that the report completes. -/
def Rwk.walked (r : Rwk) (o : WalkOutcome) : Rwk :=
  { r with
    stack := [], wait := none, walking := false, generation := r.generation + 1, check := checkValue r.roster
    lastWalk := some ⟨r.kind, r.starter, o, r.warnings, r.generation + 1⟩ }

theorem closeWalk_touches (o : WalkOutcome) (s : State) : Touches [.rwk, .sbc, .out] s (closeWalk o (stepGeneration s)) :=
  ((Touches.trans (b := { s with rwk := s.rwk.walked o }) { rwk := .inl (by decide) }
    ((grantDecision_touches _).mono (by decide))).trans ((pollCheck_touches _).mono (by decide)))

theorem closeWalk_rwk (o : WalkOutcome) (s : State) : (closeWalk o (stepGeneration s)).rwk = s.rwk.walked o := by
  have grant := (grantDecision_touches { s with rwk := s.rwk.walked o }).rwk.resolve_left (by decide)
  exact ((pollCheck_touches _).rwk.resolve_left (by decide)).trans grant

theorem closeWalk_handed (o : WalkOutcome) (s : State) : (closeWalk o (stepGeneration s)).handed = s.handed :=
  (pollCheck_handed _).trans (grantDecision_handed { s with rwk := s.rwk.walked o })

/-- The session after a walk's end (R6, R11). -/
def sessionAfter (o : WalkOutcome) (s : State) : SessionState :=
  if s.rwk.kind = .refresh then s.ses.session
  else if o ≠ .aborted ∧ (entryAt s 0).isHeld then .ready else .waiting

theorem leaveWalking_touches (o : WalkOutcome) (s : State) : Touches [.ses, .out] s (leaveWalking o s) := by
  unfold leaveWalking
  split
  · exact .refl _ s
  · split
    · exact setSession_touches _ _ s
    · split <;> exact setSession_touches _ _ s

theorem leaveWalking_session (o : WalkOutcome) (s : State) : (leaveWalking o s).ses.session = sessionAfter o s := by
  have moved : ∀ new cause, (setSession new cause s).ses.session = new := fun new cause => by rw [setSession_eq]; rfl
  have after : s.rwk.kind = .full → sessionAfter o s = if o ≠ .aborted ∧ (entryAt s 0).isHeld then .ready else .waiting :=
    fun full => if_neg (by rw [full]; decide)
  unfold leaveWalking
  split
  · next refresh => exact (if_pos refresh).symm
  · next full =>
    rw [after full]
    split
    · exact moved _ _
    · next own =>
      by_cases held : (entryAt s 0).isHeld = true
      · rw [if_pos held, if_pos ⟨own, held⟩, moved]
      · rw [if_neg held, if_neg fun h => held h.2, moved]

theorem leaveWalking_hands (o : WalkOutcome) (s : State) : Hands HandedItem.anEvent 1 s (leaveWalking o s) := by
  have moved : ∀ new cause, Hands HandedItem.anEvent 1 s (setSession new cause s) := fun new cause =>
    (setSession_hands new cause s).mono (fun i h => ⟨_, h⟩) (Nat.le_refl 1)
  unfold leaveWalking
  split
  · exact .refl _ _ s
  · split
    · exact moved _ _
    · split <;> exact moved _ _

theorem reportWalk_touches (o : WalkOutcome) (s : State) : Touches [.rwk] s (reportWalk o s) := by
  unfold reportWalk
  dsimp only
  split
  · exact .trans (b := { s with rwk := { s.rwk with enumerate := none } }) { rwk := .inl (by decide) }
      ((completeOpt_touches ..).mono (by decide))
  · exact (post_touches ..).mono (by decide)

theorem reportWalk_rwk (o : WalkOutcome) (s : State) : ∃ e, (reportWalk o s).rwk = { s.rwk with enumerate := e } := by
  unfold reportWalk
  dsimp only
  split
  · exact ⟨none, ((completeOpt_touches ..).rwk.resolve_left (by decide))⟩
  · exact ⟨s.rwk.enumerate, rfl⟩

/-- What a walk's end leaves (R78). -/
structure WalkEnded (o : WalkOutcome) (s t : State) : Prop where
  touches : Touches [.ses, .sbc, .rwk, .dcr, .apq, .out] s t
  rwk : ∃ e, t.rwk = { s.rwk.walked o with enumerate := e }
  session : t.ses.session = sessionAfter o s

theorem endWalk_spec (o : WalkOutcome) (s : State) : WalkEnded o s (endWalk o s) := by
  have closed := closeWalk_touches o s
  have rwk := closeWalk_rwk o s
  unfold endWalk
  generalize closeWalk o (stepGeneration s) = c at closed rwk
  have swept := packetsSweep_touches c
  have judged := judgeHeldBlock_touches (packetsSweep c)
  generalize hj : judgeHeldBlock (packetsSweep c) = j at judged
  have jrwk : j.rwk = s.rwk.walked o := ((judged.rwk.resolve_left (by decide)).trans (swept.rwk.resolve_left (by decide))).trans rwk
  have jses : j.ses = s.ses :=
    ((judged.ses.resolve_left (by decide)).trans (swept.ses.resolve_left (by decide))).trans (closed.ses.resolve_left (by decide))
  have left := leaveWalking_touches o j
  have told := reportWalk_touches o (leaveWalking o j)
  refine ⟨?_, ?_, ?_⟩
  · exact ((((closed.mono (by decide)).trans (swept.mono (by decide))).trans (judged.mono (by decide))).trans
      (left.mono (by decide))).trans (told.mono (by decide))
  · obtain ⟨e, he⟩ := reportWalk_rwk o (leaveWalking o j)
    refine ⟨e, he.trans ?_⟩
    rw [left.rwk.resolve_left (by decide), jrwk]
  · rw [told.ses.resolve_left (by decide), leaveWalking_session, sessionAfter, sessionAfter, jses]
    have same : j.rwk.kind = s.rwk.kind ∧ entryAt j 0 = entryAt s 0 := by simp only [entryAt, jrwk]; exact ⟨rfl, rfl⟩
    rw [same.1, same.2]

/-- The outcome of a walk that ends by its own steps, as statements say it. -/
theorem ownOutcome_eq (s : State) : ownOutcome s = s.walkOutcome := by
  have root : (!(entryAt s 0).isHeld) = true ↔ (entryAt s 0).state ≠ .active ∧ (entryAt s 0).state ≠ .denied := by
    simp [Entry.isHeld]
  exact if_congr root rfl rfl

theorem walkOutcome_noRoot (s : State) : s.walkOutcome = .noRoot ↔ (entryAt s 0).isHeld = false := by
  unfold State.walkOutcome
  split
  · next away => simpa [Entry.isHeld] using away
  · next here =>
    have held : (entryAt s 0).isHeld = true := by
      by_contra none_
      exact here (by simpa [Entry.isHeld] using none_)
    split
    · simp [held]
    · split <;> simp [held]

theorem walkOutcome_own (s : State) : s.walkOutcome ≠ .aborted ∧ s.walkOutcome ≠ .linkDown := by
  unfold State.walkOutcome
  split
  · decide
  · split
    · decide
    · split <;> decide

theorem checkValue_eq (s : State) : checkValue s.rwk.roster = s.rosterCheck := by
  have actives : s.rwk.roster.filter Entry.isActive = s.rwk.roster.filter (fun e => decide (e.state = .active)) := rfl
  unfold checkValue State.rosterCheck
  rw [actives, List.flatMap_def]
  dsimp only
  split
  · next empty => rw [if_pos empty]
  · next some_ => rw [if_neg some_]

/-- A walk ends by its own steps at the end of the walker's transaction. -/
theorem endOwn_ends : s.walkEnds now (done (grantDecision (endOwn (s.afterTx now)))) := by
  have ended := endWalk_spec (ownOutcome (s.afterTx now)) (s.afterTx now)
  rw [show ownOutcome (s.afterTx now) = s.walkOutcome from (ownOutcome_eq _).trans rfl] at ended
  rw [endOwn, show ownOutcome (s.afterTx now) = s.walkOutcome from (ownOutcome_eq _).trans rfl]
  generalize endWalk s.walkOutcome (s.afterTx now) = t at ended
  have grant := grantDecision_touches t
  obtain ⟨e, rwk⟩ := ended.rwk
  have rwk' := (grant.rwk.resolve_left (by decide)).trans rwk
  have ses' := grant.ses.resolve_left (by decide)
  have now' := (grant.now.resolve_left (by decide)).trans (ended.touches.now.resolve_left (by decide))
  refine done_fields rfl fun hif out => ?_
  refine ⟨now', ?_⟩
  dsimp only
  rw [rwk', ses', ended.session]
  refine ⟨rfl, rfl, rfl, rfl, checkValue_eq s, rfl, ?_⟩
  have own := walkOutcome_own s
  have root := walkOutcome_noRoot s
  have same : entryAt (s.afterTx now) 0 = entryAt s 0 := rfl
  unfold sessionAfter
  rw [show (s.afterTx now).rwk.kind = s.rwk.kind from rfl, same]
  refine if_congr Iff.rfl rfl ?_
  by_cases none_ : s.walkOutcome = .noRoot
  · rw [if_pos none_, if_neg fun h => by simp [root.1 none_] at h]
  · rw [if_neg none_, if_pos ⟨own.1, by simpa using mt root.2 none_⟩]

/-- The walk goes back to the pair on top of the stack. -/
theorem closePort_closes (settled : s.handed = []) (walks : s.rwk.walking = true) :
    s.portCloses now s.rwk.stack (done (grantDecision (closePort (s.afterTx now)))) := by
  intro t p below stack
  have e : closePort (s.afterTx now) = wkPlace .close (addressOf t) .close [BitVec.ofNat 8 p]
      (State.afterTx { s with rwk := { s.rwk with stack := (t, p + 1) :: below } } now) := by
    simp [closePort, advancePort, State.afterTx, stack]
  rw [e]
  exact done_wkPlace (s := { s with rwk := { s.rwk with stack := (t, p + 1) :: below } }) settled walks (by decide)

end

end Sys2Proof.Machine

end

section
/-!
PROOFS. The port loop, what follows a checked entry, and the steps of a walk (sections 4.4, 4.7).
-/

namespace Sys2Proof.Machine

set_option Elab.async false

/-! ### The port loop (R68, R69, R73) -/

section
variable {s : State} {now t p : Nat} {rest : List (Nat × Nat)} {run : Result}

/-- The entries that a refresh walk finds gone at the ports of tile t from p up to stop, without the ports behind which
there is a tile. -/
def State.gone (s : State) (t p stop : Nat) (c : Entry) : Bool :=
  !c.isVacant && decide (c.parent = some t) && decide (p ≤ c.port) && decide (c.port < stop)
    && !(entryAt s t).present.getLsbD c.port && !c.verified

/-- The roster when the walk has passed over the ports of tile t from p up to stop. -/
def State.passed (s : State) (t p stop : Nat) : List Entry :=
  match s.rwk.kind with
  | .full => s.rwk.roster
  | .refresh => loseAt s.rwk.generation (under s.rwk.roster (s.gone t p stop)) s.rwk.roster

/-- A port of tile t from p on with a tile behind it. -/
def State.behind (s : State) (t p q : Nat) : Prop :=
  p ≤ q ∧ q < (entryAt s t).ports ∧ (entryAt s t).present.getLsbD q = true

/-- What the port loop leaves of the walk when no port is left to open. -/
def State.portsDone (s : State) (t p : Nat) (rest : List (Nat × Nat)) (deep : Bool) : State :=
  { s with rwk := { s.rwk with
    roster := s.passed t p (entryAt s t).ports, depthMark := s.rwk.depthMark || deep, stack := rest } }

/-- The step of the port loop that opens port q. -/
def State.opens (s : State) (now t p q : Nat) (rest : List (Nat × Nat)) : State :=
  let s1 : State := { s with rwk := { s.rwk with roster := s.passed t p q, stack := (t, q) :: rest } }
  s1.walkerSends now (.openPort (knownChild t q s1)) ⟨BitVec.ofNat 8 (t + 1), .open_, [BitVec.ofNat 8 q]⟩

theorem passed_eq (s : State) (t p stop : Nat) : (if s.rwk.kind = .full then s.rwk.roster
    else s.rwk.roster.mapIdx (fun j c =>
      if ∃ i ∈ List.range s.rwk.roster.length, ((entryAt s i).state ≠ .vacant ∧ (entryAt s i).parent = some t
        ∧ p ≤ (entryAt s i).port ∧ (entryAt s i).port < stop ∧ (entryAt s t).present.getLsbD (entryAt s i).port = false
        ∧ (entryAt s i).verified = false) ∧ (j = i ∨ isBelow s.rwk.roster i 64 j = true) then
      (if c.state = .active ∨ c.state = .denied then { c with state := .lost, lostGen := s.rwk.generation } else c) else c))
    = s.passed t p stop := by
  unfold State.passed
  cases s.rwk.kind with
  | full => rfl
  | refresh =>
    refine (if_neg (by decide)).trans ?_
    exact mapIdx_under s.rwk.generation s.rwk.roster (g := s.gone t p stop)
      (P := fun c => c.state ≠ .vacant ∧ c.parent = some t ∧ p ≤ c.port ∧ c.port < stop
        ∧ (entryAt s t).present.getLsbD c.port = false ∧ c.verified = false)
      fun e => by simp [State.gone, Entry.isVacant, and_assoc]

/-- The port loop's statement with the words above. -/
structure State.GoesOn (s : State) (now t p : Nat) (rest : List (Nat × Nat)) (run : Result) : Prop where
  opens : ∀ q, s.behind t p q → (∀ k < q, ¬ s.behind t p k) → (entryAt s t).depth < 7 →
    run = .next (s.opens now t p q rest)
  ends : (∀ q, ¬ s.behind t p q) ∨ 7 ≤ (entryAt s t).depth → ∀ deep, (deep = true ↔ ∃ q, s.behind t p q) →
    (s.portsDone t p rest deep).portCloses now rest run ∧ (rest = [] → (s.portsDone t p rest deep).walkEnds now run)

theorem State.GoesOn.walkGoesOn (h : s.GoesOn now t p rest run) : s.walkGoesOn now t p rest run := by
  unfold State.walkGoesOn
  intro e r lose gone passed there done_
  have same : ∀ stop, passed stop = s.passed t p stop := passed_eq s t p
  refine ⟨fun q hq first shallow => ?_, fun none_ => ?_⟩
  · intro s1
    have e1 : s1 = { s with rwk := { s.rwk with roster := s.passed t p q, stack := (t, q) :: rest } } := by
      simp only [s1, same]
    rw [e1]
    exact h.opens q hq first shallow
  · have none_' : (∀ q, ¬ s.behind t p q) ∨ 7 ≤ (entryAt s t).depth :=
      none_.imp_left fun n q hq => n q hq.2.1 hq
    have deep : (decide (∃ q ∈ List.range e.ports, there q) = true ↔ ∃ q, s.behind t p q) := by
      rw [decide_eq_true_iff]
      exact ⟨fun ⟨q, _, hq⟩ => ⟨q, hq⟩, fun ⟨q, hq⟩ => ⟨q, List.mem_range.2 hq.2.1, hq⟩⟩
    have e1 : done_ = s.portsDone t p rest (decide (∃ q ∈ List.range e.ports, there q)) := by
      simp only [done_, same]
      rfl
    rw [e1]
    exact h.ends none_' _ deep

theorem passed_full (full : s.rwk.kind = .full) (stop : Nat) : s.passed t p stop = s.rwk.roster := by
  rw [State.passed, full]

theorem passed_refresh (refresh : s.rwk.kind = .refresh) (stop : Nat) : s.passed t p stop =
    loseAt s.rwk.generation (under s.rwk.roster (s.gone t p stop)) s.rwk.roster := by
  rw [State.passed, refresh]

/-- What a step of the loop leaves of the entry that it works on and of the others. -/
theorem passed_field {α : Type} {f : Entry → α} (same : ∀ (gen : Half) (e : Entry), f (e.lose gen) = f e) (stop i : Nat) :
    f ((s.passed t p stop).getD i Entry.vacant) = f (entryAt s i) := by
  unfold State.passed
  split
  · rfl
  · exact loseAt_field (same _) i

/-- s with the ports of tile t up to q passed over. -/
def State.pass (s : State) (t p q : Nat) : State := { s with rwk := { s.rwk with roster := s.passed t p q } }

theorem gone_lose (stop : Nat) (gen : Half) (e : Entry) : s.gone t p stop (e.lose gen) = s.gone t p stop e := by
  obtain ⟨parent, port, -, -, -, -, verified, vacant⟩ := lose_leaves gen e
  simp [State.gone, parent, port, verified, vacant]

theorem gone_pass (q stop a : Nat) (c : Entry) : (s.pass t p q).gone t a stop c = s.gone t a stop c := by
  have present : (entryAt (s.pass t p q) t).present = (entryAt s t).present :=
    passed_field (f := (·.present)) (fun gen e => (lose_leaves gen e).2.2.2.2.1) q t
  simp [State.gone, present]

/-- The ports passed over in two parts. -/
theorem passed_passed {q stop : Nat} (le : p ≤ q) (le' : q ≤ stop) :
    (s.pass t p q).passed t q stop = s.passed t p stop := by
  have kind : (s.pass t p q).rwk.kind = s.rwk.kind := rfl
  cases hk : s.rwk.kind with
  | full =>
    rw [passed_full (s := s.pass t p q) (kind.trans hk), passed_full hk]
    exact passed_full hk q
  | refresh =>
    have e := passed_refresh (t := t) (p := p) hk q
    have e' := passed_refresh (t := t) (p := p) hk stop
    have e2 : (s.pass t p q).passed t q stop = loseAt s.rwk.generation
        (under (s.passed t p q) ((s.pass t p q).gone t q stop)) (s.passed t p q) := by
      exact passed_refresh (s := s.pass t p q) (kind.trans hk) stop
    have same : (s.pass t p q).gone t q stop = s.gone t q stop := funext fun c => gone_pass q stop q c
    rw [e2, same, e, under_loseAt (gone_lose stop s.rwk.generation), loseAt_loseAt, e']
    refine congrArg (fun g => loseAt s.rwk.generation g s.rwk.roster) (funext fun j => ?_)
    rw [under_or]
    refine congrArg (fun g => under s.rwk.roster g j) (funext fun c => ?_)
    rw [Bool.eq_iff_iff]
    simp only [State.gone, Bool.or_eq_true, Bool.and_eq_true, decide_eq_true_eq]
    by_cases before : c.port < q
    · have : ¬ q ≤ c.port := by omega
      have : c.port < stop := by omega
      simp_all
    · have : q ≤ c.port := by omega
      have : p ≤ c.port := by omega
      simp_all

theorem passed_same : s.passed t p p = s.rwk.roster := by
  unfold State.passed
  split
  · rfl
  · refine loseAt_none (under_none fun e => ?_)
    simp only [State.gone, Bool.and_eq_false_iff, decide_eq_false_iff_not]
    have : ¬ (p ≤ e.port ∧ e.port < p) := by omega
    tauto

/-- A port behind which there is a tile takes no entry away. -/
theorem passed_present (there : (entryAt s t).present.getLsbD p = true) : s.passed t p (p + 1) = s.rwk.roster := by
  unfold State.passed
  split
  · rfl
  · refine loseAt_none (under_none fun e => ?_)
    simp only [State.gone, Bool.and_eq_false_iff, decide_eq_false_iff_not, Bool.not_eq_false']
    by_cases at_ : e.port = p
    · rw [at_, there]
      tauto
    · have : ¬ (p ≤ e.port ∧ e.port < p + 1) := by omega
      tauto

theorem gone_one (empty : (entryAt s t).present.getLsbD p = false) (c : Entry) : s.gone t p (p + 1) c =
    (!c.isVacant && decide (c.parent = some t) && decide (c.port = p) && !c.verified) := by
  unfold State.gone
  by_cases at_ : c.port = p
  · simp only [at_, empty, Nat.le_refl, Nat.lt_succ_self, decide_true, Bool.not_false, Bool.and_true]
  · have : (decide (p ≤ c.port) && decide (c.port < p + 1)) = false := by
      simp only [Bool.and_eq_false_iff, decide_eq_false_iff_not]
      omega
    simp only [Bool.and_assoc, at_, decide_false, Bool.false_and, Bool.and_false]
    rw [← Bool.and_assoc (decide (p ≤ c.port)), this]
    simp

/-- An empty port takes away the entries at it that the walk has not verified (R73). -/
theorem portEmpty_eq (empty : (entryAt s t).present.getLsbD p = false) : portEmpty t p s = s.pass t p (p + 1) := by
  unfold portEmpty State.pass
  split
  · next full => rw [passed_full full]
  · next refresh =>
    rw [loseWhere_eq, passed_refresh refresh]
    refine congrArg (fun r => ({ s with rwk := { s.rwk with roster := r } } : State)) (loseAt_congr fun j _ => ?_)
    simp only [List.any_filter, under]
    congr 1
    funext i
    exact congrArg (· && _) (gone_one empty _).symm

/-- A port passed over: what the loop does from the next port on. -/
theorem State.GoesOn.pass {u : State} {mark : Bool} (small : p < (entryAt s t).ports)
    (hu : u = { s.pass t p (p + 1) with rwk := { (s.pass t p (p + 1)).rwk with
      depthMark := s.rwk.depthMark || mark, stack := u.rwk.stack } })
    (why : ((entryAt s t).present.getLsbD p = false ∧ mark = false) ∨ ((entryAt s t).present.getLsbD p = true ∧ mark = true
      ∧ 7 ≤ (entryAt s t).depth))
    (h : u.GoesOn now t (p + 1) rest run) : s.GoesOn now t p rest run := by
  have field : ∀ {α : Type} (f : Entry → α), (∀ (gen : Half) (e : Entry), f (e.lose gen) = f e) →
      f (entryAt u t) = f (entryAt s t) := by
    intro α f same
    rw [hu]
    exact passed_field same (p + 1) t
  have ports : (entryAt u t).ports = (entryAt s t).ports := field (·.ports) fun gen e => (lose_leaves gen e).2.2.2.1
  have present : (entryAt u t).present = (entryAt s t).present := field (·.present) fun gen e => (lose_leaves gen e).2.2.2.2.1
  have depth : (entryAt u t).depth = (entryAt s t).depth := field (·.depth) fun gen e => (lose_leaves gen e).2.2.1
  have behind : ∀ q, u.behind t (p + 1) q ↔ s.behind t p q ∧ q ≠ p := by
    intro q
    simp only [State.behind, ports, present]
    constructor
    · rintro ⟨low, high, bit⟩
      exact ⟨⟨by omega, high, bit⟩, by omega⟩
    · rintro ⟨⟨low, high, bit⟩, ne⟩
      exact ⟨by omega, high, bit⟩
  have passed : ∀ stop, p + 1 ≤ stop → u.passed t (p + 1) stop = s.passed t p stop := by
    intro stop le
    rw [← passed_passed (s := s) (t := t) (Nat.le_succ p) le, hu]
    rfl
  refine ⟨fun q hq first shallow => ?_, fun none_ deep hdeep => ?_⟩
  · have empty : (entryAt s t).present.getLsbD p = false ∧ mark = false := by
      rcases why with e | ⟨-, -, deep⟩
      · exact e
      · omega
    have ne : q ≠ p := by
      rintro rfl
      simp [hq.2.2] at empty
    have run_ := h.opens q ((behind q).2 ⟨hq, ne⟩) (fun k hk hb => first k hk ((behind k).1 hb).1) (by omega)
    rw [run_, State.opens, State.opens, passed q (by have := hq.1; omega), hu, empty.2]
    simp [State.pass]
  · have done_ : ∀ d, (deep = (mark || d)) → u.portsDone t (p + 1) rest d = s.portsDone t p rest deep := by
      intro d hd
      rw [State.portsDone, State.portsDone, ports, passed _ small, hu, hd]
      simp [State.pass, Bool.or_assoc]
    have again : ((∀ q, ¬ u.behind t (p + 1) q) ∨ 7 ≤ (entryAt u t).depth) :=
      none_.imp (fun n q hb => n q ((behind q).1 hb).1) (by omega)
    rcases why with ⟨empty, rfl⟩ | ⟨bit, rfl, -⟩
    · rw [← done_ deep (by simp)]
      refine h.ends again deep ?_
      rw [hdeep]
      refine exists_congr fun q => ?_
      rw [behind]
      refine ⟨fun hq => ⟨hq, ?_⟩, And.left⟩
      rintro rfl
      simp [hq.2.2] at empty
    · have yes : deep = true := hdeep.2 ⟨p, Nat.le_refl _, small, bit⟩
      obtain ⟨d, hd⟩ : ∃ d : Bool, d = true ↔ ∃ q, u.behind t (p + 1) q := by
        classical
        exact ⟨decide (∃ q, u.behind t (p + 1) q), decide_eq_true_iff⟩
      rw [← done_ d (by simp [yes])]
      exact h.ends again d hd

section
variable (settled : s.handed = []) (walks : s.rwk.walking = true)
include settled walks

/-- The port loop does what statements say of it, given turns enough. -/
theorem walkLoop_goesOn {n : Nat} (turns : (entryAt s t).ports - p + 1 ≤ n) (stack : s.rwk.stack = (t, p) :: rest) :
    s.GoesOn now t p rest (done (grantDecision (walkLoop n (s.afterTx now)))) := by
  induction n generalizing s p with
  | zero => omega
  | succ n ih =>
    have top : (s.afterTx now).rwk.stack = (t, p) :: rest := stack
    have entry : entryAt (s.afterTx now) t = entryAt s t := rfl
    unfold walkLoop
    simp only [top, entry]
    by_cases last : (entryAt s t).ports ≤ p
    · rw [if_pos last]
      have nobody : ∀ q, ¬ s.behind t p q := fun q hq => by have := hq.1; have := hq.2.1; omega
      refine ⟨fun q hq => absurd hq (nobody q), fun _ deep hdeep => ?_⟩
      have shallow : deep = false := by
        rw [← Bool.not_eq_true, hdeep]
        exact fun ⟨q, hq⟩ => nobody q hq
      have pops : s.portsDone t p rest deep = { s with rwk := { s.rwk with stack := rest } } := by
        have same : s.passed t p (entryAt s t).ports = s.rwk.roster := by
          unfold State.passed
          split
          · rfl
          · refine loseAt_none (under_none fun e => ?_)
            simp only [State.gone, Bool.and_eq_false_iff, decide_eq_false_iff_not]
            have : ¬ (p ≤ e.port ∧ e.port < (entryAt s t).ports) := by omega
            tauto
        simp [State.portsDone, same, shallow]
      rw [pops]
      let s1 : State := { s with rwk := { s.rwk with stack := rest } }
      refine ⟨?_, fun none_ => ?_⟩
      · intro t' p' below hrest
        rw [if_neg (by simp [hrest])]
        exact closePort_closes (s := s1) settled walks t' p' below hrest
      · rw [if_pos (by simp [none_])]
        exact endOwn_ends (s := s1)
    · rw [if_neg last]
      have small : p < (entryAt s t).ports := by omega
      by_cases bit : (entryAt s t).present.getLsbD p = true
      · rw [if_neg (by simp [bit])]
        by_cases deep : 7 ≤ (entryAt s t).depth
        · rw [if_pos deep]
          let u : State := { s with rwk := { s.rwk with depthMark := true, stack := (t, p + 1) :: rest } }
          have e : advancePort { s.afterTx now with rwk := { (s.afterTx now).rwk with
              stack := (t, p) :: rest, depthMark := true } } = u.afterTx now := rfl
          refine (congrArg (fun w => s.GoesOn now t p rest (done (grantDecision (walkLoop n w)))) e).mpr ?_
          refine State.GoesOn.pass (u := u) (mark := true) small ?_ (.inr ⟨bit, rfl, deep⟩)
            (ih (s := u) settled walks (by show (entryAt s t).ports - (p + 1) + 1 ≤ n; omega) rfl)
          simp [u, State.pass, passed_present bit]
        · rw [if_neg deep]
          refine ⟨fun q hq first shallow => ?_, fun none_ => ?_⟩
          · have own : q = p := by
              by_contra ne
              exact first p (by have := hq.1; omega) ⟨Nat.le_refl _, small, bit⟩
            subst own
            have same : s.passed t q q = s.rwk.roster := passed_same
            have whole : ({ s with rwk := { s.rwk with roster := s.passed t q q, stack := (t, q) :: rest } } : State) = s := by
              rw [same, ← stack]
            rw [State.opens, whole]
            exact done_wkPlace settled walks (by decide)
          · rcases none_ with none_ | deep'
            · exact absurd ⟨Nat.le_refl _, small, bit⟩ (none_ p)
            · exact absurd deep' deep
      · have empty : (entryAt s t).present.getLsbD p = false := by simpa using bit
        rw [if_pos (by simp [empty])]
        let u : State := { s.pass t p (p + 1) with rwk := { (s.pass t p (p + 1)).rwk with stack := (t, p + 1) :: rest } }
        have e : advancePort (portEmpty t p (s.afterTx now)) = u.afterTx now := by
          rw [portEmpty_eq (s := s.afterTx now) empty]
          simp only [advancePort, State.pass, State.afterTx, stack, u]
          rfl
        rw [e]
        have ports : (entryAt u t).ports = (entryAt s t).ports :=
          passed_field (f := (·.ports)) (fun gen e => (lose_leaves gen e).2.2.2.1) (p + 1) t
        refine State.GoesOn.pass (u := u) (mark := false) small ?_ (.inl ⟨empty, rfl⟩)
          (ih (s := u) settled walks (by rw [ports]; omega) rfl)
        simp [u, State.pass]

/-- The port loop goes on with the pair on top of the stack. -/
theorem walkOn_loop (stack : s.rwk.stack = (t, p) :: rest) :
    s.GoesOn now t p rest (done (grantDecision (walkOn (s.afterTx now)))) := by
  have turns : turnsLeft (s.afterTx now) = (entryAt s t).ports - p + 1 := by
    unfold turnsLeft
    rw [show (s.afterTx now).rwk.stack = (t, p) :: rest from stack]
    rfl
  unfold walkOn
  exact walkLoop_goesOn settled walks (by rw [turns]) stack

theorem walkOn_goesOn (stack : s.rwk.stack = (t, p) :: rest) :
    s.walkGoesOn now t p rest (done (grantDecision (walkOn (s.afterTx now)))) :=
  (walkOn_loop settled walks stack).walkGoesOn

/-- What follows an entry's check and its BLANK (R67, R68, R71, R73). -/
theorem afterEntry_done (i : Nat) (root : Bool) :
    s.entryDone now i root (done (grantDecision (afterEntry i root (s.afterTx now)))) := by
  have explored : ((entryAt (s.afterTx now) i).isActive && decide (0 < (entryAt (s.afterTx now) i).ports)) = true
      ↔ (entryAt s i).state = .active ∧ 0 < (entryAt s i).ports := by
    simp [Entry.isActive, show entryAt (s.afterTx now) i = entryAt s i from rfl]
  unfold afterEntry State.entryDone
  refine ⟨fun yes => ?_, fun no below => ?_, fun no top => ?_⟩
  · refine (congrArg (fun u => s.walkGoesOn now i 0 s.rwk.stack (done (grantDecision u))) (if_pos (explored.2 yes))).mpr ?_
    exact walkOn_goesOn (s := { s with rwk := { s.rwk with stack := (i, 0) :: s.rwk.stack } }) settled walks rfl
  · refine (congrArg (fun u => s.portCloses now s.rwk.stack (done (grantDecision u)))
      ((if_neg (explored.not.2 no)).trans (if_neg (by simp [below])))).mpr ?_
    exact closePort_closes settled walks
  · refine (congrArg (fun u => s.walkEnds now (done (grantDecision u)))
      ((if_neg (explored.not.2 no)).trans (if_pos top))).mpr ?_
    exact endOwn_ends

end

end

end Sys2Proof.Machine

end

section
/-!
PROOFS. The outcomes of the walker's transactions: the steps of a walk (sections 4.1, 4.4, 4.7, 4.8).
-/

namespace Sys2Proof.Machine

set_option Elab.async false

/-! ### The end of the walker's transaction -/

/-- What the walker does with the outcome that it waits for. -/
def walkStage (w : WalkWait) (o : TxOutcome) (s : State) : State :=
  match w with
  | .release => wkPlace .rootProbe unassigned .probe [] s
  | .rootProbe => rootProbed o s
  | .rootAssign p => rootAssigned p o s
  | .rootVerify => rootVerified o s
  | .openPort c => portOpened c o s
  | .childVerify c => childVerified c o s
  | .portProbe => portProbed o s
  | .portAssign i r p => portAssigned i r p o s
  | .blank i r => blankDone i r o s
  | .close => walkOn s
  | .limitClose rest => closeAll rest s

section
variable {s : State} {x : Transaction} {w : WalkWait}

theorem wkResult_eq (wait : s.rwk.wait = some w) (o : TxOutcome) (now : Nat) :
    wkResult o { s with now := now, sbc := s.sbc.freed } = walkStage w o (s.afterTx now) := by
  cases w <;> simp only [wkResult, wait, walkStage] <;> rfl

theorem State.WalkerWaits.hands (h : s.WalkerWaits x) (o : TxOutcome) (t : State) : handOutcome x o t = wkResult o t := by
  simp [handOutcome, h.own, h.live]

/-- The step in which the walker's transaction ends with a response. -/
theorem State.WalkerWaits.responds (h : s.WalkerWaits x) (channel : s.sbc.channel = .attempt) {f d : List Byte}
    (verdict : judgeFrame x f = .accept true d) (wait : s.rwk.wait = some w) :
    exec (.sidebandFrameReceived f) s = done (grantDecision (walkStage w (.response d) (s.afterTx s.now))) := by
  rw [exec_response channel h.flight h.prompt verdict, h.hands]
  exact congrArg (fun t => done (grantDecision t)) (wkResult_eq wait (.response d) s.now)

/-- What holds of every failed outcome of the walker's transaction. -/
theorem State.WalkerWaits.fails (h : s.WalkerWaits x) (channel : s.sbc.channel = .attempt) (wait : s.rwk.wait = some w)
    {claim : Result → Nat → Prop} (ends : ∀ (o : TxOutcome) (now : Nat), o.failed →
      claim (done (grantDecision (walkStage w o (s.afterTx now)))) now) : s.attemptFails x claim :=
  attemptFails_of channel h.flight h.prompt fun o now failed => by
    rw [h.hands, wkResult_eq wait]
    exact ends o now failed

/-- The end of the quiet time after RELEASE-ALL (R66, R67). -/
theorem State.WalkerWaits.released (h : s.WalkerWaits x) {t0 : Nat} (channel : s.sbc.channel = .releaseQuiet)
    (timer : s.sbc.quietTimer = some t0) (wait : s.rwk.wait = some w) : exec .releaseQuietEnd s =
      done (grantDecision (walkStage w .done (s.afterTx (max s.now (t0 + 135000))))) := by
  have e : releaseQuietEnd s = endTransaction .done { s with now := max s.now (t0 + 135000) } := by
    simp [releaseQuietEnd, channel, timer, advanceTo, releaseTicks]
  have ends := endTransaction_eq (s := { s with now := max s.now (t0 + 135000) }) .done h.flight h.prompt
  refine congrArg done (e.trans (ends.trans ?_))
  rw [h.hands]
  exact congrArg grantDecision (wkResult_eq wait .done _)

end

/-! ### The stages, by outcome -/

section
variable {s : State} {o : TxOutcome} {d : List Byte}

theorem rootProbed_failed (failed : o.failed) : rootProbed o s = endOwn s := by
  rcases failed with rfl | rfl | rfl <;> rfl

theorem rootAssigned_failed (p : Probe) (failed : o.failed) : rootAssigned p o s = endOwn (warn s) := by
  rcases failed with rfl | rfl | rfl <;> rfl

theorem portOpened_failed (c : Option Nat) (failed : o.failed) : portOpened c o s = walkOn (advancePort (warn s)) := by
  rcases failed with rfl | rfl | rfl <;> rfl

theorem portProbed_failed (failed : o.failed) : portProbed o s = closePort (warn s) := by
  rcases failed with rfl | rfl | rfl <;> rfl

theorem portAssigned_failed (i : Nat) (r : Bool) (p : Probe) (failed : o.failed) :
    portAssigned i r p o s = closePort (warn s) := by
  rcases failed with rfl | rfl | rfl <;> rfl

theorem blankDone_failed (i : Nat) (r : Bool) (failed : o.failed) : blankDone i r o s = afterEntry i r (warn s) := by
  rcases failed with rfl | rfl | rfl <;> rfl

/-! ### Checked entries (R62) -/

variable {i : Nat} {root fresh : Bool} {old : EntryState}

/-- The roster with an entry replaced. -/
def State.withEntry (s : State) (i : Nat) (e : Entry) : State :=
  { s with rwk := { s.rwk with roster := s.rwk.roster.set i e } }

theorem modify_eq_set (f : Entry → Entry) : ∀ (l : List Entry) (i : Nat), l.modify i f = l.set i (f (l.getD i Entry.vacant))
  | [], _ => by simp
  | _ :: _, 0 => by simp
  | _ :: l, i + 1 => by simpa using modify_eq_set f l i

theorem updEntry_eq (i : Nat) (f : Entry → Entry) (s : State) : updEntry i f s = s.withEntry i (f (entryAt s i)) := by
  unfold updEntry State.withEntry
  rw [modify_eq_set]
  rfl

theorem entryAt_withEntry {i : Nat} (small : i < s.rwk.roster.length) (e : Entry) : entryAt (s.withEntry i e) i = e := by
  simp [entryAt, State.withEntry, List.getD_eq_getElem?_getD, small]

theorem withEntry_withEntry (i : Nat) (e e' : Entry) : (s.withEntry i e).withEntry i e' = s.withEntry i e' := by
  simp [State.withEntry]

/-- Only a state other than VACANT is one of an entry within the roster. -/
theorem small_of_state {i : Nat} (there : (entryAt s i).state ≠ .vacant) : i < s.rwk.roster.length := by
  by_contra out_
  refine there ?_
  have : s.rwk.roster[i]? = none := List.getElem?_eq_none (Nat.le_of_not_lt out_)
  simp [entryAt, List.getD_eq_getElem?_getD, this, Entry.vacant]

theorem denyCheck_listed (listed : (entryAt s i).serial ∈ s.rwk.denyList)
    (news : (fresh || decide (old = .active) || decide (old = .lost)) = true) : denyCheck i root old fresh s =
      let s2 := loseBelow i (s.withEntry i { entryAt s i with state := .denied })
      sendBlank i root true (if root then reportRoot .denied s2 else s2) := by
  unfold denyCheck
  rw [if_pos (by simpa using listed), updEntry_eq]
  exact if_pos news

theorem denyCheck_stillDenied (listed : (entryAt s i).serial ∈ s.rwk.denyList)
    (known : (fresh || decide (old = .active) || decide (old = .lost)) = false) : denyCheck i root old fresh s =
      afterEntry i root (s.withEntry i { entryAt s i with state := .denied }) := by
  unfold denyCheck
  rw [if_pos (by simpa using listed), updEntry_eq]
  exact if_neg (by simp [known])

theorem denyCheck_unblanks (free : (entryAt s i).serial ∉ s.rwk.denyList)
    (back : (!fresh && (decide (old = .denied) || decide (old = .lost))) = true) : denyCheck i root old fresh s =
      sendBlank i root false (s.withEntry i { entryAt s i with state := .active }) := by
  unfold denyCheck
  rw [if_neg (by simpa using free), updEntry_eq]
  exact if_pos back

theorem denyCheck_active (free : (entryAt s i).serial ∉ s.rwk.denyList)
    (plain : (!fresh && (decide (old = .denied) || decide (old = .lost))) = false) : denyCheck i root old fresh s =
      afterEntry i root (s.withEntry i { entryAt s i with state := .active }) := by
  unfold denyCheck
  rw [if_neg (by simpa using free), updEntry_eq]
  exact if_neg (by simp [plain])

end

/-! ### The root (R67, R76) -/

/-- The contents of an entry 0 written anew. -/
def rootEntry (st : EntryState) (p : Probe) : Entry :=
  { Entry.vacant with
    state := st, serial := p.serial, depth := 1, ports := p.ports, present := p.present, stamp := p.stamp, verified := true }

section
variable {s : State} {p : Probe}

theorem clearTwin_none (none_ : ∀ e ∈ s.rwk.roster.tail, e.state = .vacant ∨ e.serial ≠ p.serial) :
    clearTwin p.serial s = s := by
  have nobody : (List.range s.rwk.roster.length).find? (fun i =>
      decide (i ≠ 0) && !(entryAt s i).isVacant && decide ((entryAt s i).serial = p.serial)) = none := by
    refine List.find?_eq_none.2 fun i hi => ?_
    cases i with
    | zero => simp
    | succ i =>
      have small : i < s.rwk.roster.tail.length := by
        rw [List.length_tail]
        have := List.mem_range.1 hi
        omega
      have entry : entryAt s (i + 1) = s.rwk.roster.tail[i] := by
        rw [entryAt, List.getD_eq_getElem?_getD, ← List.getElem?_tail, List.getElem?_eq_getElem small]
        rfl
      have hi := none_ _ (List.getElem_mem small)
      rw [← entry] at hi
      rcases hi with vac | other
      · simp [Entry.isVacant, vac]
      · simp [other]
  unfold clearTwin
  rw [nobody]

theorem admitRoot_eq (p : Probe) (s : State) : admitRoot p s =
    denyCheck 0 true .vacant true ((clearTwin p.serial s).withEntry 0 (rootEntry .vacant p)) := by
  unfold admitRoot
  rw [updEntry_eq]
  rfl

/-- A root that the deny list does not name is entered at index 0, and checked off (R67). -/
theorem admitRoot_active (some_ : 0 < (clearTwin p.serial s).rwk.roster.length)
    (free : p.serial ∉ (clearTwin p.serial s).rwk.denyList) :
    admitRoot p s = afterEntry 0 true ((clearTwin p.serial s).withEntry 0 (rootEntry .active p)) := by
  have entry : entryAt ((clearTwin p.serial s).withEntry 0 (rootEntry .vacant p)) 0 = rootEntry .vacant p :=
    entryAt_withEntry some_ _
  rw [admitRoot_eq, denyCheck_active (by rw [entry]; exact free) rfl, entry, withEntry_withEntry]
  rfl

end

/-! ### The end of a walk that finds nothing to sweep -/

section
variable {s : State} {o : WalkOutcome}

theorem settleReceipt_handed (s : State) : (settleReceipt s).handed = s.handed := by
  unfold settleReceipt
  split
  · split
    · rfl
    · split
      · rfl
      · exact withdraw_handed ..
  · rfl

theorem settleReceipt_awaiting (s : State) : (settleReceipt s).apq.awaiting = s.apq.awaiting := by
  unfold settleReceipt
  split
  · split
    · rfl
    · split <;> rfl
  · rfl

theorem packetsSweep_nothing (packets : classPackets s.apq = []) (awaiting : s.apq.awaiting = []) :
    (packetsSweep s).handed = s.handed := by
  unfold packetsSweep
  extract_lets keep src s1 s2
  have first : s1.handed = s.handed ∧ s1.apq.awaiting = [] := by
    simp only [s1, packets, awaiting, keep, List.append_nil, List.filter_nil]
    exact ⟨rfl, rfl⟩
  have second : s2.handed = s.handed ∧ s2.apq.awaiting = [] :=
    ⟨(settleReceipt_handed s1).trans first.1, (settleReceipt_awaiting s1).trans first.2⟩
  split
  · next _ id _ _ =>
    rw [show awaitingWith s2.apq id = none by rw [awaitingWith, second.2]; rfl]
    exact second.1
  · have none_ : nextReceipt s2 = s2 := by
      unfold nextReceipt
      split
      · rfl
      · rw [second.2]
        rfl
    rw [none_]
    exact second.1

theorem judgeHeldBlock_none (held : s.dcr.held = none) : judgeHeldBlock s = s := by
  simp [judgeHeldBlock, held]

/-- The report of a walk that ends (R79). -/
def endReport (o : WalkOutcome) (s : State) : WalkReport :=
  ⟨o, rosterCount s, s.rwk.warnings, s.rwk.generation + 1, checkValue s.rwk.roster⟩

/-- What a walk's end hands over last, after the change of the session: the ENUMERATE's completion, or WALK_DONE. -/
def endItems (o : WalkOutcome) (s : State) : List Handed :=
  if s.rwk.starter = .enumerate then (s.rwk.enumerate.map (fun k =>
      ⟨.rwk, .completion k o.status (endReport o s).word1 (endReport o s).check⟩)).toList
  else [⟨.rwk, .event (.walkDone s.rwk.kind s.rwk.starter (endReport o s))⟩]

theorem reportWalk_enumerate (starter : s.rwk.starter = .enumerate) : reportWalk o s =
    completeOpt .rwk s.rwk.enumerate o.status (walkReport o s).word1 (walkReport o s).check
      { s with rwk := { s.rwk with enumerate := none } } := by
  simp [reportWalk, starter]

theorem reportWalk_other (starter : s.rwk.starter ≠ .enumerate) : reportWalk o s =
    post .rwk (.walkDone s.rwk.kind s.rwk.starter (walkReport o s)) s := by
  unfold reportWalk
  dsimp only
  split
  · contradiction
  · rfl

theorem reportWalk_handed (o : WalkOutcome) {s t : State} (rwk : t.rwk = s.rwk.walked o) :
    (reportWalk o t).handed = t.handed ++ endItems o s := by
  have report : walkReport o t = endReport o s := by
    simp only [walkReport, endReport, rosterCount, rwk]
    rfl
  by_cases starter : s.rwk.starter = .enumerate
  · rw [reportWalk_enumerate (by rw [rwk]; exact starter), report, endItems, if_pos starter, rwk]
    simp only [Rwk.walked]
    cases s.rwk.enumerate with
    | none => simp [completeOpt]
    | some k => rfl
  · rw [reportWalk_other (by rw [rwk]; exact starter), report, endItems, if_neg starter, rwk]
    rfl

/-- What a walk's end hands over where there is nothing to sweep and no outcome held. -/
theorem endWalk_handed (packets : classPackets s.apq = []) (awaiting : s.apq.awaiting = []) (held : s.dcr.held = none) :
    ∃ evs : List Handed, (endWalk o s).handed = s.handed ++ evs ++ endItems o s
      ∧ (∀ x ∈ evs, x.item.anEvent) ∧ evs.countP Handed.isEvent ≤ 1 := by
  have closed := closeWalk_touches o s
  have rwk := closeWalk_rwk o s
  have handed := closeWalk_handed o s
  unfold endWalk
  generalize closeWalk o (stepGeneration s) = c at closed rwk handed
  have apq := closed.apq.resolve_left (by decide)
  have swept := packetsSweep_touches c
  have nothing : (packetsSweep c).handed = s.handed :=
    (packetsSweep_nothing (by rw [apq]; exact packets) (by rw [apq]; exact awaiting)).trans handed
  have kept : judgeHeldBlock (packetsSweep c) = packetsSweep c := judgeHeldBlock_none (by
    rw [swept.dcr.resolve_left (by decide), closed.dcr.resolve_left (by decide)]
    exact held)
  rw [kept]
  obtain ⟨evs, left, events, count⟩ := leaveWalking_hands o (packetsSweep c)
  have rwk' : (leaveWalking o (packetsSweep c)).rwk = s.rwk.walked o := by
    rw [(leaveWalking_touches o _).rwk.resolve_left (by decide), swept.rwk.resolve_left (by decide), rwk]
  refine ⟨evs, ?_, events, count⟩
  rw [reportWalk_handed o rwk', left, nothing]

end

/-- What the end of a walk reports where there is nothing to sweep (R79). -/
theorem endOwn_reports {s : State} {now : Nat} (settled : s.handed = []) (packets : classPackets s.apq = [])
    (awaiting : s.apq.awaiting = []) (held : s.dcr.held = none) :
    let count := s.rwk.roster.countP (fun e => decide (e.state = .active ∨ e.state = .denied))
    ∃ t, done (grantDecision (endOwn (s.afterTx now))) = .next t ∧ t.rwk.walking = false
      ∧ (∀ k, s.rwk.starter = .enumerate → s.rwk.enumerate = some k → s.canComplete k →
        s.completes t k .ok (word (s.walkOutcome.code + 2 ^ 3 * s.rwk.warnings + 2 ^ 9 * count
          + 2 ^ 16 * (s.rwk.generation + 1).toNat)) s.rosterCheck = true)
      ∧ (s.rwk.starter ≠ .enumerate → s.listens 7 = true → s.reports t (.walkDone s.rwk.kind s.rwk.starter
        ⟨s.walkOutcome, count, s.rwk.warnings, s.rwk.generation + 1, s.rosterCheck⟩) = true) := by
  intro count
  have outcome : ownOutcome (s.afterTx now) = s.walkOutcome := (ownOutcome_eq _).trans rfl
  have ended := endWalk_spec s.walkOutcome (s.afterTx now)
  obtain ⟨evs, handed, events, few⟩ := endWalk_handed (o := s.walkOutcome) (s := s.afterTx now) packets awaiting held
  rw [endOwn, outcome]
  generalize endWalk s.walkOutcome (s.afterTx now) = t at ended handed
  have grant := grantDecision_touches t
  have hif : (grantDecision t).hif = s.hif :=
    (grant.hif.resolve_left (by decide)).trans (ended.touches.hif.resolve_left (by decide))
  have sent : s.out <+: (grantDecision t).out := ended.touches.sent.trans grant.sent
  have items : (grantDecision t).handed = evs ++ endItems s.walkOutcome (s.afterTx now) := by
    rw [grantDecision_handed, handed, show (s.afterTx now).handed = [] from settled]
    rfl
  have report : endReport s.walkOutcome (s.afterTx now) =
      ⟨s.walkOutcome, count, s.rwk.warnings, s.rwk.generation + 1, s.rosterCheck⟩ := by
    rw [endReport, rosterCount_eq, checkValue_eq]
    rfl
  obtain ⟨hif', out', fin⟩ := finishInOrder_spec (grantDecision t)
  refine ⟨finishInOrder (grantDecision t), rfl, ?_, fun k starter enum can => ?_, fun starter listens => ?_⟩
  · obtain ⟨e, rwk⟩ := ended.rwk
    rw [fin]
    dsimp only
    rw [grant.rwk.resolve_left (by decide), rwk]
    rfl
  · have own : endItems s.walkOutcome (s.afterTx now) = [⟨.rwk, .completion k s.walkOutcome.status
        (endReport s.walkOutcome (s.afterTx now)).word1 (endReport s.walkOutcome (s.afterTx now)).check⟩] := by
      rw [endItems, if_pos (by exact starter), show (s.afterTx now).rwk.enumerate = some k from enum]
      rfl
    have ok : s.walkOutcome.status = .ok := by
      have := walkOutcome_own s
      cases h : s.walkOutcome <;> simp_all [WalkOutcome.status]
    rw [own, report, ok] at items
    refine (finishInOrder_finishes _).completes sent (by rw [State.canComplete, hif]; exact can) (o := .rwk) ?_ ?_
    · rw [items]
      exact List.mem_append_right _ (List.mem_singleton.2 rfl)
    · intro y hy st' a' b' item
      rw [items] at hy
      rcases List.mem_append.1 hy with hy | hy
      · obtain ⟨e, he⟩ := events y hy
        rw [he] at item
        cases item
      · rw [List.mem_singleton.1 hy] at item
        simp only [HandedItem.completion.injEq] at item
        obtain ⟨-, rfl, rfl, rfl⟩ := item
        exact ⟨rfl, rfl, rfl⟩
  · have own : endItems s.walkOutcome (s.afterTx now) = [⟨.rwk, .event (.walkDone s.rwk.kind s.rwk.starter
        (endReport s.walkOutcome (s.afterTx now)))⟩] := if_neg (by exact starter)
    rw [own, report] at items
    refine (finishInOrder_finishes _).reports sent (o := .rwk) ?_ ?_ ?_
    · rw [State.listens, hif]
      exact listens
    · rw [items]
      exact List.mem_append_right _ (List.mem_singleton.2 rfl)
    · rw [items, List.countP_append]
      exact Nat.le_trans (Nat.add_le_add few List.countP_le_length) (by simp)

/-! ### The steps of a walk -/

section
variable {s : State} {x : Transaction}

/-- What follows the root's admission where no other entry has its serial (R67). -/
theorem rootAdmitted (h : s.WalkerWaits x) {now : Nat} {p : Probe} (some_ : 0 < s.rwk.roster.length)
    (free : p.serial ∉ s.rwk.denyList) (alone : ∀ e ∈ s.rwk.roster.tail, e.state = .vacant ∨ e.serial ≠ p.serial) :
    (s.withEntry 0 (rootEntry .active p)).entryDone now 0 true
      (done (grantDecision (admitRoot p (s.afterTx now)))) := by
  have twin : clearTwin p.serial (s.afterTx now) = s.afterTx now := clearTwin_none alone
  have e := admitRoot_active (s := s.afterTx now) (p := p) (by rw [twin]; exact some_) (by rw [twin]; exact free)
  rw [twin] at e
  rw [e]
  exact afterEntry_done (s := s.withEntry 0 (rootEntry .active p)) h.settled h.walking 0 true

/-- The check value of a roster with one ACTIVE tile, at the root (R61). -/
theorem rosterCheck_root {root : Entry} {n : Nat} (roster : s.rwk.roster = root :: List.replicate n Entry.vacant)
    (active : root.state = .active) : s.rosterCheck = crc32 (beBytes 6 root.serial.toNat) := by
  have one : s.rwk.roster.filter (fun e => decide (e.state = .active)) = [root] := by
    rw [roster, List.filter_cons_of_pos (by simp [active])]
    congr 1
    exact List.filter_eq_nil_iff.2 fun e he => by rw [List.eq_of_mem_replicate he]; decide
  simp only [State.rosterCheck, one]
  simp [beBytes, leBytes]

/-- A full walk that finds a root without ports (R67, R78). -/
theorem rootOnly (h : s.WalkerWaits x) {now : Nat} {p : Probe} (full : s.rwk.kind = .full)
    (roster : s.rwk.roster = List.replicate 64 Entry.vacant) (ports : p.ports = 0) (free : p.serial ∉ s.rwk.denyList)
    (shallow : s.rwk.depthMark = false) (few : s.rwk.countMark = false) :
    ∃ t, done (grantDecision (admitRoot p (s.afterTx now))) = .next t ∧ t.rwk.walking = false ∧ t.ses.session = .ready
      ∧ t.rwk.roster = ⟨.active, p.serial, none, 0, 1, 0, p.present, p.stamp, 0, false, 0, 0, true⟩
        :: List.replicate 63 Entry.vacant
      ∧ t.rwk.generation = s.rwk.generation + 1 ∧ t.rwk.check = crc32 (beBytes 6 p.serial.toNat)
      ∧ t.rwk.lastWalk = some ⟨.full, s.rwk.starter, .ok, s.rwk.warnings, s.rwk.generation + 1⟩ := by
  have some_ : 0 < s.rwk.roster.length := by simp [roster]
  have alone : ∀ e ∈ s.rwk.roster.tail, e.state = .vacant ∨ e.serial ≠ p.serial := fun e he => by
    rw [roster] at he
    exact .inl (by rw [List.eq_of_mem_replicate (List.mem_of_mem_tail he)]; rfl)
  have roster1 : (s.withEntry 0 (rootEntry .active p)).rwk.roster = rootEntry .active p :: List.replicate 63 Entry.vacant := by
    simp only [State.withEntry, roster]
    rfl
  have root : entryAt (s.withEntry 0 (rootEntry .active p)) 0 = rootEntry .active p := entryAt_withEntry some_ _
  have check1 : (s.withEntry 0 (rootEntry .active p)).rosterCheck = crc32 (beBytes 6 p.serial.toNat) :=
    rosterCheck_root (root := rootEntry .active p) roster1 rfl
  have outcome : (s.withEntry 0 (rootEntry .active p)).walkOutcome = .ok := by
    unfold State.walkOutcome
    rw [root]
    simp [rootEntry, State.withEntry, few, shallow]
  obtain ⟨-, -, ends⟩ := rootAdmitted h (now := now) some_ free alone
  obtain ⟨t, run, -, walking, -, roster', generation, check, last, session⟩ :=
    ends (fun e => by rw [root] at e; simp [rootEntry, ports] at e) rfl
  refine ⟨t, run, walking, ?_, ?_, generation, check.trans check1, ?_⟩
  · rw [session, outcome]
    simp [State.withEntry, full]
  · rw [roster', roster1, rootEntry, ports]
    rfl
  · rw [last, outcome]
    simp [State.withEntry, full]

end

/-- Settles O50: each step by the stage that its outcome leads to. -/
theorem walkSteps : Obligations.WalkSteps := by
  refine fun s x h => ⟨fun t0 channel timer wait => ?_, fun channel f d verdict => ?answered, fun channel => ?fails⟩
  · rw [h.released channel timer wait]
    exact done_wkPlace h.settled h.walking (by decide)
  case answered =>
    intro run
    have step : ∀ {w}, s.rwk.wait = some w → run = done (grantDecision (walkStage w (.response d) (s.afterTx s.now))) :=
      fun wait => h.responds channel verdict wait
    refine ⟨fun wait => ?_, fun p wait full empty roster ports free shallow few => ?_, fun p wait length free alone => ?_,
      fun t0 p0 rest wait stack => ?_, fun wait => ?_, fun c wait => ?_, fun t0 p0 wait stack last packets awaiting held => ?_⟩
    · rw [step wait]
      exact done_wkPlace h.settled h.walking (by decide)
    · rw [step wait]
      exact rootOnly h full roster ports free shallow few
    · intro root
      rw [step wait]
      exact rootAdmitted h (by omega) free alone
    · rw [step wait]
      exact walkOn_goesOn h.settled h.walking stack
    · rw [step wait]
      exact done_wkPlace h.settled h.walking (by decide)
    · rw [step wait]
      exact done_wkPlace h.settled h.walking (by decide)
    · intro count
      have ends : walkOn (s.afterTx s.now) = endOwn (State.afterTx { s with rwk := { s.rwk with stack := [] } } s.now) := by
        have top : (s.afterTx s.now).rwk.stack = [(t0, p0)] := stack
        have entry : entryAt (s.afterTx s.now) t0 = entryAt s t0 := rfl
        simp only [walkOn, turnsLeft, walkLoop, top, entry, if_pos last, List.isEmpty_nil, if_true]
        rfl
      have e := (step wait).trans (congrArg (fun t => done (grantDecision t)) ends)
      rw [e]
      exact endOwn_reports (s := { s with rwk := { s.rwk with stack := [] } }) h.settled packets awaiting held
  case fails =>
    refine attemptFails_of channel h.flight h.prompt fun o now failed => ?_
    rw [h.hands]
    intro warned
    have step : ∀ {w}, s.rwk.wait = some w → wkResult o { s with now := now, sbc := s.sbc.freed } =
        walkStage w o (s.afterTx now) := fun wait => wkResult_eq wait o now
    refine ⟨fun wait => ?_, fun p wait => ?_, fun t0 p0 rest stack => ⟨fun wait => ?_, fun c wait => ?_⟩⟩
    · rw [step wait, walkStage, rootProbed_failed failed]
      exact endOwn_ends
    · rw [step wait, walkStage, rootAssigned_failed p failed]
      exact endOwn_ends (s := warned)
    · rw [step wait]
      exact walkOn_goesOn h.settled h.walking stack
    · rw [step wait, walkStage, portOpened_failed c failed]
      have e : advancePort (warn (s.afterTx now)) = State.afterTx { warned with
          rwk := { warned.rwk with stack := (t0, p0 + 1) :: rest } } now := by
        simp only [advancePort, warn, State.afterTx, stack]
        rfl
      rw [e]
      exact walkOn_goesOn (s := { warned with rwk := { warned.rwk with stack := (t0, p0 + 1) :: rest } })
        h.settled h.walking rfl

end Sys2Proof.Machine

end

section
/-!
PROOFS. The steps that only a refresh walk has (sections 4.2, 4.6, 4.7).
-/

namespace Sys2Proof.Machine

set_option Elab.async false

/-! ### The known child of a port (R71) -/

section
variable {s : State} {t p c : Nat}

/-- An entry that a search finds. -/
theorem findEntry_some {f : Entry → Bool} {i : Nat} (found : findEntry f s = some i) :
    f (entryAt s i) = true := by
  obtain ⟨small, yes, -⟩ := List.findIdx?_eq_some_iff_getElem.1 found
  have entry : entryAt s i = s.rwk.roster[i] := by
    rw [entryAt, List.getD_eq_getElem?_getD, List.getElem?_eq_getElem small]
    rfl
  rw [entry]
  exact yes

theorem findEntry_none {f : Entry → Bool} (none_ : findEntry f s = none) : ∀ e ∈ s.rwk.roster, f e = false :=
  fun e he => by simpa using List.findIdx?_eq_none_iff.1 none_ e he

theorem knownChild_spec (known : knownChild t p s = some c) :
    (entryAt s c).state ≠ .vacant ∧ (entryAt s c).parent = some t ∧ (entryAt s c).port = p
      ∧ ((entryAt s c).state = .lost →
        ∀ e ∈ s.rwk.roster, e.state = .active ∨ e.state = .denied → ¬ (e.parent = some t ∧ e.port = p)) := by
  unfold knownChild at known
  dsimp only at known
  split at known
  · cases known
  · split at known
    · next i found =>
      cases known
      have own := findEntry_some found
      simp only [Bool.and_eq_true, decide_eq_true_eq, Entry.isHeld, Bool.or_eq_true] at own
      obtain ⟨held, parent, port⟩ := own
      have state : (entryAt s c).state ≠ .vacant ∧ (entryAt s c).state ≠ .lost := by
        rcases held with e | e <;> rw [e] <;> decide
      exact ⟨state.1, parent, port, fun lost => absurd lost state.2⟩
    · next none_ =>
      have own := findEntry_some known
      simp only [Bool.and_eq_true, decide_eq_true_eq, Entry.isVacant, Bool.not_eq_true', decide_eq_false_iff_not] at own
      obtain ⟨state, parent, port⟩ := own
      refine ⟨state, parent, port, fun _ e he held here => ?_⟩
      have := findEntry_none none_ e he
      simp only [Entry.isHeld, here, decide_true, Bool.and_true, Bool.or_eq_false_iff, decide_eq_false_iff_not] at this
      tauto

end

/-! ### Entries that become LOST, as statements write them -/

theorem mapIdx_lose (gen : Half) (r : List Entry) {P : Nat → Prop} [DecidablePred P] {g : Nat → Bool}
    (same : ∀ j, g j = true ↔ P j) :
    r.mapIdx (fun j e => if P j then
      (if e.state = .active ∨ e.state = .denied then { e with state := .lost, lostGen := gen } else e) else e)
      = loseAt gen g r := by
  unfold loseAt
  congr 1
  funext j e
  rw [← lose_eq]
  exact if_congr (same j).symm rfl rfl

/-- An entry's parent alone decides what lies below an entry. -/
theorem isBelow_set {r : List Entry} {k : Nat} {e : Entry} (parent : e.parent = (r.getD k Entry.vacant).parent)
    (i n j : Nat) : isBelow (r.set k e) i n j = isBelow r i n j := by
  refine isBelow_congr (fun m => ?_) i n j
  by_cases own : m = k
  · subst own
    by_cases small : m < r.length
    · simp only [List.getD_eq_getElem?_getD, List.getElem?_set_self small, Option.getD_some]
      rw [parent, List.getD_eq_getElem?_getD]
    · rw [List.set_eq_of_length_le (Nat.le_of_not_lt small)]
  · simp only [List.getD_eq_getElem?_getD, List.getElem?_set_ne (Ne.symm own)]

/-! ### The check of a written entry (R62), at the end of the walker's transaction -/

/-- The roster in which an entry's descendants are LOST. -/
def State.loseUnder (s : State) (i : Nat) : State :=
  { s with rwk := { s.rwk with roster := loseAt s.rwk.generation (fun j => isBelow s.rwk.roster i 64 j) s.rwk.roster } }

/-- The request that blanks or unblanks a tile. -/
def blankRequest (i : Nat) (on : Byte) : Request := ⟨BitVec.ofNat 8 (i + 1), .blank, [on]⟩

section
variable {s : State} {now i : Nat} {root fresh : Bool} {old : EntryState} {e : Entry} (settled : s.handed = [])
  (walks : s.rwk.walking = true) (small : i < s.rwk.roster.length)
include settled walks small

theorem checked_active (free : e.serial ∉ s.rwk.denyList)
    (plain : (!fresh && (decide (old = .denied) || decide (old = .lost))) = false) :
    (s.withEntry i { e with state := .active }).entryDone now i root
      (done (grantDecision (denyCheck i root old fresh ((s.withEntry i e).afterTx now)))) := by
  have own : entryAt ((s.withEntry i e).afterTx now) i = e := entryAt_withEntry small e
  rw [denyCheck_active (by rw [own]; exact free) plain, own]
  have same : ((s.withEntry i e).afterTx now).withEntry i { e with state := .active } =
      (s.withEntry i { e with state := .active }).afterTx now := congrArg (·.afterTx now) (withEntry_withEntry i e _)
  rw [same]
  exact afterEntry_done (s := s.withEntry i { e with state := .active }) settled walks i root

theorem checked_unblanked (free : e.serial ∉ s.rwk.denyList)
    (back : (!fresh && (decide (old = .denied) || decide (old = .lost))) = true) :
    done (grantDecision (denyCheck i root old fresh ((s.withEntry i e).afterTx now))) =
      .next ((s.withEntry i { e with state := .active }).walkerSends now (.blank i root) (blankRequest i 0)) := by
  have own : entryAt ((s.withEntry i e).afterTx now) i = e := entryAt_withEntry small e
  rw [denyCheck_unblanks (by rw [own]; exact free) back, own]
  have same : ((s.withEntry i e).afterTx now).withEntry i { e with state := .active } =
      (s.withEntry i { e with state := .active }).afterTx now := congrArg (·.afterTx now) (withEntry_withEntry i e _)
  rw [same]
  exact done_wkPlace (s := s.withEntry i { e with state := .active }) settled walks (by decide)

theorem checked_stillDenied (listed : e.serial ∈ s.rwk.denyList)
    (known : (fresh || decide (old = .active) || decide (old = .lost)) = false) :
    (s.withEntry i { e with state := .denied }).entryDone now i root
      (done (grantDecision (denyCheck i root old fresh ((s.withEntry i e).afterTx now)))) := by
  have own : entryAt ((s.withEntry i e).afterTx now) i = e := entryAt_withEntry small e
  rw [denyCheck_stillDenied (by rw [own]; exact listed) known, own]
  have same : ((s.withEntry i e).afterTx now).withEntry i { e with state := .denied } =
      (s.withEntry i { e with state := .denied }).afterTx now := congrArg (·.afterTx now) (withEntry_withEntry i e _)
  rw [same]
  exact afterEntry_done (s := s.withEntry i { e with state := .denied }) settled walks i root

omit settled walks in
theorem checked_listed (listed : e.serial ∈ s.rwk.denyList)
    (news : (fresh || decide (old = .active) || decide (old = .lost)) = true) :
    denyCheck i root old fresh ((s.withEntry i e).afterTx now) =
      let t := ((s.withEntry i { e with state := .denied }).loseUnder i).afterTx now
      sendBlank i root true (if root then reportRoot .denied t else t) := by
  have own : entryAt ((s.withEntry i e).afterTx now) i = e := entryAt_withEntry small e
  rw [denyCheck_listed (by rw [own]; exact listed) news, own]
  have same : ((s.withEntry i e).afterTx now).withEntry i { e with state := .denied } =
      (s.withEntry i { e with state := .denied }).afterTx now := congrArg (·.afterTx now) (withEntry_withEntry i e _)
  rw [same]
  rfl

/-- A tile that the deny list names is blanked, below the root. -/
theorem checked_denied (listed : e.serial ∈ s.rwk.denyList)
    (news : (fresh || decide (old = .active) || decide (old = .lost)) = true) :
    done (grantDecision (denyCheck i false old fresh ((s.withEntry i e).afterTx now))) =
      .next (((s.withEntry i { e with state := .denied }).loseUnder i).walkerSends now (.blank i false) (blankRequest i 1)) := by
  rw [checked_listed small listed news]
  exact done_wkPlace (s := (s.withEntry i { e with state := .denied }).loseUnder i) settled walks (by decide)

end

/-! ### A root that is lost or denied (R13, R74) -/

section
variable {s : State} {now : Nat}

theorem reportRoot_quiet (st : EntryState) (h : ¬ (s.ses.session = .carrying ∨ s.ses.session = .quiet)
    ∨ s.rwk.kind = .full) : reportRoot st s = s := by
  refine if_neg fun both => ?_
  simp only [Bool.and_eq_true, decide_eq_true_eq, SessionState.carries_iff] at both
  rcases h with h | h
  · exact h both.1
  · simp [both.2] at h

theorem reportRoot_faults {st : EntryState} {cause : SessionCause} (carries : s.ses.session = .carrying ∨ s.ses.session = .quiet)
    (refresh : s.rwk.kind = .refresh) (which : (st = .lost ∧ cause = .rootLost) ∨ (st = .denied ∧ cause = .rootDenied)) :
    reportRoot st s = setSession .faulted cause s := by
  have both : (s.ses.session.carries && decide (s.rwk.kind = .refresh)) = true := by
    simp [(SessionState.carries_iff _).2 carries, refresh]
  refine (if_pos both).trans ?_
  rcases which with ⟨rfl, rfl⟩ | ⟨rfl, rfl⟩ <;> rfl

/-- The root's failure takes the session to FAULTED, and the walk goes on with a request. -/
theorem rootFault (settled : s.handed = []) (walks : s.rwk.walking = true) (cause : SessionCause) {w : WalkWait} {d : Byte}
    {k : RequestKind} {ps : List Byte} (kind : k ≠ .releaseAll) :
    ∃ t, done (grantDecision (wkPlace w d k ps (setSession .faulted cause (s.afterTx now)))) = .next t
      ∧ t.ses.session = .faulted ∧ t.ses.lanes = false ∧ t.rwk = { s.rwk with wait := some w }
      ∧ (s.listens 3 = true → s.reports t (.sessionChanged .faulted s.ses.session cause s.ses.quiet) = true) := by
  let e : Event := .sessionChanged .faulted s.ses.session cause s.ses.quiet
  have commutes : setSession .faulted cause (s.afterTx now) = (setSession .faulted cause s).afterTx now := by
    rw [setSession_eq, setSession_eq]
    rfl
  have walks' : (setSession .faulted cause s).rwk.walking = true := by
    rw [(setSession_touches _ _ s).rwk.resolve_left (by decide)]
    exact walks
  rw [commutes, grantDecision_wkPlace walks' kind]
  have shape := setSession_eq .faulted cause s
  generalize setSession .faulted cause s = u at shape
  let t := u.walkerSends now w ⟨d, k, ps⟩
  obtain ⟨hif, out, fin⟩ := finishInOrder_spec t
  refine ⟨finishInOrder t, rfl, ?_, ?_, ?_, fun listens => ?_⟩
  · rw [fin]
    simp only [t, State.walkerSends, shape]
    rfl
  · rw [fin]
    simp only [t, State.walkerSends, shape]
    rfl
  · rw [fin]
    simp only [t, State.walkerSends, shape]
    rfl
  · have handed : t.handed = [⟨.ses, .event e⟩] := by
      simp only [t, State.walkerSends, shape, post_handed, settled]
      rfl
    refine (finishInOrder_finishes t).reports (o := .ses) (e := e) ?_ ?_ ?_ ?_
    · simp only [t, State.walkerSends, shape, post_out]
      rw [List.append_assoc]
      exact List.prefix_append _ _
    · have hif' : t.hif = s.hif := by
        simp only [t, State.walkerSends, shape]
        rfl
      rw [State.listens, hif']
      exact listens
    · rw [handed]
      exact List.mem_cons_self ..
    · rw [handed]
      exact Nat.le_trans List.countP_le_length (by simp)

end

/-! ### VERIFY (R72) -/

/-- An entry that VERIFY's response confirms. -/
def confirmed (e : Entry) (depth : Nat) (st : EntryState) (d : List Byte) : Entry :=
  { e with
    state := st, verified := true, miss := 0, depth := depth, stamp := verifyStamp d
    present := BitVec.ofNat 8 ((verifyMask d).toNat % 2 ^ e.ports) }

section
variable {s : State} {x : Transaction} {now i depth : Nat} {d : List Byte}

theorem confirmEntry_eq : confirmEntry i depth d (s.afterTx now) =
    (s.withEntry i (confirmed (entryAt s i) depth (entryAt s i).state d)).afterTx now := by
  unfold confirmEntry
  rw [updEntry_eq]
  rfl

theorem loseEntry_eq (i : Nat) : loseEntry i (s.afterTx now) = State.afterTx { s with rwk := { s.rwk with
    roster := loseAt s.rwk.generation (fun j => decide (j = i) || isBelow s.rwk.roster i 64 j) s.rwk.roster } } now := rfl

/-- The roster without an entry and its descendants. -/
def State.without (s : State) (i : Nat) : State := { s with rwk := { s.rwk with
  roster := loseAt s.rwk.generation (fun j => decide (j = i) || isBelow s.rwk.roster i 64 j) s.rwk.roster } }

theorem rootVerified_lost {o : TxOutcome} (why : o.failed ∨ ∃ d, o = .response d ∧ verifySerial d ≠ (entryAt s 0).serial) :
    rootVerified o (s.afterTx now) = wkPlace .rootProbe unassigned .probe []
      (if (entryAt s 0).isHeld then reportRoot .lost ((s.without 0).afterTx now) else (s.without 0).afterTx now) := by
  rcases why with (rfl | rfl | rfl) | ⟨d, rfl, other⟩
  · rfl
  · rfl
  · rfl
  · exact if_neg other

theorem rootVerified_known (own : verifySerial d = (entryAt s 0).serial) : rootVerified (.response d) (s.afterTx now) =
    denyCheck 0 true (entryAt s 0).state false
      ((s.withEntry 0 (confirmed (entryAt s 0) 1 (entryAt s 0).state d)).afterTx now) := by
  rw [← confirmEntry_eq]
  exact if_pos own

theorem childVerified_lost {o : TxOutcome} {c : Nat}
    (why : o.failed ∨ ∃ d, o = .response d ∧ verifySerial d ≠ (entryAt s c).serial) :
    childVerified c o (s.afterTx now) = wkPlace .portProbe unassigned .probe [] ((s.without c).afterTx now) := by
  rcases why with (rfl | rfl | rfl) | ⟨d, rfl, other⟩
  · rfl
  · rfl
  · rfl
  · exact if_neg other

theorem childVerified_known {c t0 p0 : Nat} {rest : List (Nat × Nat)} (stack : s.rwk.stack = (t0, p0) :: rest)
    (own : verifySerial d = (entryAt s c).serial) : childVerified c (.response d) (s.afterTx now) =
    denyCheck c false (entryAt s c).state false
      ((s.withEntry c (confirmed (entryAt s c) ((entryAt s t0).depth + 1) (entryAt s c).state d)).afterTx now) := by
  have place : (placeBelow (s.afterTx now)).2.2 = (entryAt s t0).depth + 1 := by
    unfold placeBelow
    rw [show (s.afterTx now).rwk.stack = (t0, p0) :: rest from stack]
    rfl
  rw [← confirmEntry_eq, ← place]
  exact if_pos own

/-- The descendants of a confirmed entry that becomes DENIED. -/
theorem denied_roster : ((s.withEntry i (confirmed (entryAt s i) depth .denied d)).loseUnder i).rwk.roster =
    (s.rwk.roster.set i (confirmed (entryAt s i) depth .denied d)).mapIdx (fun j e =>
      if isBelow s.rwk.roster i 64 j = true then
        (if e.state = .active ∨ e.state = .denied then { e with state := .lost, lostGen := s.rwk.generation } else e)
      else e) := by
  refine (mapIdx_lose s.rwk.generation _ fun j => ?_).symm
  exact Bool.eq_iff_iff.1 (isBelow_set (r := s.rwk.roster) (k := i) (e := confirmed (entryAt s i) depth .denied d) rfl i 64 j)

theorem without_roster (i : Nat) : (s.without i).rwk.roster = s.rwk.roster.mapIdx (fun j e =>
    if j = i ∨ isBelow s.rwk.roster i 64 j = true then
      (if e.state = .active ∨ e.state = .denied then { e with state := .lost, lostGen := s.rwk.generation } else e)
    else e) :=
  (mapIdx_lose s.rwk.generation s.rwk.roster fun j => by simp).symm

/-- The outcomes that lose the root (R71, R74). -/
theorem rootLost (h : s.WalkerWaits x) (refresh : s.rwk.kind = .refresh) {o : TxOutcome}
    (why : o.failed ∨ ∃ d, o = .response d ∧ verifySerial d ≠ (entryAt s 0).serial) :
    let run := done (grantDecision (rootVerified o (s.afterTx now)))
    let carries := s.ses.session = .carrying ∨ s.ses.session = .quiet
    (¬ carries ∨ (entryAt s 0).isHeld = false → run = .next ((s.without 0).walkerSends now .rootProbe ⟨0x7F, .probe, []⟩))
    ∧ (carries → (entryAt s 0).isHeld = true → ∃ t, run = .next t ∧ t.ses.session = .faulted ∧ t.ses.lanes = false
      ∧ t.rwk.roster = (s.without 0).rwk.roster ∧ t.rwk.walking = true ∧ t.rwk.wait = some .rootProbe
      ∧ (s.listens 3 = true → s.reports t (.sessionChanged .faulted s.ses.session .rootLost s.ses.quiet) = true)) := by
  intro run carries
  have run_ : run = done (grantDecision _) := congrArg (fun t => done (grantDecision t)) (rootVerified_lost why)
  refine ⟨fun quiet => ?_, fun up held => ?_⟩
  · have plain : (if (entryAt s 0).isHeld = true then reportRoot .lost ((s.without 0).afterTx now)
        else (s.without 0).afterTx now) = (s.without 0).afterTx now := by
      split
      · next held => exact reportRoot_quiet .lost (.inl (quiet.resolve_right (by simp [held])))
      · rfl
    rw [run_, plain]
    exact done_wkPlace (s := s.without 0) h.settled h.walking (by decide)
  · have faults := reportRoot_faults (s := (s.without 0).afterTx now) (st := .lost) up refresh (.inl ⟨rfl, rfl⟩)
    rw [if_pos held, faults] at run_
    obtain ⟨t, e, session, lanes, rwk, reports⟩ := rootFault (s := s.without 0) (now := now) h.settled h.walking .rootLost
      (w := .rootProbe) (d := unassigned) (k := .probe) (ps := []) (by decide)
    refine ⟨t, run_.trans e, session, lanes, ?_, ?_, ?_, reports⟩
    · rw [rwk]
    · rw [rwk]
      exact h.walking
    · rw [rwk]

theorem childLost (h : s.WalkerWaits x) {o : TxOutcome} {c : Nat}
    (why : o.failed ∨ ∃ d, o = .response d ∧ verifySerial d ≠ (entryAt s c).serial) :
    done (grantDecision (childVerified c o (s.afterTx now))) =
      .next ((s.without c).walkerSends now .portProbe ⟨0x7F, .probe, []⟩) := by
  rw [childVerified_lost why]
  exact done_wkPlace (s := s.without c) h.settled h.walking (by decide)

/-- VERIFY with the entry's serial: the deny check of the confirmed entry, but for one that is newly denied (R62, R72). -/
theorem verified_checked (h : s.WalkerWaits x) (root : Bool) (there : (entryAt s i).state ≠ .vacant) :
    let run := done (grantDecision (denyCheck i root (entryAt s i).state false
      ((s.withEntry i (confirmed (entryAt s i) depth (entryAt s i).state d)).afterTx now)))
    ((entryAt s i).serial ∉ s.rwk.denyList → (entryAt s i).state = .active →
      (s.withEntry i (confirmed (entryAt s i) depth .active d)).entryDone now i root run)
    ∧ ((entryAt s i).serial ∉ s.rwk.denyList → (entryAt s i).state = .lost ∨ (entryAt s i).state = .denied →
      run = .next ((s.withEntry i (confirmed (entryAt s i) depth .active d)).walkerSends now (.blank i root)
        (blankRequest i 0)))
    ∧ ((entryAt s i).serial ∈ s.rwk.denyList → (entryAt s i).state = .denied →
      (s.withEntry i (confirmed (entryAt s i) depth .denied d)).entryDone now i root run) := by
  have small := small_of_state there
  generalize hold : (entryAt s i).state = old
  refine ⟨fun free active => ?_, fun free back => ?_, fun listed still => ?_⟩
  · exact checked_active (old := old) (fresh := false) (e := confirmed (entryAt s i) depth old d) h.settled h.walking small
      free (by rw [active]; decide)
  · exact checked_unblanked (old := old) (fresh := false) (e := confirmed (entryAt s i) depth old d) h.settled h.walking
      small free (by rcases back with e | e <;> rw [e] <;> decide)
  · exact checked_stillDenied (old := old) (fresh := false) (e := confirmed (entryAt s i) depth old d) h.settled h.walking
      small listed (by rw [still]; decide)

/-- The roster with a confirmed entry that becomes DENIED, its descendants LOST. -/
def State.denying (s : State) (i depth : Nat) (d : List Byte) : State :=
  (s.withEntry i (confirmed (entryAt s i) depth .denied d)).loseUnder i

/-- VERIFY of a tile that the deny list has come to name: BLANK follows (R62, R72). -/
theorem verified_listed (root : Bool) (there : (entryAt s i).state ≠ .vacant) (listed : (entryAt s i).serial ∈ s.rwk.denyList)
    (which : (entryAt s i).state = .active ∨ (entryAt s i).state = .lost) :
    denyCheck i root (entryAt s i).state false
      ((s.withEntry i (confirmed (entryAt s i) depth (entryAt s i).state d)).afterTx now) =
    sendBlank i root true (if root then reportRoot .denied ((s.denying i depth d).afterTx now)
      else (s.denying i depth d).afterTx now) := by
  have small := small_of_state there
  generalize hold : (entryAt s i).state = old
  rw [hold] at which
  exact checked_listed (old := old) (fresh := false) (e := confirmed (entryAt s i) depth old d) small listed
    (by rcases which with e | e <;> rw [e] <;> decide)

/-- A root that the deny list has come to name (R62, R74). -/
theorem rootDenied (h : s.WalkerWaits x) (refresh : s.rwk.kind = .refresh) :
    let run := done (grantDecision (sendBlank 0 true true (reportRoot .denied ((s.denying 0 1 d).afterTx now))))
    let carries := s.ses.session = .carrying ∨ s.ses.session = .quiet
    (¬ carries → run = .next ((s.denying 0 1 d).walkerSends now (.blank 0 true) (blankRequest 0 1)))
    ∧ (carries → ∃ t, run = .next t ∧ t.ses.session = .faulted ∧ t.rwk.roster = (s.denying 0 1 d).rwk.roster
      ∧ t.rwk.wait = some (.blank 0 true)
      ∧ (s.listens 3 = true → s.reports t (.sessionChanged .faulted s.ses.session .rootDenied s.ses.quiet) = true)) := by
  intro run carries
  refine ⟨fun quiet => ?_, fun up => ?_⟩
  · have plain := reportRoot_quiet (s := (s.denying 0 1 d).afterTx now) .denied (.inl quiet)
    refine (congrArg (fun t => done (grantDecision (sendBlank 0 true true t))) plain).trans ?_
    exact done_wkPlace (s := s.denying 0 1 d) h.settled h.walking (by decide)
  · have faults := reportRoot_faults (s := (s.denying 0 1 d).afterTx now) (st := .denied) up refresh (.inr ⟨rfl, rfl⟩)
    obtain ⟨t, e, session, -, rwk, reports⟩ := rootFault (s := s.denying 0 1 d) (now := now) h.settled h.walking .rootDenied
      (w := .blank 0 true) (d := addressOf 0) (k := .blank) (ps := [1]) (by decide)
    refine ⟨t, (congrArg (fun t => done (grantDecision (sendBlank 0 true true t))) faults).trans e, session, ?_, ?_, reports⟩
    · rw [rwk]
    · rw [rwk]

theorem childDenied (h : s.WalkerWaits x) : done (grantDecision (sendBlank i false true ((s.denying i depth d).afterTx now))) =
    .next ((s.denying i depth d).walkerSends now (.blank i false) (blankRequest i 1)) :=
  done_wkPlace (s := s.denying i depth d) h.settled h.walking (by decide)

/-- The last port of a tile, an empty one, is passed over, and the walk goes back to the pair below (R73). -/
theorem lastPort_empty (h : s.WalkerWaits x) {t0 p0 t1 p1 : Nat} {rest : List (Nat × Nat)}
    (stack : s.rwk.stack = (t0, p0) :: (t1, p1) :: rest) (last : p0 + 1 = (entryAt s t0).ports)
    (empty : (entryAt s t0).present.getLsbD p0 = false) : done (grantDecision (walkOn (s.afterTx now))) =
      .next ({ s with rwk := { s.rwk with
        stack := (t1, p1 + 1) :: rest, roster := s.passed t0 p0 (p0 + 1) } }.walkerSends now .close
          ⟨BitVec.ofNat 8 (t1 + 1), .close, [BitVec.ofNat 8 p1]⟩) := by
  have nobody : ∀ q, ¬ s.behind t0 p0 q := by
    rintro q ⟨low, high, bit⟩
    have : q = p0 := by omega
    subst this
    simp [empty] at bit
  have closes := ((walkOn_loop (now := now) h.settled h.walking stack).ends (.inl nobody) false
    ⟨fun e => (nomatch e), fun ⟨q, hq⟩ => absurd hq (nobody q)⟩).1 t1 p1 rest rfl
  rw [closes, State.portsDone, ← last, Bool.or_false]

end

/-- Settles O51: the known child by the two searches, and each outcome by the check of the entry that it confirms or loses. -/
theorem refreshWalks : Obligations.RefreshWalks := by
  refine ⟨fun s port index c _ known => knownChild_spec known, fun s x h channel refresh => ?_⟩
  intro r carries lose below without rootLost_ childLost_ conf denied blank old
  have without_ : ∀ i, ({ s with rwk := { s.rwk with roster := without i } } : State) = s.without i := fun i =>
    congrArg (fun l => ({ s with rwk := { s.rwk with roster := l } } : State)) (without_roster (s := s) i).symm
  have denied_ : ∀ i depth d, ({ s with rwk := { s.rwk with roster := denied i depth d } } : State) = s.denying i depth d :=
    fun i depth d => congrArg (fun l => ({ s with rwk := { s.rwk with roster := l } } : State)) (denied_roster (s := s)).symm
  have rootLost' : ∀ (o : TxOutcome) (now : Nat), (o.failed ∨ ∃ d, o = .response d ∧ verifySerial d ≠ (entryAt s 0).serial) →
      rootLost_ (done (grantDecision (rootVerified o (s.afterTx now)))) now := by
    intro o now why
    obtain ⟨quiet, faults⟩ := rootLost (now := now) h refresh why
    rw [← without_ 0] at quiet faults
    exact ⟨quiet, faults⟩
  have childLost' : ∀ (c : Nat) (o : TxOutcome) (now : Nat),
      (o.failed ∨ ∃ d, o = .response d ∧ verifySerial d ≠ (entryAt s c).serial) →
      childLost_ c (done (grantDecision (childVerified c o (s.afterTx now)))) now := by
    intro c o now why
    have e := childLost (now := now) h why
    rw [← without_ c] at e
    exact e
  refine ⟨fun wait => ⟨?_, fun f d verdict => ?_⟩, fun c t0 p0 rest wait stack there => ⟨?_, fun f d verdict => ?_⟩,
    fun t0 p0 t1 p1 rest f d verdict wait stack last empty => ?_⟩
  · exact h.fails channel wait fun o now failed => rootLost' o now (.inl failed)
  · intro run s1 listed
    have run_ : run = _ := h.responds channel verdict wait
    rw [run_]
    refine ⟨fun other => rootLost' _ s.now (.inr ⟨d, rfl, other⟩), fun own there => ?_⟩
    rw [walkStage, rootVerified_known own]
    obtain ⟨active, unblanked, stillDenied⟩ := verified_checked (depth := 1) (d := d) (now := s.now) h true there
    refine ⟨active, unblanked, stillDenied, fun listed which => ?_⟩
    rw [verified_listed true there listed which, denied_ 0 1 d]
    obtain ⟨quiet, faults⟩ := rootDenied (d := d) (now := s.now) h refresh
    rw [show (s.denying 0 1 d).rwk.roster = denied 0 1 d from denied_roster] at faults
    exact ⟨quiet, faults⟩
  · exact h.fails channel wait fun o now failed => childLost' c o now (.inl failed)
  · intro run depth s1 listed
    have run_ : run = _ := h.responds channel verdict wait
    rw [run_]
    refine ⟨fun other => childLost' c _ s.now (.inr ⟨d, rfl, other⟩), fun own => ?_⟩
    rw [walkStage, childVerified_known stack own]
    obtain ⟨active, unblanked, stillDenied⟩ := verified_checked (depth := depth) (d := d) (now := s.now) h false there
    refine ⟨active, unblanked, stillDenied, fun listed which => ?_⟩
    rw [verified_listed false there listed which, denied_ c depth d]
    exact childDenied h
  · intro gone
    rw [h.responds channel verdict wait, walkStage, lastPort_empty h stack last empty, passed_refresh refresh]
    have same := mapIdx_under s.rwk.generation r (P := fun e => e.state ≠ .vacant ∧ e.parent = some t0 ∧ e.port = p0
      ∧ e.verified = false) (g := s.gone t0 p0 (p0 + 1)) fun e => by
        rw [gone_one empty]
        simp [Entry.isVacant, and_assoc]
    rw [← same]
    rfl

end Sys2Proof.Machine

end

section
/-!
PROOFS. What a walk makes of the tiles that it finds (sections 4.2, 4.5, 4.6, 4.7).
-/

namespace Sys2Proof.Machine

set_option Elab.async false

/-! ### The entry that a probed tile takes (R75) -/

/-- An entry that is not VACANT and has a serial. -/
def holds (sn : Serial) (e : Entry) : Bool := decide (e.state ≠ .vacant) && decide (e.serial = sn)

theorem lostAge_lost {gen : Half} {e : Entry} (lost : e.state = .lost) : lostAge gen e = some (gen - e.lostGen).toNat := by
  simp [lostAge, lost]

theorem lostAge_some {gen : Half} {e : Entry} {a : Nat} (h : lostAge gen e = some a) :
    e.state = .lost ∧ a = (gen - e.lostGen).toNat := by
  unfold lostAge at h
  split at h
  · next lost => exact ⟨lost, (Option.some.inj h).symm⟩
  · cases h

/-- The age that the search for the oldest LOST entry finds is one of them. -/
theorem oldestFrom_mem {gen : Half} : ∀ {es : List Entry} {k j b : Nat}, oldestFrom gen k es = some (j, b) →
    ∃ e ∈ es, lostAge gen e = some b := by
  intro es
  induction es with
  | nil => exact fun h => (nomatch h)
  | cons e es ih =>
    intro k j b h
    unfold oldestFrom at h
    split at h
    · next a j' b' own rest =>
      split at h
      · cases h
        exact ⟨e, List.mem_cons_self .., own⟩
      · cases h
        obtain ⟨x, hx, age⟩ := ih rest
        exact ⟨x, List.mem_cons_of_mem _ hx, age⟩
    · next a own rest =>
      cases h
      exact ⟨e, List.mem_cons_self .., own⟩
    · obtain ⟨x, hx, age⟩ := ih h
      exact ⟨x, List.mem_cons_of_mem _ hx, age⟩

/-- The LOST entry whose generation lies furthest behind, the lowest of equals, is found. -/
theorem oldestFrom_eq {gen : Half} : ∀ {es : List Entry} {k i a : Nat} (small : i < es.length),
    lostAge gen es[i] = some a →
    (∀ j (hj : j < es.length) b, lostAge gen es[j] = some b → b < a ∨ (b = a ∧ i ≤ j)) →
    oldestFrom gen k es = some (k + i, a) := by
  intro es
  induction es with
  | nil => exact fun small => absurd small (Nat.not_lt_zero _)
  | cons e es ih =>
    intro k i a small own best
    cases i with
    | zero =>
      have own' : lostAge gen e = some a := own
      unfold oldestFrom
      rw [own']
      cases rest : oldestFrom gen (k + 1) es with
      | none => rfl
      | some r =>
        obtain ⟨j, b⟩ := r
        obtain ⟨x, hx, age⟩ := oldestFrom_mem rest
        obtain ⟨m, hm, rfl⟩ := List.mem_iff_getElem.1 hx
        have := best (m + 1) (by simpa using hm) b age
        exact if_pos (by omega)
    | succ i =>
      have rest := ih (k := k + 1) (i := i) (a := a) (by simpa using small) own fun j hj b age => by
        have := best (j + 1) (by simpa using hj) b age
        omega
      have place : k + 1 + i = k + (i + 1) := by omega
      unfold oldestFrom
      rw [rest, place]
      cases first : lostAge gen e with
      | none => rfl
      | some b =>
        have := best 0 (by simp) b first
        exact if_neg (by omega)

theorem oldestFrom_none {gen : Half} {es : List Entry} (none_ : ∀ e ∈ es, e.state ≠ .lost) (k : Nat) :
    oldestFrom gen k es = none := by
  cases h : oldestFrom gen k es with
  | none => rfl
  | some r =>
    obtain ⟨e, he, age⟩ := oldestFrom_mem (b := r.2) h
    exact absurd (lostAge_some age).1 (none_ e he)

section
variable {s : State} {sn : Serial} {i : Nat}

theorem chooseEntry_eq (sn : Serial) (s : State) : chooseEntry sn s =
    if (s.rwk.roster.findIdx? (fun e => holds sn e && e.verified)).isSome then .duplicate
    else match s.rwk.roster.findIdx? (holds sn) with
      | some i => .take i true
      | none =>
        match s.rwk.roster.findIdx? (fun e => decide (e.state = .vacant)) with
        | some i => .take i false
        | none =>
          match s.rwk.kind, oldestFrom s.rwk.generation 0 s.rwk.roster with
          | .refresh, some (i, _) => .take i false
          | _, _ => .full := by
  have same : ∀ e : Entry, (!e.isVacant && decide (e.serial = sn)) = holds sn e := fun e => by
    simp [holds, Entry.isVacant]
  unfold chooseEntry findEntry
  simp only [same]
  rfl

theorem chooseEntry_duplicate (twice : ∃ e ∈ s.rwk.roster, holds sn e = true ∧ e.verified = true) :
    chooseEntry sn s = .duplicate := by
  obtain ⟨e, he, own, verified⟩ := twice
  rw [chooseEntry_eq]
  exact if_pos (List.findIdx?_isSome.trans (List.any_eq_true.2 ⟨e, he, by rw [own, verified]; rfl⟩))

theorem not_duplicate (once : ∀ e ∈ s.rwk.roster, holds sn e = true → e.verified = false) :
    ¬ (s.rwk.roster.findIdx? (fun e => holds sn e && e.verified)).isSome = true := by
  rw [List.findIdx?_isSome, List.any_eq_true]
  rintro ⟨e, he, both⟩
  rw [Bool.and_eq_true] at both
  simp [once e he both.1] at both

theorem chooseEntry_known (known : s.rwk.roster.findIdx? (holds sn) = some i)
    (once : ∀ e ∈ s.rwk.roster, holds sn e = true → e.verified = false) : chooseEntry sn s = .take i true := by
  rw [chooseEntry_eq, if_neg (not_duplicate once), known]

section
variable (new : s.rwk.roster.findIdx? (holds sn) = none)
include new

theorem once_of_new : ∀ e ∈ s.rwk.roster, holds sn e = true → e.verified = false := fun e he own => by
  simp [List.findIdx?_eq_none_iff.1 new e he] at own

theorem chooseEntry_vacant (free : s.rwk.roster.findIdx? (fun e => decide (e.state = .vacant)) = some i) :
    chooseEntry sn s = .take i false := by
  rw [chooseEntry_eq, if_neg (not_duplicate (once_of_new new)), new, free]

variable (filled : s.rwk.roster.findIdx? (fun e => decide (e.state = .vacant)) = none)
include filled

theorem chooseEntry_oldest {a : Nat} (refresh : s.rwk.kind = .refresh)
    (oldest : oldestFrom s.rwk.generation 0 s.rwk.roster = some (i, a)) : chooseEntry sn s = .take i false := by
  rw [chooseEntry_eq, if_neg (not_duplicate (once_of_new new)), new, filled, refresh, oldest]

theorem chooseEntry_full (nobody : s.rwk.kind = .full ∨ ∀ e ∈ s.rwk.roster, e.state ≠ .lost) :
    chooseEntry sn s = .full := by
  rw [chooseEntry_eq, if_neg (not_duplicate (once_of_new new)), new, filled]
  rcases nobody with full | none_
  · rw [full]
  · rw [oldestFrom_none none_]
    cases s.rwk.kind <;> rfl

end

/-- The oldest LOST entry, as statements name it. -/
theorem oldest_found (length : s.rwk.roster.length = 64) (small : i < 64) (lost : (entryAt s i).state = .lost)
    (oldest : ∀ j < 64, (entryAt s j).state = .lost →
      (s.rwk.generation - (entryAt s j).lostGen).toNat < (s.rwk.generation - (entryAt s i).lostGen).toNat
      ∨ ((s.rwk.generation - (entryAt s j).lostGen).toNat = (s.rwk.generation - (entryAt s i).lostGen).toNat ∧ i ≤ j)) :
    oldestFrom s.rwk.generation 0 s.rwk.roster = some (i, (s.rwk.generation - (entryAt s i).lostGen).toNat) := by
  have entry : ∀ j (hj : j < s.rwk.roster.length), s.rwk.roster[j] = entryAt s j := fun j hj => by
    rw [entryAt, List.getD_eq_getElem?_getD, List.getElem?_eq_getElem hj]
    rfl
  have found := oldestFrom_eq (gen := s.rwk.generation) (k := 0) (i := i)
    (a := (s.rwk.generation - (entryAt s i).lostGen).toNat) (by omega : i < s.rwk.roster.length)
    (by rw [entry]; exact lostAge_lost lost) fun j hj b age => by
      rw [entry] at age
      obtain ⟨lost', rfl⟩ := lostAge_some age
      exact oldest j (by omega) lost'
  simpa using found

end

/-! ### Admission (R75 to R77) -/

/-- The values of a tile that is found, at its place. -/
def tileEntry (e : Entry) (st : EntryState) (p : Probe) (parent : Option Nat) (port depth : Nat) : Entry :=
  { e with
    state := st, serial := p.serial, parent := parent, port := port, depth := depth, ports := p.ports
    present := p.present, stamp := p.stamp, miss := 0, verified := true }

/-- An entry made VACANT, its children orphaned. -/
def State.cleared (s : State) (i : Nat) : State := { s with rwk := { s.rwk with
  roster := (s.rwk.roster.set i Entry.vacant).map (fun e => if e.parent = some i then { e with parent := none } else e) } }

section
variable {s : State} {x : Transaction} {now i t0 p0 : Nat} {rest : List (Nat × Nat)} {p : Probe} {reuse : Bool}

theorem vacate_cleared (there : (entryAt s i).state ≠ .vacant) : vacate i (s.afterTx now) = (s.cleared i).afterTx now := by
  unfold vacate
  rw [if_neg (by simpa [Entry.isVacant, show entryAt (s.afterTx now) i = entryAt s i from rfl] using there), updEntry_eq]
  rfl

theorem cleared_entry (small : i < s.rwk.roster.length) : entryAt (s.cleared i) i = Entry.vacant := by
  simp [entryAt, State.cleared, List.getD_eq_getElem?_getD, small, Entry.vacant]

theorem placeBelow_eq (stack : s.rwk.stack = (t0, p0) :: rest) :
    placeBelow (s.afterTx now) = (some t0, p0, (entryAt s t0).depth + 1) := by
  unfold placeBelow
  rw [show (s.afterTx now).rwk.stack = (t0, p0) :: rest from stack]
  rfl

/-- An entry taken as it is: one with the serial, or a VACANT one. -/
theorem admitBelow_there (stack : s.rwk.stack = (t0, p0) :: rest) (as_is : reuse = true ∨ (entryAt s i).state = .vacant) :
    admitBelow i reuse p (s.afterTx now) = denyCheck i false (entryAt s i).state (!reuse)
      ((s.withEntry i (writeAdmitted p (some t0) p0 ((entryAt s t0).depth + 1) (entryAt s i))).afterTx now) := by
  have same : (if reuse = true then s.afterTx now else vacate i (s.afterTx now)) = s.afterTx now := by
    rcases as_is with e | e
    · exact if_pos e
    · have stays : vacate i (s.afterTx now) = s.afterTx now :=
        if_pos (decide_eq_true (show (entryAt (s.afterTx now) i).state = .vacant from e))
      rw [stays, ite_self]
  unfold admitBelow
  rw [placeBelow_eq stack]
  dsimp only
  rw [same, updEntry_eq]
  rfl

/-- An entry reused from another place is vacated first (R77). -/
theorem admitBelow_cleared (stack : s.rwk.stack = (t0, p0) :: rest) (small : i < s.rwk.roster.length)
    (there : (entryAt s i).state ≠ .vacant) :
    admitBelow i false p (s.afterTx now) = denyCheck i false (entryAt s i).state true
      (((s.cleared i).withEntry i (writeAdmitted p (some t0) p0 ((entryAt s t0).depth + 1) Entry.vacant)).afterTx now) := by
  unfold admitBelow
  rw [placeBelow_eq stack]
  dsimp only
  rw [if_neg (by decide), vacate_cleared there, updEntry_eq,
    show entryAt ((s.cleared i).afterTx now) i = Entry.vacant from cleared_entry small]
  rfl

/-- Where nobody names an entry as parent, nothing lies below it. -/
theorem isBelow_none {r : List Entry} (none_ : ∀ j, (r.getD j Entry.vacant).parent ≠ some i) (n j : Nat) :
    isBelow r i n j = false := by
  induction n generalizing j with
  | zero => rfl
  | succ n ih =>
    unfold isBelow
    split
    · rfl
    · next k parent =>
      have other : k ≠ i := fun e => none_ j (e ▸ parent)
      simp [other, ih]

theorem loseUnder_none (none_ : ∀ j, (entryAt s j).parent ≠ some i) : s.loseUnder i = s := by
  rw [State.loseUnder, loseAt_none fun j => isBelow_none none_ 64 j]

theorem withEntry_parents {e : Entry} (own : e.parent ≠ some i) (others : ∀ e ∈ s.rwk.roster, e.parent ≠ some i) (k j : Nat) :
    (entryAt (s.withEntry k e) j).parent ≠ some i := by
  have member : ∀ c ∈ s.rwk.roster.set k e, c.parent ≠ some i := fun c hc => by
    rcases List.mem_or_eq_of_mem_set hc with h | rfl
    · exact others c h
    · exact own
  simp only [entryAt, State.withEntry, List.getD_eq_getElem?_getD]
  cases h : (s.rwk.roster.set k e)[j]? with
  | none => simp [Entry.vacant]
  | some c => exact member c (List.mem_of_getElem? h)

/-! ### A twin of the new root (R76) -/

/-- The roster without the descendants of an entry, where the entry is held. -/
def State.twinLost (s : State) (i : Nat) : State := if (entryAt s i).isHeld then s.loseUnder i else s

theorem twinLost_afterTx : (if (entryAt (s.afterTx now) i).isHeld = true then loseBelow i (s.afterTx now) else s.afterTx now)
    = (s.twinLost i).afterTx now := by
  unfold State.twinLost
  rw [show entryAt (s.afterTx now) i = entryAt s i from rfl]
  split <;> rfl

theorem twinLost_vacant : (entryAt (s.twinLost i) i).isVacant = (entryAt s i).isVacant := by
  unfold State.twinLost
  split
  · exact loseAt_field (f := (·.isVacant)) (fun e => (lose_leaves _ e).2.2.2.2.2.2.2) i
  · rfl

theorem clearTwin_found (low : 0 < i) (small : i < s.rwk.roster.length) (there : (entryAt s i).state ≠ .vacant)
    (own : (entryAt s i).serial = p.serial)
    (first : ∀ j < i, 0 < j → (entryAt s j).state = .vacant ∨ (entryAt s j).serial ≠ p.serial) :
    clearTwin p.serial (s.afterTx now) = ((s.twinLost i).cleared i).afterTx now := by
  have found : (List.range (s.afterTx now).rwk.roster.length).find? (fun j =>
      decide (j ≠ 0) && !(entryAt (s.afterTx now) j).isVacant && decide ((entryAt (s.afterTx now) j).serial = p.serial))
      = some i := by
    have range_ : ∀ j, entryAt (s.afterTx now) j = entryAt s j := fun _ => rfl
    refine List.find?_range_eq_some.2 ⟨?_, List.mem_range.2 small, fun j hj => ?_⟩
    · simp [range_, Entry.isVacant, there, own, low.ne']
    · by_cases zero : j = 0
      · simp [zero]
      · rcases first j hj (Nat.pos_of_ne_zero zero) with vac | other
        · simp [range_, Entry.isVacant, vac]
        · simp [range_, other]
  unfold clearTwin
  rw [found]
  dsimp only
  rw [twinLost_afterTx]
  refine vacate_cleared ?_
  have := twinLost_vacant (s := s) (i := i)
  intro vac
  rw [Entry.isVacant, vac, Entry.isVacant] at this
  simp [there] at this

/-! ### The outcomes -/

/-- CLOSE of the pair on top of the stack, as statements say it. -/
theorem closes_eq (h : s.WalkerWaits x) (s1 : State) (same : s1.handed = s.handed ∧ s1.rwk.walking = s.rwk.walking)
    (stack : s1.rwk.stack = (t0, p0) :: rest) : done (grantDecision (closePort (s1.afterTx now))) =
      .next ({ s1 with rwk := { s1.rwk with stack := (t0, p0 + 1) :: rest } }.walkerSends now .close
        ⟨BitVec.ofNat 8 (t0 + 1), .close, [BitVec.ofNat 8 p0]⟩) :=
  closePort_closes (same.1.trans h.settled) (same.2.trans h.walking) t0 p0 rest stack

theorem closeAll_sends (h : s.WalkerWaits x) : done (grantDecision (closeAll ((t0, p0) :: rest) (s.afterTx now))) =
    .next (s.walkerSends now (.limitClose rest) ⟨BitVec.ofNat 8 (t0 + 1), .close, [BitVec.ofNat 8 p0]⟩) :=
  done_wkPlace h.settled h.walking (by decide)

/-- The last port of a tile at depth 7 with a tile behind it: the depth mark is set (R69). -/
theorem lastPort_deep (h : s.WalkerWaits x) {t1 p1 : Nat} (stack : s.rwk.stack = (t0, p0) :: (t1, p1) :: rest)
    (last : p0 + 1 = (entryAt s t0).ports) (bit : (entryAt s t0).present.getLsbD p0 = true) (deep : 7 ≤ (entryAt s t0).depth) :
    done (grantDecision (walkOn (s.afterTx now))) = .next ({ s with rwk := { s.rwk with
      depthMark := true, stack := (t1, p1 + 1) :: rest } }.walkerSends now .close
        ⟨BitVec.ofNat 8 (t1 + 1), .close, [BitVec.ofNat 8 p1]⟩) := by
  have there : ∃ q, s.behind t0 p0 q := ⟨p0, Nat.le_refl _, by omega, bit⟩
  have closes := ((walkOn_loop (now := now) h.settled h.walking stack).ends (.inr deep) true
    ⟨fun _ => there, fun _ => rfl⟩).1 t1 p1 rest rfl
  rw [closes, State.portsDone, ← last, passed_present bit, Bool.or_true]

section
variable {d : List Byte}

theorem portProbed_duplicate (chosen : chooseEntry (probeOf d).serial s = .duplicate) :
    portProbed (.response d) (s.afterTx now) = closePort (warn (s.afterTx now)) := by
  have chosen' : chooseEntry (probeOf d).serial (s.afterTx now) = .duplicate := chosen
  simp only [portProbed, chosen']

theorem portProbed_takes (chosen : chooseEntry (probeOf d).serial s = .take i reuse) :
    portProbed (.response d) (s.afterTx now) = wkPlace (.portAssign i reuse (probeOf d)) unassigned .assign
      (addressOf i :: beBytes 6 (probeOf d).serial.toNat) (s.afterTx now) := by
  have chosen' : chooseEntry (probeOf d).serial (s.afterTx now) = .take i reuse := chosen
  simp only [portProbed, chosen']

theorem portProbed_full (chosen : chooseEntry (probeOf d).serial s = .full) :
    portProbed (.response d) (s.afterTx now) =
      closeAll s.rwk.stack (State.afterTx { s with rwk := { s.rwk with countMark := true } } now) := by
  have chosen' : chooseEntry (probeOf d).serial (s.afterTx now) = .full := chosen
  simp only [portProbed, chosen']
  rfl

end

/-- ASSIGN to an entry taken as it is (R62, R75). -/
theorem assigned_there (h : s.WalkerWaits x) (stack : s.rwk.stack = (t0, p0) :: rest) (small : i < s.rwk.roster.length)
    (as_is : reuse = true ∨ (entryAt s i).state = .vacant) :
    let run := done (grantDecision (admitBelow i reuse p (s.afterTx now)))
    let found := fun (st : EntryState) => tileEntry (entryAt s i) st p (some t0) p0 ((entryAt s t0).depth + 1)
    let old := (entryAt s i).state
    (p.serial ∉ s.rwk.denyList → reuse = false ∨ (old ≠ .denied ∧ old ≠ .lost) →
      (s.withEntry i (found .active)).entryDone now i false run)
    ∧ (p.serial ∉ s.rwk.denyList → reuse = true → old = .lost ∨ old = .denied →
      run = .next ((s.withEntry i (found .active)).walkerSends now (.blank i false) (blankRequest i 0)))
    ∧ (p.serial ∈ s.rwk.denyList → reuse = true → old = .denied → (s.withEntry i (found .denied)).entryDone now i false run)
    ∧ (p.serial ∈ s.rwk.denyList → reuse = false ∨ old = .active ∨ old = .lost →
      run = .next (((s.withEntry i (found .denied)).loseUnder i).walkerSends now (.blank i false) (blankRequest i 1))) := by
  intro run found old
  let e := writeAdmitted p (some t0) p0 ((entryAt s t0).depth + 1) (entryAt s i)
  have run_ : run = done (grantDecision (denyCheck i false old (!reuse) ((s.withEntry i e).afterTx now))) :=
    congrArg (fun t => done (grantDecision t)) (admitBelow_there stack as_is)
  rw [run_]
  refine ⟨fun free plain => ?_, fun free again back => ?_, fun listed again still => ?_, fun listed news => ?_⟩
  · exact checked_active (e := e) h.settled h.walking small free (by rcases plain with e | ⟨e, e'⟩ <;> simp [*])
  · exact checked_unblanked (e := e) h.settled h.walking small free (by rcases back with e | e <;> simp [e, again])
  · exact checked_stillDenied (e := e) h.settled h.walking small listed (by simp [still, again])
  · exact checked_denied (e := e) h.settled h.walking small listed (by rcases news with e | e | e <;> simp [e])

/-- ASSIGN to an entry reused from another place (R77). -/
theorem assigned_cleared (h : s.WalkerWaits x) (stack : s.rwk.stack = (t0, p0) :: rest) (small : i < s.rwk.roster.length)
    (there : (entryAt s i).state ≠ .vacant) (free : p.serial ∉ s.rwk.denyList) :
    ((s.cleared i).withEntry i (tileEntry Entry.vacant .active p (some t0) p0 ((entryAt s t0).depth + 1))).entryDone now i
      false (done (grantDecision (admitBelow i false p (s.afterTx now)))) := by
  rw [admitBelow_cleared stack small there]
  exact checked_active (s := s.cleared i) (e := writeAdmitted p (some t0) p0 ((entryAt s t0).depth + 1) Entry.vacant)
    h.settled h.walking (by simpa [State.cleared] using small) free rfl

/-- The root of an empty roster that the deny list names (R62). -/
theorem rootAssigned_listed (h : s.WalkerWaits x) (listed : p.serial ∈ s.rwk.denyList) (full : s.rwk.kind = .full)
    (roster : s.rwk.roster = List.replicate 64 Entry.vacant) :
    done (grantDecision (admitRoot p (s.afterTx now))) =
      .next ((s.withEntry 0 (tileEntry Entry.vacant .denied p none 0 1)).walkerSends now (.blank 0 true) (blankRequest 0 1)) := by
  have some_ : 0 < s.rwk.roster.length := by simp [roster]
  have vacant : ∀ e ∈ s.rwk.roster, e = Entry.vacant := fun e he => by
    rw [roster] at he
    exact List.eq_of_mem_replicate he
  have alone : clearTwin p.serial (s.afterTx now) = s.afterTx now := clearTwin_none fun e he =>
    .inl (by rw [vacant e (List.mem_of_mem_tail he)]; rfl)
  have nobody : ((s.withEntry 0 (rootEntry .denied p)).loseUnder 0) = s.withEntry 0 (rootEntry .denied p) :=
    loseUnder_none fun j => withEntry_parents (by simp [rootEntry, Entry.vacant]) (fun e he => by
      rw [vacant e he]
      simp [Entry.vacant]) 0 j
  rw [admitRoot_eq, alone]
  have checked := checked_listed (now := now) (root := true) (fresh := true) (old := .vacant) (e := rootEntry .vacant p) some_
    listed rfl
  have plain := reportRoot_quiet (s := (s.withEntry 0 (rootEntry .denied p)).afterTx now) .denied (.inr full)
  have e : denyCheck 0 true .vacant true ((s.withEntry 0 (rootEntry .vacant p)).afterTx now) =
      sendBlank 0 true true ((s.withEntry 0 (rootEntry .denied p)).afterTx now) := by
    rw [checked]
    exact congrArg (sendBlank 0 true true) (((if_pos rfl).trans
      (congrArg (fun t => reportRoot .denied (State.afterTx t now)) nobody)).trans plain)
  exact (congrArg (fun t => done (grantDecision t)) e).trans
    (done_wkPlace (s := s.withEntry 0 (rootEntry .denied p)) h.settled h.walking (by decide))

/-- The root whose serial another entry has (R76). -/
theorem rootAssigned_twin (h : s.WalkerWaits x) (free : p.serial ∉ s.rwk.denyList) (low : 0 < i)
    (small : i < s.rwk.roster.length) (there : (entryAt s i).state ≠ .vacant) (own : (entryAt s i).serial = p.serial)
    (first : ∀ j < i, 0 < j → (entryAt s j).state = .vacant ∨ (entryAt s j).serial ≠ p.serial) :
    (((s.twinLost i).cleared i).withEntry 0 (tileEntry Entry.vacant .active p none 0 1)).entryDone now 0 true
      (done (grantDecision (admitRoot p (s.afterTx now)))) := by
  have twin := clearTwin_found (now := now) low small there own first
  have length : ((s.twinLost i).cleared i).rwk.roster.length = s.rwk.roster.length := by
    unfold State.twinLost
    split <;> simp [State.cleared, State.loseUnder]
  have fields : ((s.twinLost i).cleared i).rwk.denyList = s.rwk.denyList ∧ ((s.twinLost i).cleared i).handed = s.handed
      ∧ ((s.twinLost i).cleared i).rwk.walking = s.rwk.walking := by
    unfold State.twinLost
    split <;> exact ⟨rfl, rfl, rfl⟩
  obtain ⟨deny, handed, walking⟩ := fields
  have e := admitRoot_active (s := s.afterTx now) (p := p)
    (by rw [twin]; exact (show 0 < ((s.twinLost i).cleared i).rwk.roster.length by omega))
    (by rw [twin]; exact (show p.serial ∉ ((s.twinLost i).cleared i).rwk.denyList by rw [deny]; exact free))
  rw [twin] at e
  rw [e]
  exact afterEntry_done (s := ((s.twinLost i).cleared i).withEntry 0 (rootEntry .active p)) (handed.trans h.settled)
    (walking.trans h.walking) 0 true

end

section
variable {s : State} {x : Transaction}

/-- PROBE behind a port, by what the tile is (R70, R75). -/
theorem portProbed_answers (h : s.WalkerWaits x) (length : s.rwk.roster.length = 64) {t0 p0 : Nat} {rest : List (Nat × Nat)}
    {d : List Byte} (stack : s.rwk.stack = (t0, p0) :: rest) :
    let run := done (grantDecision (portProbed (.response d) (s.afterTx s.now)))
    let r := s.rwk.roster
    let p := probeOf d
    let same := holds p.serial
    let close : Request := ⟨BitVec.ofNat 8 (t0 + 1), .close, [BitVec.ofNat 8 p0]⟩
    let assigns := fun (i : Nat) (reuse : Bool) => Host.Outcome.next (s.walkerSends s.now (.portAssign i reuse p)
      ⟨0x7F, .assign, BitVec.ofNat 8 (i + 1) :: beBytes 6 p.serial.toNat⟩)
    let age := fun (e : Entry) => (s.rwk.generation - e.lostGen).toNat
    let oldest := fun (i : Nat) => (entryAt s i).state = .lost ∧ ∀ j < 64, (entryAt s j).state = .lost →
      age (entryAt s j) < age (entryAt s i) ∨ (age (entryAt s j) = age (entryAt s i) ∧ i ≤ j)
    (∀ i, r.findIdx? same = some i →
      ((∃ e ∈ r, same e = true ∧ e.verified = true) → run = .next ({ s with rwk := { s.rwk with
        warnings := min 63 (s.rwk.warnings + 1), stack := (t0, p0 + 1) :: rest } }.walkerSends s.now .close close))
      ∧ ((∀ e ∈ r, same e = true → e.verified = false) → run = assigns i true))
    ∧ (r.findIdx? same = none →
      (∀ i, r.findIdx? (fun e => decide (e.state = .vacant)) = some i → run = assigns i false)
      ∧ (r.findIdx? (fun e => decide (e.state = .vacant)) = none →
        (∀ i < 64, s.rwk.kind = .refresh → oldest i → run = assigns i false)
        ∧ (s.rwk.kind = .full ∨ (∀ e ∈ r, e.state ≠ .lost) → run = .next ({ s with rwk := { s.rwk with
          countMark := true } }.walkerSends s.now (.limitClose rest) close)))) := by
  intro run r p same close assigns age oldest
  have assign : ∀ i reuse, chooseEntry p.serial s = .take i reuse → run = assigns i reuse := fun i reuse chosen =>
    (congrArg (fun t => done (grantDecision t)) (portProbed_takes chosen)).trans
      (done_wkPlace h.settled h.walking (by decide))
  refine ⟨fun i known => ⟨fun twice => ?_, fun once => assign i true (chooseEntry_known known once)⟩, fun new =>
    ⟨fun i free => assign i false (chooseEntry_vacant new free), fun filled =>
      ⟨fun i small refresh oldest_ => assign i false (chooseEntry_oldest new filled refresh
        (oldest_found length small oldest_.1 oldest_.2)), fun nobody => ?_⟩⟩⟩
  · refine (congrArg (fun t => done (grantDecision t)) (portProbed_duplicate (chooseEntry_duplicate twice))).trans ?_
    exact closes_eq h { s with rwk := { s.rwk with warnings := min 63 (s.rwk.warnings + 1) } } ⟨rfl, rfl⟩ stack
  · refine (congrArg (fun t => done (grantDecision t)) (portProbed_full (chooseEntry_full new filled nobody))).trans ?_
    rw [stack]
    exact done_wkPlace (s := { s with rwk := { s.rwk with countMark := true } }) h.settled h.walking (by decide)

/-- The entries that twinLost leaves, as statements write them. -/
theorem twinLost_roster (i : Nat) : (s.twinLost i).rwk.roster =
    if (entryAt s i).state = .active ∨ (entryAt s i).state = .denied then
      s.rwk.roster.mapIdx (fun j e => if isBelow s.rwk.roster i 64 j = true then
        (if e.state = .active ∨ e.state = .denied then { e with state := .lost, lostGen := s.rwk.generation } else e) else e)
    else s.rwk.roster := by
  have held : (entryAt s i).isHeld = true ↔ (entryAt s i).state = .active ∨ (entryAt s i).state = .denied := by
    simp [Entry.isHeld]
  have lost : (s.loseUnder i).rwk.roster = _ := (mapIdx_lose s.rwk.generation s.rwk.roster fun j => Iff.rfl).symm
  unfold State.twinLost
  by_cases yes : (entryAt s i).isHeld = true
  · rw [if_pos yes, if_pos (held.1 yes), lost]
  · rw [if_neg yes, if_neg (held.not.1 yes)]

end

/-- Settles O52: the choice by the searches of R75, each admission by the deny check of the entry written, and the
failures by the stage that they lead to. -/
theorem walkAdmissions : Obligations.WalkAdmissions := by
  intro s x h channel length r lose held tile withRoster warned close blank closes
  refine ⟨fun t0 p0 rest f d verdict stack => ?below, ?fails, fun f d verdict => ?answers⟩
  case below =>
    intro run p same assigns age oldest
    have step : ∀ {w}, s.rwk.wait = some w → run = done (grantDecision (walkStage w (.response d) (s.afterTx s.now))) :=
      fun wait => h.responds channel verdict wait
    refine ⟨fun wait => ?_, fun i reuse p wait small => ?_⟩
    · rw [step wait]
      exact portProbed_answers h length stack
    · intro e depth listed cleared found
      rw [step wait]
      have inside : i < s.rwk.roster.length := by omega
      have there := fun as_is => assigned_there (now := s.now) (reuse := reuse) (p := p) h stack inside as_is
      refine ⟨fun again active free => ?_, fun again back free => ?_, fun again still on => ?_, fun again which on => ?_,
        fun fresh vacant free => ?_, fun fresh other apart free => ?_, fun fresh vacant on alone apart => ?_⟩
      · exact (there (.inl again)).1 free (.inr (by rw [show (entryAt s i).state = .active from active]; decide))
      · exact (there (.inl again)).2.1 free again back
      · exact (there (.inl again)).2.2.1 on again still
      · have sends := (there (.inl again)).2.2.2 on (.inr which)
        have lost : ((s.withEntry i (tileEntry (entryAt s i) .denied p (some t0) p0 depth)).loseUnder i).rwk.roster = _ :=
          (mapIdx_lose s.rwk.generation (found .denied) fun j => Iff.rfl).symm
        exact sends.trans (congrArg (fun l => Host.Outcome.next ((withRoster l).walkerSends s.now (.blank i false) (blank i 1))) lost)
      · exact (there (.inr vacant)).1 free (.inl fresh)
      · rw [fresh]
        exact assigned_cleared h stack inside other free
      · have sends := (there (.inr vacant)).2.2.2 on (.inl fresh)
        have nobody : (s.withEntry i (tileEntry (entryAt s i) .denied p (some t0) p0 depth)).loseUnder i = _ :=
          loseUnder_none fun j => withEntry_parents (by simpa [tileEntry] using apart.symm) alone i j
        rw [nobody] at sends
        exact sends
  case fails =>
    refine attemptFails_of channel h.flight h.prompt fun o now failed => ?_
    rw [h.hands]
    intro warns
    have step : ∀ {w}, s.rwk.wait = some w → wkResult o { s with now := now, sbc := s.sbc.freed } =
        walkStage w o (s.afterTx now) := fun wait => wkResult_eq wait o now
    refine ⟨fun wait => ?_, fun i reuse p wait => ?_, fun i root wait => ?_, fun t0 p0 rest wait => ?_, fun wait => ?_⟩
    · rw [step wait, walkStage, portProbed_failed failed]
      exact closePort_closes (s := warns) h.settled h.walking
    · rw [step wait, walkStage, portAssigned_failed i reuse p failed]
      exact closePort_closes (s := warns) h.settled h.walking
    · rw [step wait, walkStage, blankDone_failed i root failed]
      exact afterEntry_done (s := warns) h.settled h.walking i root
    · rw [step wait]
      exact closeAll_sends h
    · rw [step wait]
      exact endOwn_ends
  case answers =>
    intro run
    have step : ∀ {w}, s.rwk.wait = some w → run = done (grantDecision (walkStage w (.response d) (s.afterTx s.now))) :=
      fun wait => h.responds channel verdict wait
    refine ⟨fun i root wait => ?_, fun p wait listed full roster => ?_, fun p i wait free low small there own first => ?_,
      fun t0 p0 t1 p1 rest wait stack last bit deep => ?_, fun t0 p0 rest wait => ?_, fun wait => ?_⟩
    · rw [step wait]
      exact afterEntry_done h.settled h.walking i root
    · rw [step wait]
      exact rootAssigned_listed h listed full roster
    · intro lost cleared
      rw [step wait]
      have done_ := rootAssigned_twin (now := s.now) h free low (by omega) there own first
      have lost_ : (s.twinLost i).rwk.roster = lost := twinLost_roster i
      have whole : ((s.twinLost i).cleared i).withEntry 0 (tileEntry Entry.vacant .active p none 0 1) =
          withRoster (cleared.set 0 (tile Entry.vacant .active p none 0 1)) := by
        have fields : s.twinLost i = withRoster lost := by
          rw [← lost_]
          unfold State.twinLost
          split <;> rfl
        rw [fields]
        rfl
      rw [whole] at done_
      exact done_
    · rw [step wait]
      exact lastPort_deep h stack last bit deep
    · rw [step wait]
      exact closeAll_sends h
    · rw [step wait]
      exact endOwn_ends

end Sys2Proof.Machine

end

section
/-!
PROOFS. How a frame start is put together: FMON's part, whatever issues it, and after it one body of stages, each of which
touches its own parts of the state. FORMAT and TALLY are read off the stage that builds them.
-/

namespace Sys2Proof.Machine

set_option Elab.async false

/-! ### FMON's part -/

/-- A piece of FMON's part of a frame start before or after the count, with at most n events: of SES it touches the FORMAT
reason and the mark for its removal alone, of PXP the code error count. With no event the geometry stays. -/
structure FmonStep (n : Nat) (s t : State) : Prop where
  touches : Touches [.fmon, .ses, .pxp, .now, .choices] s t
  ses : t.ses = { s.ses with
    formatDrop := t.ses.formatDrop, quiet := { s.ses.quiet with format := t.ses.quiet.format } } := by exact rfl
  pxp : t.pxp = { s.pxp with codeErrors := t.pxp.codeErrors, errorReported := t.pxp.errorReported } := by exact rfl
  fsn : t.fmon.fsn = s.fmon.fsn := by exact rfl
  lossReport : t.fmon.lossReport = s.fmon.lossReport := by exact rfl
  geometry : n = 0 → t.fmon.geometry = s.fmon.geometry := by exact fun _ => rfl
  format : s.ses.quiet.format = true → t.ses.quiet.format = true := by exact id
  drops : s.ses.formatDrop = true → t.ses.formatDrop = true := by exact id
  hands : Hands HandedItem.anEvent n s t := by exact .of_same rfl

theorem FmonStep.trans {m n : Nat} {a b c : State} (h : FmonStep m a b) (k : FmonStep n b c) : FmonStep (m + n) a c where
  touches := h.touches.trans k.touches
  ses := by rw [k.ses, h.ses]
  pxp := by rw [k.pxp, h.pxp]
  fsn := k.fsn.trans h.fsn
  lossReport := k.lossReport.trans h.lossReport
  geometry e := (k.geometry (by omega)).trans (h.geometry (by omega))
  format f := k.format (h.format f)
  drops f := k.drops (h.drops f)
  hands := h.hands.trans k.hands

theorem FmonStep.mono {m n : Nat} {a b : State} (h : FmonStep m a b) (le : m ≤ n) : FmonStep n a b :=
  { h with geometry := fun e => h.geometry (by omega), hands := h.hands.mono (fun _ k => k) le }

theorem setFmon_touches (s : State) (f : Fmon) : Touches [.fmon] s { s with fmon := f } := { fmon := .inl (by decide) }

theorem advanceTo_fmonStep (t : Nat) (s : State) : FmonStep 0 s (advanceTo t s) where
  touches := { now := .inl (by decide) }

theorem noteBoundary_fmonStep (a : Alignment) (s : State) : FmonStep 0 s (noteBoundary a s) where
  touches := (setFmon_touches s _).mono (by decide)

theorem openMeasurement_fmonStep (s : State) : FmonStep 0 s (openMeasurement s) where
  touches := { fmon := .inl (by decide), pxp := .inl (by decide) }

theorem leaveNoSignal_fmonStep (s : State) : FmonStep 0 s (leaveNoSignal s) :=
  FmonStep.trans (m := 0) (n := 0) { touches := (setFmon_touches s _).mono (by decide) } (openMeasurement_fmonStep _)

theorem learnVertical_fmonStep (edge : Level) (high low offset : Nat) (s : State) :
    FmonStep 0 s (learnVertical edge high low offset s).2 := by
  have aligned : ∀ s : State, FmonStep 0 s (alignVertical offset s).2 := by
    intro s
    unfold alignVertical
    split
    · exact { touches := .refl _ s }
    · exact { touches := { choices := .inl (by decide) } }
  have learnt : ∀ f : Fmon, f.fsn = s.fmon.fsn → f.lossReport = s.fmon.lossReport → f.geometry = s.fmon.geometry →
      FmonStep 0 s { s with fmon := f } := fun f h k g =>
    { touches := (setFmon_touches s f).mono (by decide), fsn := h, lossReport := k, geometry := fun _ => g }
  unfold learnVertical
  dsimp only
  split
  · exact learnt _ rfl rfl rfl
  · split
    · exact FmonStep.trans (b := { s with fmon := { s.fmon with vLevel := some (activeLevel high low) } })
        (learnt _ rfl rfl rfl) (aligned _)
    · exact learnt _ rfl rfl rfl

theorem boundaryOf_fmonStep (i : BoundaryInput) (s : State) : FmonStep 0 s (boundaryOf i s).2 := by
  have same : FmonStep 0 s s := { touches := .refl _ s }
  unfold boundaryOf
  split
  · split
    · exact same
    · exact (advanceTo_fmonStep _ s).trans (learnVertical_fmonStep ..)
  · split
    · exact FmonStep.trans (m := 0) (n := 0) { touches := (setFmon_touches s _).mono (by decide) } (advanceTo_fmonStep _ _)
    · exact same

theorem postLocked_fmonStep (s : State) : FmonStep 1 s (postLocked s) where
  touches := Touches.trans (b := { s with ses := { s.ses with formatDrop := true } }) { ses := .inl (by decide) }
    ((post_touches ..).mono (fun _ h => (nomatch h)))
  drops _ := rfl
  hands := ((Hands.of_same rfl : Hands _ 0 s { s with ses := { s.ses with formatDrop := true } }).trans
    ((post_hands ..).mono (fun _ e => ⟨_, e⟩) (Nat.le_refl 1)))

theorem postLost_fmonStep (c : LossCause) (s : State) : FmonStep 1 s (postLost c s) := by
  have posted : ∀ s : State, ∀ e, FmonStep 1 s (post .fmon e s) := fun s e =>
    { touches := (post_touches ..).mono (fun _ h => (nomatch h))
      hands := (post_hands ..).mono (fun _ e => ⟨_, e⟩) (Nat.le_refl 1) }
  have marked : ∀ s : State,
      FmonStep 0 s { s with ses := { s.ses with quiet := { s.ses.quiet with format := true } } } := fun s =>
    { touches := { ses := .inl (by decide) }, format := fun _ => rfl }
  unfold postLost
  split
  · exact (marked s).trans (posted _ _)
  · exact posted s _

theorem judgeMeasurement_fmonStep (m : Measurement) (valid : Bool) (s : State) : FmonStep 1 s (judgeMeasurement m valid s) := by
  have moved : ∀ f : Fmon, f.fsn = s.fmon.fsn → f.lossReport = s.fmon.lossReport → FmonStep 1 s { s with fmon := f } :=
    fun f h k =>
      { touches := (setFmon_touches s f).mono (by decide), fsn := h, lossReport := k, geometry := fun e => absurd e one_ne_zero }
  have still : ∀ f : Fmon, f.fsn = s.fmon.fsn → f.lossReport = s.fmon.lossReport → f.geometry = s.fmon.geometry →
      FmonStep 0 s { s with fmon := f } := fun f h k g =>
    { touches := (setFmon_touches s f).mono (by decide), fsn := h, lossReport := k, geometry := fun _ => g }
  have same : FmonStep 1 s s := { touches := .refl _ s }
  have locks : ∀ f : Fmon, f.fsn = s.fmon.fsn → f.lossReport = s.fmon.lossReport →
      FmonStep 1 s (postLocked { s with fmon := f }) := fun f h k =>
    { postLocked_fmonStep { s with fmon := f } with
      touches := ((setFmon_touches s f).mono (by decide)).trans (postLocked_fmonStep _).touches
      fsn := h, lossReport := k, geometry := fun e => absurd e one_ne_zero }
  unfold judgeMeasurement
  split
  · unfold judgeAcquiring
    split
    · split
      · split
        · unfold countEqual
          split
          · exact moved _ rfl rfl
          · exact locks _ rfl rfl
        · exact moved _ rfl rfl
      · exact moved _ rfl rfl
    · exact moved _ rfl rfl
  · unfold judgeLocked
    split
    · split
      · split
        · exact same
        · exact FmonStep.trans (b := newRun m s) (still _ rfl rfl rfl) (postLost_fmonStep _ _)
      · exact FmonStep.trans (b := newRun m s) (still _ rfl rfl rfl) (postLost_fmonStep _ _)
    · exact FmonStep.trans (b := noRun s) (still _ rfl rfl rfl) (postLost_fmonStep _ _)
  · exact same

theorem closeMeasurement_fmonStep (s : State) : FmonStep 1 s (closeMeasurement s) := by
  unfold closeMeasurement
  split
  · exact FmonStep.trans (m := 0) { touches := (setFmon_touches s _).mono (by decide) } (judgeMeasurement_fmonStep ..)
  · exact { touches := .refl _ s }

/-- What FMON's part of a frame start leaves, from the state before the row. -/
structure FmonOpens (s t : State) : Prop where
  touches : Touches [.fmon, .ses, .pxp, .now, .choices] s t
  ses : t.ses = { s.ses with
    formatDrop := t.ses.formatDrop, quiet := { s.ses.quiet with format := t.ses.quiet.format } }
  pxp : t.pxp = { s.pxp with codeErrors := t.pxp.codeErrors, errorReported := t.pxp.errorReported }
  counted : t.fmon.fsn = s.fmon.fsn + 1
  lossReport : t.fmon.lossReport = false
  lost : s.fmon.lossReport = true → (s.ses.autoQuiet = true → t.ses.quiet.format = true)
    ∧ ⟨.fmon, .event (.formatLost s.fmon.geometry.code .inputMode)⟩ ∈ t.handed
  hands : Hands HandedItem.anEvent 2 s t

theorem Hands.mem {Q : HandedItem → Prop} {n : Nat} {s t : State} (h : Hands Q n s t) {x : Handed} (mem : x ∈ s.handed) :
    x ∈ t.handed := by
  obtain ⟨new, e, -⟩ := h
  rw [e]
  exact List.mem_append_left _ mem

/-- The count of the frame start stands between two pieces of FMON's part (R29, R35). -/
theorem fmonOpens_of {s a t : State} (before : FmonStep 0 (dropFormat s) a) (after : FmonStep 1 (countFrame a) t) :
    FmonOpens s t := by
  have dropped : Touches [.fmon, .ses, .pxp, .now, .choices] s (dropFormat s)
      ∧ (dropFormat s).ses = { s.ses with
        formatDrop := (dropFormat s).ses.formatDrop, quiet := { s.ses.quiet with format := (dropFormat s).ses.quiet.format } }
      ∧ (dropFormat s).pxp = s.pxp ∧ (dropFormat s).fmon = s.fmon ∧ (dropFormat s).handed = s.handed := by
    unfold dropFormat
    split
    · exact ⟨{ ses := .inl (by decide) }, rfl, rfl, rfl, rfl⟩
    · exact ⟨.refl _ s, rfl, rfl, rfl, rfl⟩
  obtain ⟨dTouches, dSes, dPxp, dFmon, dHanded⟩ := dropped
  have counted : Touches [.fmon, .ses, .pxp, .now, .choices] a (countFrame a)
      ∧ (countFrame a).ses = { a.ses with
        formatDrop := (countFrame a).ses.formatDrop, quiet := { a.ses.quiet with format := (countFrame a).ses.quiet.format } }
      ∧ (countFrame a).pxp = a.pxp ∧ (countFrame a).fmon.fsn = a.fmon.fsn + 1 ∧ (countFrame a).fmon.lossReport = false
      ∧ (a.fmon.lossReport = true → (a.ses.autoQuiet = true → (countFrame a).ses.quiet.format = true)
        ∧ ⟨.fmon, .event (.formatLost a.fmon.geometry.code .inputMode)⟩ ∈ (countFrame a).handed)
      ∧ Hands HandedItem.anEvent 1 a (countFrame a) := by
    unfold countFrame reportInputMode
    split
    · rename_i waits
      have lost := postLost_fmonStep .inputMode { a with fmon := { a.fmon with fsn := a.fmon.fsn + 1, lossReport := false } }
      refine ⟨((setFmon_touches a _).mono (by decide)).trans lost.touches, lost.ses, ?_, lost.fsn, lost.lossReport,
        fun _ => ⟨fun auto => ?_, ?_⟩, lost.hands⟩
      · unfold postLost
        split <;> rfl
      · unfold postLost
        rw [if_pos auto]
        rfl
      · exact List.mem_append_right _ (List.mem_singleton_self _)
    · rename_i idle
      exact ⟨(setFmon_touches a _).mono (by decide), rfl, rfl, rfl, by simpa using idle, fun h => absurd h idle,
        .of_same rfl⟩
  obtain ⟨cTouches, cSes, cPxp, cFsn, cLoss, cLost, cHands⟩ := counted
  have geometry : a.fmon.geometry = s.fmon.geometry := (before.geometry rfl).trans (congrArg Fmon.geometry dFmon)
  have lossBefore : a.fmon.lossReport = s.fmon.lossReport := before.lossReport.trans (congrArg Fmon.lossReport dFmon)
  have autoBefore : a.ses.autoQuiet = s.ses.autoQuiet := by rw [before.ses, dSes]
  refine ⟨((dTouches.trans before.touches).trans cTouches).trans after.touches, ?_, ?_, ?_, after.lossReport.trans cLoss,
    fun waits => ?_, ?_⟩
  · rw [after.ses, cSes, before.ses, dSes]
  · rw [after.pxp, cPxp, before.pxp, dPxp]
  · rw [after.fsn, cFsn, before.fsn, dFmon]
  · obtain ⟨format, posted⟩ := cLost (lossBefore.trans waits)
    rw [geometry] at posted
    exact ⟨fun auto => after.format (format (autoBefore.trans auto)), after.hands.mem posted⟩
  · exact ((Hands.of_same dHanded : Hands HandedItem.anEvent 0 s (dropFormat s)).trans before.hands).trans
      (cHands.trans after.hands) |>.mono (fun _ h => h) (Nat.le_refl 2)

/-- A state of before, with FMON's clock alone moved on. -/
theorem FmonOpens.after {s a t : State} (before : FmonStep 0 s a) (opens : FmonOpens a t) : FmonOpens s t where
  touches := before.touches.trans opens.touches
  ses := by rw [opens.ses, before.ses]
  pxp := by rw [opens.pxp, before.pxp]
  counted := by rw [opens.counted, before.fsn]
  lossReport := opens.lossReport
  lost waits := by
    obtain ⟨format, posted⟩ := opens.lost (before.lossReport.trans waits)
    rw [before.geometry rfl] at posted
    refine ⟨fun auto => format ?_, posted⟩
    rw [before.ses]
    exact auto
  hands := (before.hands.trans opens.hands).mono (fun _ h => h) (Nat.le_refl 2)

theorem fmonOpens_boundary (a : Alignment) (s : State) : FmonOpens s (fmonBoundary (noteBoundary a (dropFormat s))) :=
  fmonOpens_of (noteBoundary_fmonStep a _) ((closeMeasurement_fmonStep _).trans (openMeasurement_fmonStep _))

theorem fmonOpens_leave (a : Alignment) (s : State) :
    FmonOpens s (countFrame (leaveNoSignal (noteBoundary a (dropFormat s)))) :=
  fmonOpens_of ((noteBoundary_fmonStep a _).trans (leaveNoSignal_fmonStep _)) { touches := .refl _ _ }

theorem fmonOpens_flywheel (s : State) : FmonOpens s (fmonFlywheel (dropFormat s)) :=
  fmonOpens_of { touches := (setFmon_touches _ _).mono (by decide) } { touches := .refl _ _ }

theorem fmonOpens_noSignal (s : State) : FmonOpens s (fmonNoSignal (dropFormat s)) := by
  have quiet : FmonStep 0 (dropFormat s) { dropFormat s with fmon := { (dropFormat s).fmon with
      monitor := .noSignal, measuring := none, reference := none, equalCount := 0, prevAlign := none
      activity := none, flyRunning := true, lastFly := (dropFormat s).now } } :=
    { touches := (setFmon_touches _ _).mono (by decide) }
  unfold fmonNoSignal
  dsimp only
  split
  · exact fmonOpens_of quiet (postLost_fmonStep _ _)
  · exact fmonOpens_of quiet { touches := .refl _ _ }

/-! ### The body of a frame start -/

/-- The state in which the cadence work of a frame start begins: TL_TERM is sampled, and the pending records of the standing
table and of the audio port have taken effect. -/
def recordsTaken (term : Bool) (b : State) : State := applyAudio (replaceEntries (sampleTerm term (pxpNewFrame b)))

/-- The state after the cadence work and SES's changes. -/
def sessionTaken (term : Bool) (b : State) : State := (sessionPart (recordsTaken term b)).1

/-- The cadence work that a frame start leaves. -/
def cadenceWork (term : Bool) (b : State) : CadenceWork := (sessionPart (recordsTaken term b)).2

/-- The state of which the plan is built. -/
def planBase (term : Bool) (b : State) : State :=
  pxpFrameStart (apqFrameStart (audioFill (audioSession (sessionTaken term b))))

/-- A frame start after FMON's part. -/
def frameBody (term : Bool) (b : State) : State := buildPlan (cadenceWork term b) (planBase term b)

theorem frameStart_eq (f : State → State) (term : Bool) (s : State) :
    frameStart f term s = frameBody term (f (dropFormat s)) := rfl

/-- Either no frame start has taken s to t, or FMON's part and then the body of one has. -/
def OpensOrNot (term : Bool) (s t : State) : Prop :=
  t.fmon.fsn = s.fmon.fsn ∨ ∃ b, FmonOpens s b ∧ t = frameBody term b

theorem OpensOrNot.after {term : Bool} {s a t : State} (before : FmonStep 0 s a) (h : OpensOrNot term a t) :
    OpensOrNot term s t := by
  rcases h with same | ⟨b, opens, e⟩
  · exact .inl (same.trans before.fsn)
  · exact .inr ⟨b, opens.after before, e⟩

theorem takeBoundary_opens (a : Alignment) (term : Bool) (s : State) : OpensOrNot term s (takeBoundary a term s) := by
  unfold takeBoundary
  split
  · split
    · exact .inr ⟨_, fmonOpens_leave a s, rfl⟩
    · exact .inl rfl
  · split
    · exact .inl rfl
    · exact .inr ⟨_, fmonOpens_boundary a s, rfl⟩

theorem seeBoundary_opens (i : BoundaryInput) (term : Bool) (s : State) : OpensOrNot term s (seeBoundary i term s) := by
  have step := boundaryOf_fmonStep i s
  unfold seeBoundary
  split
  · rename_i a s1 e
    rw [e] at step
    exact (takeBoundary_opens a term s1).after step
  · rename_i s1 e
    rw [e] at step
    exact .inl step.fsn

theorem flywheelElapsed_opens (term : Bool) (s : State) : OpensOrNot term s (flywheelElapsed term s) := by
  unfold flywheelElapsed
  split
  · exact .after (advanceTo_fmonStep _ s) (.inr ⟨_, fmonOpens_flywheel _, rfl⟩)
  · exact .inl rfl

theorem activityElapsed_opens (term : Bool) (s : State) : OpensOrNot term s (activityElapsed term s) := by
  unfold activityElapsed
  split
  · exact .inl rfl
  · exact .after (advanceTo_fmonStep _ s) (.inr ⟨_, fmonOpens_noSignal _, rfl⟩)
  · exact .inl rfl

/-- What a row that opens a frame runs: FMON's part, the body, and HIF's handling of what was handed over. -/
theorem frameRow_opens {i : Instr} {s t : State} {term : Bool} (row : frameRow i = some term) (run : exec i s = .next t)
    (fresh : t.fmon.fsn ≠ s.fmon.fsn) : ∃ b, FmonOpens s b ∧ t = finishAnyOrder (frameBody term b) := by
  have ended : ∀ u : State, OpensOrNot term s u → doneAny u = .next t →
      ∃ b, FmonOpens s b ∧ t = finishAnyOrder (frameBody term b) := by
    intro u opens e
    have e' : finishAnyOrder u = t := Host.Outcome.next.inj e
    obtain ⟨hif, out, choices, finish⟩ := finishAnyOrder_spec u
    rcases opens with same | ⟨b, opens, eb⟩
    · refine absurd ?_ fresh
      rw [← e', finish]
      exact same
    · exact ⟨b, opens, by rw [← e', eb]⟩
  cases i with
  | inputBoundary input sample =>
    obtain rfl := Option.some.inj row
    exact ended _ (seeBoundary_opens input sample s) run
  | flywheelStart sample =>
    obtain rfl := Option.some.inj row
    exact ended _ (flywheelElapsed_opens sample s) run
  | activityTimeout sample =>
    obtain rfl := Option.some.inj row
    exact ended _ (activityElapsed_opens sample s) run
  | _ => exact absurd row (by simp [frameRow])

/-! ### The parts that the stages touch -/

theorem replaceEntries_touches (s : State) : Touches [.stt] s (replaceEntries s) := by
  refine .foldl (fun s i => ?_) _ s
  unfold replaceEntry
  dsimp only
  split
  · exact Touches.trans (b := { s with stt := _ }) { stt := .inl (by decide) }
      ((complete_touches ..).mono (fun _ h => (nomatch h)))
  · exact .refl _ s

theorem applyAudio_touches (s : State) : Touches [.ain] s (applyAudio s) := by
  unfold applyAudio
  split
  · exact Touches.trans (b := formatInForce _ s) { ain := .inl (by decide) }
      ((complete_touches ..).mono (fun _ h => (nomatch h)))
  · exact .refl _ s

theorem postEither_touches (o : Owner) (e e' : Event) (s : State) : Touches [.choices] s (postEither o e e' s) := by
  unfold postEither
  dsimp only
  split <;> exact { choices := .inl (by decide) }

theorem applyCadence_touches (s : State) : Touches [.bss] s (applyCadence s) := by
  unfold applyCadence
  split
  · exact { bss := .inl (by decide) }
  · exact .refl _ s

theorem moveFactor_touches (d f : Nat) (s : State) : Touches [.ses, .bss] s (moveFactor d f s) :=
  { ses := .inl (by decide), bss := .inl (by decide) }

theorem cadenceDecision_touches (d needed : Nat) (s : State) : Touches [.bss, .choices] s (cadenceDecision d needed s).1 := by
  have posted : ∀ e (s : State), Touches [.bss, .choices] s (post .bss e s) := fun e s =>
    (post_touches ..).mono (fun _ h => (nomatch h))
  unfold cadenceDecision
  extract_lets r fits short up moves src s1 change s2
  refine Touches.trans (b := s1) { bss := .inl (by decide) } ?_
  simp only [s2]
  clear_value moves short
  cases moves
  · cases short
    · exact .refl _ _
    · exact posted _ _
  · cases short
    · exact posted _ _
    · exact (postEither_touches ..).mono (by decide)

theorem cadenceStep_touches (s : State) : Touches [.ses, .bss, .choices] s (cadenceStep s).1 := by
  unfold cadenceStep
  dsimp only
  split
  · split <;> exact (moveFactor_touches _ _ s).mono (by decide)
  · split
    · exact (cadenceDecision_touches _ _ s).mono (by decide)
    · exact (moveFactor_touches _ _ s).mono (by decide)

theorem bssFrameStart_touches (s : State) : Touches [.ses, .bss, .choices] s (bssFrameStart s).1 := by
  have step : Touches [.ses, .bss, .choices] s (cadenceStep (applyCadence (setCadenceReason false s))).1 :=
    (Touches.trans (b := setCadenceReason false s) { ses := .inl (by decide) } ((applyCadence_touches _).mono (by decide))).trans
      (cadenceStep_touches _)
  unfold bssFrameStart
  dsimp only
  split
  · exact step.trans ((complete_touches ..).mono (fun _ h => (nomatch h)))
  · exact step

theorem endStartLink_touches (st : Status) (s : State) : Touches [.ses] s (endStartLink st s) :=
  Touches.trans (b := { s with ses := { s.ses with startLink := none } }) { ses := .inl (by decide) }
    ((completeOpt_touches ..).mono (fun _ h => (nomatch h)))

theorem terminationLoss_touches (s : State) : Touches [.ses, .out] s (terminationLoss s) := by
  unfold terminationLoss
  split
  · exact ((endStartLink_touches ..).mono (by decide)).trans (setSession_touches ..)
  · exact setSession_touches ..
  · exact setSession_touches ..
  · exact .refl _ s

theorem lcPlace_touches (i : Nat) (training : Bool) (s : State) : Touches [.ses, .sbc] s (lcPlace i training s) := by
  unfold lcPlace
  split
  · exact Touches.trans (b := { s with ses := _ }) { ses := .inl (by decide) } ((joinSet_touches ..).mono (by decide))
  · exact .refl _ s

theorem updEntry_touches (i : Nat) (f : Entry → Entry) (s : State) : Touches [.rwk] s (updEntry i f s) :=
  { rwk := .inl (by decide) }

theorem setSes_touches (s : State) (x : Ses) : Touches [.ses] s { s with ses := x } := { ses := .inl (by decide) }

theorem linkLocked_touches (s : State) : Touches [.ses, .out, .rwk] s (linkLocked s) := by
  have marked : ∀ s : State, Touches [.ses, .out, .rwk] s
      (if (entryAt s 0).isActive then updEntry 0 (fun e => { e with miss := 0 }) (endStartLink .ok s) else endStartLink .ok s) := by
    intro s
    have ended : Touches [.ses, .out, .rwk] s (endStartLink .ok s) := (endStartLink_touches ..).mono (by decide)
    split
    · exact ended.trans ((updEntry_touches ..).mono (by decide))
    · exact ended
  unfold linkLocked
  dsimp only
  exact ((marked s).trans ((setSes_touches _ _).mono (by decide))).trans ((setSession_touches _ _ _).mono (by decide))

theorem trainingFail_touches (s : State) : Touches [.ses, .out] s (trainingFail s) :=
  ((endStartLink_touches ..).mono (by decide)).trans (setSession_touches ..)

theorem trainingStep_touches (restart : Bool) (s : State) : Touches [.ses, .out, .rwk, .sbc] s (trainingStep restart s) := by
  unfold trainingStep
  split
  · exact (terminationLoss_touches s).mono (by decide)
  · split
    · exact { ses := .inl (by decide) }
    · split
      · exact (linkLocked_touches s).mono (by decide)
      · unfold countTraining
        dsimp only
        refine Touches.trans (b := { s with ses := { s.ses with trainCount := s.ses.trainCount + 1 } })
          { ses := .inl (by decide) } ?_
        split
        · exact (trainingFail_touches _).mono (by decide)
        · split
          · exact (lcPlace_touches ..).mono (by decide)
          · exact .refl _ _

theorem judgeQuiet_touches (s : State) : Touches [.ses, .out] s (judgeQuiet s) := by
  unfold judgeQuiet
  split
  · exact setSession_touches ..
  · exact setSession_touches ..
  · exact .refl _ s

theorem carryingStep_touches (s : State) : Touches [.ses, .out] s (carryingStep s) := by
  unfold carryingStep
  split
  · exact terminationLoss_touches s
  · exact ((setSes_touches _ _).mono (by decide)).trans (judgeQuiet_touches _)

theorem completeQuiets_touches (s : State) : Touches [.ses] s (completeQuiets s) :=
  Touches.trans (b := { s with ses := { s.ses with pendingQuiet := [] } }) { ses := .inl (by decide) }
    ((Touches.foldl (P := []) (fun s (p : PendingQuiet) =>
      complete_touches .ses p.handle .ok s.fmon.fsn (word s.ses.quiet.code) s) s.ses.pendingQuiet _).mono (by decide))

theorem sesFrameStart_touches (restart : Bool) (s : State) : Touches [.ses, .out, .rwk, .sbc] s (sesFrameStart restart s) := by
  have quiets : ∀ s : State, Touches [.ses, .out, .rwk, .sbc] s (completeQuiets s) := fun s =>
    (completeQuiets_touches s).mono (by decide)
  unfold sesFrameStart
  split
  · exact (trainingStep_touches restart s).trans (quiets _)
  · exact ((carryingStep_touches s).mono (by decide)).trans (quiets _)
  · exact ((carryingStep_touches s).mono (by decide)).trans (quiets _)
  · exact quiets s

theorem issueLinkCheck_touches (s : State) : Touches [.ses, .sbc] s (issueLinkCheck s) := by
  unfold issueLinkCheck
  split
  · split
    · exact Touches.trans (b := { s with ses := _ }) { ses := .inl (by decide) } (lcPlace_touches ..)
    · exact .refl _ s
  · exact .refl _ s

theorem audioSession_touches (s : State) : Touches [.ain] s (audioSession s) := by
  unfold audioSession
  split
  · exact .refl _ s
  · dsimp only
    split <;> exact { ain := .inl (by decide) }

theorem audioFill_touches (s : State) : Touches [.ain] s (audioFill s) := by
  unfold audioFill
  split
  · split
    · exact { ain := .inl (by decide) }
    · exact .refl _ s
  · exact .refl _ s

theorem expirePackets_touches (s : State) : Touches [.apq] s (expirePackets s) :=
  (setApq_touches s _).trans ((finishPackets_touches _ _ _).mono (fun _ h => (nomatch h)))

theorem apqFrameStart_touches (s : State) : Touches [.apq, .sbc] s (apqFrameStart s) :=
  (((expirePackets_touches s).mono (by decide)).trans ((setApq_touches _ _).mono (by decide))).trans (nextReceipt_touches _)

theorem applyTransform_touches (s : State) : Touches [.pxp] s (applyTransform s) := by
  unfold applyTransform
  split
  · exact Touches.trans (b := { s with pxp := _ }) { pxp := .inl (by decide) }
      ((complete_touches ..).mono (fun _ h => (nomatch h)))
  · exact .refl _ s

theorem applyFill_touches (s : State) : Touches [.pxp] s (applyFill s) := by
  unfold applyFill
  split
  · exact Touches.trans (b := { s with pxp := _ }) { pxp := .inl (by decide) }
      ((complete_touches ..).mono (fun _ h => (nomatch h)))
  · exact .refl _ s

theorem pxpFrameStart_touches (s : State) : Touches [.pxp] s (pxpFrameStart s) :=
  ((applyTransform_touches s).trans (applyFill_touches _)).trans { pxp := .inl (by decide) }

theorem audioStage_touches (n : Nat) (x : Selection) : Touches [.ain] x.state (audioStage n x).state :=
  { ain := .inl (by decide) }

theorem judgeSkips_touches (w : CadenceWork) (skips : Bool) (s : State) : Touches [.bss] s (judgeSkips w skips s) := by
  unfold judgeSkips
  split
  · split
    · exact .refl _ s
    · exact Touches.trans (b := { s with bss := _ }) { bss := .inl (by decide) }
        ((post_touches ..).mono (fun _ h => (nomatch h)))
  · split
    · exact { bss := .inl (by decide) }
    · exact .refl _ s

theorem sendFrame_touches (packets : List (List Byte)) (s : State) : Touches [.out] s (sendFrame packets s) := by
  unfold sendFrame
  split
  · exact emit_touches _ s
  · exact .refl _ s

/-! ### The selection of packets as one relation -/

/-- What every step of a selection keeps, the selection keeps. -/
theorem selectPackets_rel {R : State → State → Prop} (refl : ∀ s, R s s) (trans : ∀ {a b c}, R a b → R b c → R a c)
    (finish : ∀ p st s, R s (finishPacket p st s)) (place : ∀ pos p x, R x.state (placePacket pos p x).state)
    (queues : ∀ s q, R s { s with apq := q }) (x : Selection) : R x.state (selectPackets x).state := by
  have cls : ∀ ps x, R x.state (selectClass ps x).2.state := by
    intro ps
    induction ps with
    | nil => exact fun x => refl _
    | cons p ps ih =>
      intro x
      unfold selectClass
      split
      · exact refl _
      · split
        · exact trans (finish p .targetGone x.state) (ih { x with state := finishPacket p .targetGone x.state })
        · exact refl _
        · exact trans (place _ p x) (ih _)
  have starve : ∀ ps x, R x.state (starveStep ps x).2.1.state := by
    intro ps
    induction ps with
    | nil => exact fun x => refl _
    | cons p ps ih =>
      intro x
      unfold starveStep
      split
      · exact trans (finish p .targetGone x.state) (ih { x with state := finishPacket p .targetGone x.state })
      · exact refl _
      · exact place _ p x
  have queue : ∀ c ps x, R x.state (withQueue c (selectClass ps x)).state := fun c ps x => trans (cls ps x) (queues _ _)
  have step : ∀ waiting starved blocked x, R x.state (classStep waiting starved blocked x).state := by
    intro waiting starved blocked x
    unfold classStep
    extract_lets x1 x2 x3 placed
    have two : R x.state x2.state := trans (queue .urgent _ x) (queue .normal _ x1)
    have three : R x.state x3.state := by
      simp only [x3]
      split
      · exact two
      · exact trans two (queue .bulk _ x2)
    exact trans three (queues _ _)
  unfold selectPackets
  dsimp only
  split
  · refine trans (trans (starve x.state.apq.bulk x) (queues _ _)) (step _ _ _ (withQueue .bulk
      ((starveStep x.state.apq.bulk x).1, (starveStep x.state.apq.bulk x).2.1)))
  · exact step _ _ _ x

theorem takeTag_touches {i : Nat} {sn : Serial} {s t : State} {tag : Byte} (h : takeTag i sn s = some (tag, t)) :
    Touches [.rwk] s t := by
  unfold takeTag at h
  dsimp only at h
  split at h
  · cases h
    exact updEntry_touches ..
  · cases h

theorem tagFor_touches (p : Packet) (s : State) : Touches [.rwk] s (tagFor p s).2 := by
  unfold tagFor
  split
  · split
    · exact takeTag_touches ‹_›
    · exact .refl _ s
  · exact .refl _ s

theorem placePacket_touches (pos : Nat) (p : Packet) (x : Selection) :
    Touches [.apq, .rwk] x.state (placePacket pos p x).state := by
  refine ((tagFor_touches p x.state).mono (by decide)).trans ?_
  unfold placePacket
  dsimp only
  split
  · exact (setApq_touches _ _).mono (by decide)
  · exact (finishPacket_touches ..).mono (fun _ h => (nomatch h))

theorem selectPackets_touches (x : Selection) : Touches [.apq, .rwk] x.state (selectPackets x).state :=
  selectPackets_rel (fun s => .refl _ s) (fun h k => h.trans k)
    (fun p st s => (finishPacket_touches p st s).mono (fun _ h => (nomatch h))) placePacket_touches
    (fun s q => (setApq_touches s q).mono (by decide)) x

theorem addressedStage_touches (x : Selection) : Touches [.apq, .rwk] x.state (addressedStage x).state := by
  unfold addressedStage
  split
  · exact selectPackets_touches x
  · exact .refl _ _

/-! ### The body's stages put together -/

theorem recordsTaken_touches (term : Bool) (b : State) :
    Touches [.pxp, .pins, .ses, .stt, .ain] b (recordsTaken term b) := by
  have sampled : Touches [.pxp, .pins, .ses, .stt, .ain] b (sampleTerm term (pxpNewFrame b)) :=
    { pxp := .inl (by decide), pins := .inl (by decide), ses := .inl (by decide) }
  exact (sampled.trans ((replaceEntries_touches _).mono (by decide))).trans ((applyAudio_touches _).mono (by decide))

theorem sessionPart_touches (s : State) : Touches [.ses, .bss, .choices, .out, .rwk, .sbc] s (sessionPart s).1 := by
  have changed : Touches [.ses, .bss, .choices, .out, .rwk, .sbc] s (sesFrameStart (bssFrameStart s).2.restart (bssFrameStart s).1) :=
    ((bssFrameStart_touches s).mono (by decide)).trans ((sesFrameStart_touches _ _).mono (by decide))
  unfold sessionPart
  dsimp only
  split
  · exact changed.trans ((issueLinkCheck_touches _).mono (by decide))
  · exact changed

theorem planBase_touches (term : Bool) (b : State) :
    Touches [.ain, .apq, .sbc, .pxp] (sessionTaken term b) (planBase term b) :=
  ((((audioSession_touches _).mono (by decide)).trans ((audioFill_touches _).mono (by decide))).trans
    ((apqFrameStart_touches _).mono (by decide))).trans ((pxpFrameStart_touches _).mono (by decide))

/-- The second stage of the plan. -/
def audioTaken (s : State) : Selection :=
  let s1 := buildFixed s
  let st := standingStage s1
  audioStage (audioAllowance s1 st.cursor) ⟨s1, st.cursor, [], st.sent⟩

/-- The third stage of the plan. -/
def packetsTaken (s : State) : Selection := addressedStage (audioTaken s)

/-- The plan that is built of a state. -/
def planOf (s : State) : Plan :=
  let s1 := buildFixed s
  let st := standingStage s1
  let n := audioAllowance s1 st.cursor
  { fsn := s1.fmon.fsn
    factor := s1.bss.factor
    slots := capacity s1.fmon.geometry s1.bss.factor
    standing := st.placed
    skipped := st.skipped
    audioPackets := n
    audioGroups := n * groupsPerPacket ((s1.ain.format.map (·.channels)).getD 0)
    addressed := (packetsTaken s).placed
    quiet := decide (s1.ses.session = .quiet) }

/-- The state with its plan made, before the shortfall is judged and the frame is sent. -/
def planned (s : State) : State :=
  { (packetsTaken s).state with bss := { (packetsTaken s).state.bss with plan := some (planOf s) } }

theorem buildPlan_eq (w : CadenceWork) (s : State) : buildPlan w s =
    sendFrame (packetsTaken s).sent (judgeSkips w (!(planOf s).skipped.isEmpty) (planned s)) := rfl

theorem audioTaken_touches (s : State) : Touches [.ain] (buildFixed s) (audioTaken s).state :=
  audioStage_touches _ ⟨buildFixed s, _, _, _⟩

theorem packetsTaken_touches (s : State) : Touches [.stt, .ain, .apq, .rwk] s (packetsTaken s).state :=
  (Touches.trans (b := buildFixed s) { stt := .inl (by decide) } ((audioTaken_touches s).mono (by decide))).trans
    ((addressedStage_touches (audioTaken s)).mono (by decide))

theorem planned_touches (s : State) : Touches [.stt, .ain, .apq, .rwk, .bss] s (planned s) :=
  ((packetsTaken_touches s).mono (by decide)).trans { bss := .inl (by decide) }

theorem buildPlan_touches (w : CadenceWork) (s : State) : Touches [.stt, .ain, .apq, .rwk, .bss, .out] s (buildPlan w s) := by
  rw [buildPlan_eq]
  exact (((planned_touches s).mono (by decide)).trans ((judgeSkips_touches _ _ _).mono (by decide))).trans
    ((sendFrame_touches _ _).mono (by decide))

/-- What the stages after the third leave alone. -/
theorem buildPlan_planned (w : CadenceWork) (s : State) : Touches [.bss, .out] (planned s) (buildPlan w s) := by
  rw [buildPlan_eq]
  exact ((judgeSkips_touches _ _ _).mono (by decide)).trans ((sendFrame_touches _ _).mono (by decide))

/-- A plan changes nothing of the standing table after it has built FORMAT and TALLY. -/
theorem buildPlan_stt (w : CadenceWork) (s : State) : (buildPlan w s).stt = (buildFixed s).stt :=
  ((buildPlan_planned w s).stt.resolve_left (by decide)).trans
    (((addressedStage_touches (audioTaken s)).stt.resolve_left (by decide)).trans
      ((audioTaken_touches s).stt.resolve_left (by decide)))

theorem buildPlan_ain (w : CadenceWork) (s : State) : (buildPlan w s).ain = (audioTaken s).state.ain :=
  ((buildPlan_planned w s).ain.resolve_left (by decide)).trans
    ((addressedStage_touches (audioTaken s)).ain.resolve_left (by decide))

theorem buildPlan_apq (w : CadenceWork) (s : State) : (buildPlan w s).apq = (packetsTaken s).state.apq :=
  (buildPlan_planned w s).apq.resolve_left (by decide)

/-- The shortfall flag after the plan (R106). -/
def shortfallAfter (w : CadenceWork) (skips : Bool) (before : Bool) : Bool :=
  if skips then true else if w.fits then false else before

theorem judgeSkips_bss (w : CadenceWork) (skips : Bool) (s : State) :
    (judgeSkips w skips s).bss = { s.bss with shortfall := shortfallAfter w skips s.bss.shortfall } := by
  have same : s.bss = { s.bss with shortfall := s.bss.shortfall } := rfl
  unfold judgeSkips shortfallAfter
  split
  · split
    · rename_i flag
      exact same.trans (congrArg (fun b => { s.bss with shortfall := b }) flag)
    · rfl
  · split <;> rfl

theorem buildPlan_bss (w : CadenceWork) (s : State) : (buildPlan w s).bss = { s.bss with
    plan := some (planOf s), shortfall := shortfallAfter w (!(planOf s).skipped.isEmpty) s.bss.shortfall } := by
  have stages : (packetsTaken s).state.bss = s.bss := (packetsTaken_touches s).bss.resolve_left (by decide)
  rw [buildPlan_eq]
  refine ((sendFrame_touches _ _).bss.resolve_left (by decide)).trans ((judgeSkips_bss _ _ _).trans ?_)
  simp only [planned, stages]

theorem takeTag_rwk {i : Nat} {sn : Serial} {s t : State} {tag : Byte} (h : takeTag i sn s = some (tag, t)) :
    t.rwk = { s.rwk with roster := t.rwk.roster } := by
  unfold takeTag at h
  dsimp only at h
  split at h
  · cases h
    rfl
  · cases h

theorem placePacket_rwk (pos : Nat) (p : Packet) (x : Selection) :
    (placePacket pos p x).state.rwk = { x.state.rwk with roster := (placePacket pos p x).state.rwk.roster } := by
  have tagged : (tagFor p x.state).2.rwk = { x.state.rwk with roster := (tagFor p x.state).2.rwk.roster } := by
    unfold tagFor
    split
    · split
      · exact takeTag_rwk ‹_›
      · rfl
    · rfl
  have placed : (placePacket pos p x).state.rwk = (tagFor p x.state).2.rwk := by
    unfold placePacket
    dsimp only
    split <;> rfl
  rw [placed]
  exact tagged

/-- The selection leaves the walker alone, and of the roster it gives tags alone. -/
theorem buildPlan_rwk (w : CadenceWork) (s : State) :
    (buildPlan w s).rwk = { s.rwk with roster := (buildPlan w s).rwk.roster } := by
  have select : ∀ x : Selection, (addressedStage x).state.rwk
      = { x.state.rwk with roster := (addressedStage x).state.rwk.roster } := by
    intro x
    unfold addressedStage
    split
    · exact selectPackets_rel (R := fun s t => t.rwk = { s.rwk with roster := t.rwk.roster }) (fun _ => rfl)
        (fun h k => by rw [k, h]) (fun _ _ _ => rfl) placePacket_rwk (fun _ _ => rfl) x
    · rfl
  rw [(buildPlan_planned w s).rwk.resolve_left (by decide)]
  exact select (audioTaken s)

/-- A frame start leaves FMON as its part of it has left it. -/
theorem frameBody_fmon (term : Bool) (b : State) : (frameBody term b).fmon = b.fmon :=
  (((buildPlan_touches _ _).fmon.resolve_left (by decide)).trans ((planBase_touches term b).fmon.resolve_left (by decide))).trans
    (((sessionPart_touches _).fmon.resolve_left (by decide)).trans ((recordsTaken_touches term b).fmon.resolve_left (by decide)))

theorem frameBody_ses (term : Bool) (b : State) : (frameBody term b).ses = (sessionTaken term b).ses :=
  ((buildPlan_touches _ _).ses.resolve_left (by decide)).trans ((planBase_touches term b).ses.resolve_left (by decide))

theorem frameBody_pxp (term : Bool) (b : State) : (frameBody term b).pxp = (planBase term b).pxp :=
  (buildPlan_touches _ _).pxp.resolve_left (by decide)

theorem frameBody_sbc (term : Bool) (b : State) : (frameBody term b).sbc = (planBase term b).sbc :=
  (buildPlan_touches _ _).sbc.resolve_left (by decide)

/-! ### FORMAT and TALLY (R117, R118) -/

theorem buildFixed_format {s : State} (two : 2 ≤ s.stt.entries.length) :
    ((buildFixed s).stt.entries[0]?).map (·.payload) = some (formatPayload s) := by
  rcases e : s.stt.entries with _ | ⟨a, _ | ⟨b, l⟩⟩
  · simp [e] at two
  · simp [e] at two
  · unfold buildFixed
    rw [e]
    rfl

theorem buildFixed_tally {s : State} (two : 2 ≤ s.stt.entries.length) :
    ((buildFixed s).stt.entries[1]?).map (·.payload) = some (tallyPayload s) := by
  rcases e : s.stt.entries with _ | ⟨a, _ | ⟨b, l⟩⟩
  · simp [e] at two
  · simp [e] at two
  · unfold buildFixed
    rw [e]
    rfl

theorem buildPlan_format (w : CadenceWork) (s : State) : (buildPlan w s).ain.format = s.ain.format := by
  rw [buildPlan_ain]
  rfl

/-- The plan changes nothing that FORMAT is built of. -/
theorem formatPayload_buildPlan (w : CadenceWork) (s : State) : formatPayload (buildPlan w s) = formatPayload s := by
  have touched := buildPlan_touches w s
  simp only [formatPayload, touched.fmon.resolve_left (by decide), touched.ses.resolve_left (by decide),
    touched.pxp.resolve_left (by decide), buildPlan_format, buildPlan_bss]

theorem tallyPayload_buildPlan (w : CadenceWork) (s : State) : tallyPayload (buildPlan w s) = tallyPayload s := by
  have generation : (buildPlan w s).rwk.generation = s.rwk.generation := by rw [buildPlan_rwk]
  simp only [tallyPayload, (buildPlan_touches w s).ses.resolve_left (by decide), generation]

theorem replaceEntries_length (s : State) : (replaceEntries s).stt.entries.length = s.stt.entries.length := by
  have one : ∀ (s : State) i, (replaceEntry s i).stt.entries.length = s.stt.entries.length := by
    intro s i
    unfold replaceEntry
    dsimp only
    split
    · exact List.length_set ..
    · rfl
  have fold : ∀ (l : List Nat) (s : State), (l.foldl replaceEntry s).stt.entries.length = s.stt.entries.length := by
    intro l
    induction l with
    | nil => exact fun s => rfl
    | cons i l ih => exact fun s => (ih _).trans (one s i)
  exact fold _ s

/-- The standing table as FORMAT and TALLY find it: after the pending records. -/
theorem planBase_stt (term : Bool) (b : State) :
    (planBase term b).stt = (replaceEntries (sampleTerm term (pxpNewFrame b))).stt :=
  ((planBase_touches term b).stt.resolve_left (by decide)).trans
    (((sessionPart_touches _).stt.resolve_left (by decide)).trans ((applyAudio_touches _).stt.resolve_left (by decide)))

theorem fixed_entries (term : Bool) {b : State} (two : 2 ≤ b.stt.entries.length) :
    (((frameBody term b).stt.entries[0]?).map (·.payload) = some (formatPayload (frameBody term b)))
    ∧ (((frameBody term b).stt.entries[1]?).map (·.payload) = some (tallyPayload (frameBody term b))) := by
  have length : 2 ≤ (planBase term b).stt.entries.length := by
    rw [planBase_stt, replaceEntries_length]
    exact two
  rw [frameBody, buildPlan_stt, formatPayload_buildPlan, tallyPayload_buildPlan]
  exact ⟨buildFixed_format length, buildFixed_tally length⟩

/-- Settles O32: both entries are built of the state of which the plan is, and the frame start does not change that any
more. -/
theorem fixedEntriesBuilt : Obligations.FixedEntriesBuilt := by
  intro i s t term row run fresh two
  obtain ⟨b, opens, e⟩ := frameRow_opens row run fresh
  obtain ⟨hif, out, choices, finish⟩ := finishAnyOrder_spec (frameBody term b)
  rw [e, finish]
  have stt : b.stt = s.stt := opens.touches.stt.resolve_left (by decide)
  obtain ⟨format, tally⟩ := fixed_entries term (b := b) (by rw [stt]; exact two)
  generalize frameBody term b = u at format tally ⊢
  exact ⟨format, tally⟩

end Sys2Proof.Machine
end

section
/-!
PROOFS. The session at a frame start: what SES makes of the sample of TL_TERM, of the quiet reasons and of the factor, in
CARRYING and QUIET and in TRAINING, and which link check it asks for.
-/

namespace Sys2Proof.Machine

set_option Elab.async false

/-! ### The state in which SES makes its changes -/

/-- The state after BSS's cadence work. -/
def cadenced (term : Bool) (b : State) : State := (bssFrameStart (recordsTaken term b)).1

/-- The termination-loss count after a sample of TL_TERM (R2). -/
def lossAfter (term : Bool) (x : Ses) : Nat :=
  if x.session.lanesOn then (if term then 0 else min 2 (x.termLoss + 1)) else x.termLoss

theorem recordsTaken_ses (term : Bool) (b : State) :
    (recordsTaken term b).ses = { b.ses with lastTerm := term, termLoss := lossAfter term b.ses } :=
  ((applyAudio_touches _).ses.resolve_left (by decide)).trans ((replaceEntries_touches _).ses.resolve_left (by decide))

/-- Of SES the cadence work touches the CADENCE reason alone. -/
def ReasonOnly (s t : State) : Prop := t.ses = { s.ses with quiet := { s.ses.quiet with cadence := t.ses.quiet.cadence } }

theorem bssFrameStart_reason (s : State) : ReasonOnly s (bssFrameStart s).1 := by
  have cleared : (applyCadence (setCadenceReason false s)).ses = (setCadenceReason false s).ses :=
    (applyCadence_touches _).ses.resolve_left (by decide)
  have step : ReasonOnly s (cadenceStep (applyCadence (setCadenceReason false s))).1 := by
    unfold ReasonOnly cadenceStep
    generalize applyCadence (setCadenceReason false s) = a at cleared ⊢
    have moved : ∀ d f, (moveFactor d f a).ses = { s.ses with
        quiet := { s.ses.quiet with cadence := (moveFactor d f a).ses.quiet.cadence } } := fun d f => by
      have e : (moveFactor d f a).ses = { a.ses with quiet := { a.ses.quiet with cadence := a.ses.session.linkUp } } := rfl
      rw [e, cleared]
      rfl
    dsimp only
    split
    · split <;> exact moved _ _
    · split
      · rw [(cadenceDecision_touches _ _ a).ses.resolve_left (by decide), cleared]
        rfl
      · exact moved _ _
  unfold bssFrameStart
  dsimp only
  split <;> exact step

/-- SES as it stands before its own changes. -/
theorem cadenced_ses (term : Bool) (b : State) : (cadenced term b).ses = { b.ses with
    lastTerm := term, termLoss := lossAfter term b.ses
    quiet := { b.ses.quiet with cadence := (cadenced term b).ses.quiet.cadence } } := by
  have reason := bssFrameStart_reason (recordsTaken term b)
  rw [ReasonOnly, recordsTaken_ses] at reason
  exact reason

theorem cadenced_touches (term : Bool) (b : State) :
    Touches [.pxp, .pins, .ses, .stt, .ain, .bss, .choices] b (cadenced term b) :=
  ((recordsTaken_touches term b).mono (by decide)).trans ((bssFrameStart_touches _).mono (by decide))

theorem cadenced_bss (term : Bool) (b : State) : (sessionTaken term b).bss = (cadenced term b).bss := by
  unfold sessionTaken sessionPart
  dsimp only
  split
  · exact ((issueLinkCheck_touches _).bss.resolve_left (by decide)).trans
      ((sesFrameStart_touches _ _).bss.resolve_left (by decide))
  · exact (sesFrameStart_touches _ _).bss.resolve_left (by decide)

/-- SES's changes, and after them the link check of R18 where the session carried before and carries after. -/
theorem sessionTaken_eq (term : Bool) (b : State) : sessionTaken term b =
    if b.ses.session.carries && (sesFrameStart (cadenceWork term b).restart (cadenced term b)).ses.session.carries then
      issueLinkCheck (sesFrameStart (cadenceWork term b).restart (cadenced term b))
    else sesFrameStart (cadenceWork term b).restart (cadenced term b) := by
  have before : (recordsTaken term b).ses.session = b.ses.session := by rw [recordsTaken_ses]
  rw [← before]
  rfl

/-! ### SES's operations, written out -/

theorem completeQuiets_ses (s : State) : (completeQuiets s).ses = { s.ses with pendingQuiet := [] } :=
  (Touches.foldl (P := []) (fun s (p : PendingQuiet) =>
      complete_touches .ses p.handle .ok s.fmon.fsn (word s.ses.quiet.code) s) s.ses.pendingQuiet
    { s with ses := { s.ses with pendingQuiet := [] } }).ses.resolve_left (by decide)

theorem completeQuiets_rwk (s : State) : (completeQuiets s).rwk = s.rwk :=
  (completeQuiets_touches s).rwk.resolve_left (by decide)

theorem completeQuiets_sbc (s : State) : (completeQuiets s).sbc = s.sbc :=
  (completeQuiets_touches s).sbc.resolve_left (by decide)

theorem setSession_ses (new : SessionState) (cause : SessionCause) (s : State) : (setSession new cause s).ses = { s.ses with
    session := new, lanes := new.lanesOn, quiet := quietOnEntry new s.ses.quiet
    linkCheck := if endsChecks s.ses.session new then s.ses.linkCheck.map (fun c => { c with stale := true })
      else s.ses.linkCheck
    termLoss := if new.lanesOn then s.ses.termLoss else 0 } := by
  rw [setSession_eq]
  rfl

theorem endStartLink_ses (st : Status) (s : State) : (endStartLink st s).ses = { s.ses with startLink := none } :=
  (completeOpt_touches _ _ _ _ _ { s with ses := { s.ses with startLink := none } }).ses.resolve_left (by decide)

/-- The session that the quiet reason set asks for (R15). -/
def quietOr (q : QuietSet) : SessionState := if q = ⟨false, false, false⟩ then .carrying else .quiet

theorem isEmpty_iff (q : QuietSet) : q.isEmpty = true ↔ q = ⟨false, false, false⟩ := by
  obtain ⟨h, f, c⟩ := q
  cases h <;> cases f <;> cases c <;> simp [QuietSet.isEmpty]

theorem quietOr_carries (q : QuietSet) : (quietOr q).carries = true := by
  unfold quietOr
  split <;> rfl

/-- The session follows the quiet reason set (R15). -/
theorem judgeQuiet_ses {s : State} (carries : s.ses.session.carries = true) : (judgeQuiet s).ses = { s.ses with
    session := quietOr s.ses.quiet, lanes := (judgeQuiet s).ses.lanes } := by
  have empty := isEmpty_iff s.ses.quiet
  unfold judgeQuiet
  split
  · rename_i session reasons
    rw [setSession_ses, session]
    have filled : s.ses.quiet ≠ ⟨false, false, false⟩ := fun h => absurd (empty.2 h) (by rw [reasons]; decide)
    rw [quietOr, if_neg filled]
    rfl
  · rename_i session reasons
    rw [setSession_ses, session]
    rw [quietOr, if_pos (empty.1 reasons)]
    rfl
  · rename_i notCarrying notQuiet
    have here : s.ses.session = quietOr s.ses.quiet := by
      unfold quietOr
      rcases (SessionState.carries_iff _).1 carries with session | session
      · by_cases reasons : s.ses.quiet.isEmpty = true
        · rw [if_pos (empty.1 reasons), session]
        · exact absurd session (fun e => notCarrying e (Bool.eq_false_iff.2 reasons))
      · by_cases reasons : s.ses.quiet.isEmpty = true
        · exact absurd session (fun e => notQuiet e reasons)
        · rw [if_neg (fun h => reasons (empty.2 h)), session]
    exact show s.ses = { s.ses with session := quietOr s.ses.quiet } by rw [← here]

theorem sesFrameStart_carries {s : State} (restart : Bool) (carries : s.ses.session.carries = true) :
    sesFrameStart restart s = completeQuiets (carryingStep s) := by
  unfold sesFrameStart
  rcases (SessionState.carries_iff _).1 carries with session | session <;> simp only [session]

theorem sesFrameStart_training {s : State} (restart : Bool) (training : s.ses.session = .training) :
    sesFrameStart restart s = completeQuiets (trainingStep restart s) := by
  unfold sesFrameStart
  simp only [training]

/-- The second false sample in a row takes a session that carries to FAULTED (R12). -/
theorem carryingStep_lost {s : State} (carries : s.ses.session.carries = true) (lost : 2 ≤ s.ses.termLoss) :
    carryingStep s = setSession .faulted .termination s := by
  unfold carryingStep terminationLoss
  rw [if_pos lost]
  rcases (SessionState.carries_iff _).1 carries with session | session <;> simp only [session]

theorem carryingStep_on {s : State} (held : s.ses.termLoss < 2) : carryingStep s =
    judgeQuiet { s with ses := { s.ses with linkFrames := s.ses.linkFrames + 1 } } := by
  unfold carryingStep
  rw [if_neg (Nat.not_le.2 held)]

/-! ### The link check of a frame start (R18) -/

theorem nextCheckTarget_eq (s : State) : nextCheckTarget s =
    ((activeIndices s).filter (fun j => decide (s.ses.cursor < j)) ++ activeIndices s).head? := by
  unfold nextCheckTarget
  split
  · rename_i after
    rw [after]
    rfl
  · rename_i after
    rw [after]
    rfl

theorem issueLinkCheck_idle {s : State} (idle : ¬ (s.ses.linkFrames.toNat % 8 = 0 ∧ s.rwk.walking = false
    ∧ s.ses.linkCheck = none) ∨ nextCheckTarget s = none) : issueLinkCheck s = s := by
  unfold issueLinkCheck
  rcases idle with away | nobody
  · rw [if_neg]
    simp only [Bool.and_eq_true, decide_eq_true_eq, Bool.not_eq_true', Option.isNone_iff_eq_none]
    exact fun ⟨⟨⟨_, frames⟩, walk⟩, check⟩ => away ⟨frames, walk, check⟩
  · simp only [nobody]
    exact ite_self s

theorem issueLinkCheck_asks {s : State} {j : Nat} (carries : s.ses.session.carries = true)
    (due : s.ses.linkFrames.toNat % 8 = 0 ∧ s.rwk.walking = false ∧ s.ses.linkCheck = none)
    (presence : s.ses.presence = true) (target : nextCheckTarget s = some j) :
    issueLinkCheck s = joinSet .lc ⟨addressOf j, .linkCheck, []⟩ { s with ses := { s.ses with
      cursor := j, linkCheck := some ⟨j, (entryAt s j).serial, s.ses.linkFrames, false, false⟩ } } := by
  obtain ⟨frames, walk, check⟩ := due
  unfold issueLinkCheck
  rw [if_pos (by simp [carries, frames, walk, check])]
  simp only [target]
  unfold lcPlace
  exact if_pos presence

/-! ### The requests that the rest of the frame start leaves alone -/

theorem flightIs_congr {s t : State} (h : t.sbc.inFlight = s.sbc.inFlight) (r : Requester) : flightIs r t = flightIs r s := by
  simp only [flightIs, h]

/-- The collector's question touches neither LC's request nor what LC is to place next. -/
theorem planBase_lc (term : Bool) (b : State) :
    (planBase term b).sbc.lcReq = (sessionTaken term b).sbc.lcReq
    ∧ (flightIs .ac (sessionTaken term b) = false → (planBase term b).sbc.deferred = (sessionTaken term b).sbc.deferred) := by
  have asked : ∀ s : State, (nextReceipt s).sbc.lcReq = s.sbc.lcReq
      ∧ (flightIs .ac s = false → (nextReceipt s).sbc.deferred = s.sbc.deferred) := by
    intro s
    unfold nextReceipt
    split
    · exact ⟨rfl, fun _ => rfl⟩
    · split
      · exact ⟨rfl, fun _ => rfl⟩
      · split
        · unfold joinSet
          split
          · rename_i flies
            exact ⟨rfl, fun idle => absurd (idle.symm.trans flies) (by decide)⟩
          · exact ⟨rfl, fun _ => rfl⟩
        · have judged : ∀ (p : Packet) (s : State), Touches [.apq] s (judgeReceipt p .linkDown s) := by
            intro p s
            have finished : ∀ st, Touches [.apq] s (finishAwaiting p st s) := fun st =>
              (setApq_touches s _).trans ((finishPacket_touches p st _).mono (fun _ h => (nomatch h)))
            unfold judgeReceipt
            split
            · exact finished .targetGone
            · exact finished .linkDown
          have sbc : (receiptsDown s).sbc = s.sbc :=
            (Touches.foldl (fun s p => judged p s) (s.apq.awaiting.filter (·.due)) s).sbc.resolve_left (by decide)
          rw [sbc]
          exact ⟨rfl, fun _ => rfl⟩
  have before : (markDue (expirePackets (audioFill (audioSession (sessionTaken term b))))).sbc = (sessionTaken term b).sbc :=
    ((setApq_touches _ _).sbc.resolve_left (by decide)).trans (((expirePackets_touches _).sbc.resolve_left (by decide)).trans
      (((audioFill_touches _).sbc.resolve_left (by decide)).trans ((audioSession_touches _).sbc.resolve_left (by decide))))
  have after : (planBase term b).sbc = (nextReceipt (markDue (expirePackets (audioFill (audioSession (sessionTaken term b)))))).sbc :=
    (pxpFrameStart_touches _).sbc.resolve_left (by decide)
  obtain ⟨lc, deferred⟩ := asked (markDue (expirePackets (audioFill (audioSession (sessionTaken term b)))))
  rw [after]
  refine ⟨lc.trans (congrArg Sbc.lcReq before), fun idle => (deferred ?_).trans (congrArg Sbc.deferred before)⟩
  rw [flightIs_congr (congrArg Sbc.inFlight before)]
  exact idle

theorem flightIs_other {s : State} {r r' : Requester} (flies : flightIs r s = true) (ne : r ≠ r') : flightIs r' s = false := by
  unfold flightIs at *
  split at flies
  · exact decide_eq_false (fun e => ne ((of_decide_eq_true flies).symm.trans e))
  · exact absurd flies (by decide)

/-- What a check placed by SES is at the end of the frame start. -/
theorem check_placed {term : Bool} {b u : State} {q : Request} (placed : sessionTaken term b = joinSet .lc q u) :
    (flightIs .lc u = false → (planBase term b).sbc.lcReq = some q)
    ∧ (flightIs .lc u = true → (planBase term b).sbc.deferred = some q) := by
  obtain ⟨lc, deferred⟩ := planBase_lc term b
  refine ⟨fun free => ?_, fun flies => ?_⟩
  · rw [lc, placed, joinSet_free free]
    rfl
  · have e : sessionTaken term b = { u with sbc := { u.sbc with deferred := some q } } := placed.trans (joinSet_deferred flies)
    rw [deferred, e]
    rw [e]
    exact flightIs_other (r := .lc) (s := { u with sbc := { u.sbc with deferred := some q } }) flies (by decide)

/-! ### CARRYING and QUIET (R10, R12, R15, R18) -/

section
variable {term : Bool} {b : State} (carries : b.ses.session.carries = true)
include carries

theorem carries_lanesOn : b.ses.session.lanesOn = true := by
  rcases (SessionState.carries_iff _).1 carries with session | session <;> rw [session] <;> rfl

theorem carried_lost (low : term = false) (before : 1 ≤ b.ses.termLoss) :
    (sessionTaken term b).ses.session = .faulted ∧ (sessionTaken term b).ses.lanes = false
    ∧ (sessionTaken term b).ses.termLoss = 0 ∧ (sessionTaken term b).ses.linkFrames = b.ses.linkFrames := by
  have ses := cadenced_ses term b
  have loss : (cadenced term b).ses.termLoss = 2 := by
    rw [ses]
    simp only [lossAfter, carries_lanesOn carries, low]
    exact Nat.min_eq_left (Nat.add_le_add_right before 1)
  have session : (cadenced term b).ses.session = b.ses.session := by rw [ses]
  have step := sesFrameStart_carries (cadenceWork term b).restart (s := cadenced term b) (by rw [session]; exact carries)
  rw [carryingStep_lost (by rw [session]; exact carries) (Nat.le_of_eq loss.symm)] at step
  have after : (sesFrameStart (cadenceWork term b).restart (cadenced term b)).ses.session = .faulted := by
    rw [step, completeQuiets_ses, setSession_ses]
  rw [sessionTaken_eq, after, if_neg (by simp [SessionState.carries]), step, completeQuiets_ses, setSession_ses]
  exact ⟨rfl, rfl, rfl, by rw [ses]⟩

/-- SES after its changes where no termination loss ends the session. -/
theorem carried_changes (held : term = true ∨ b.ses.termLoss = 0) :
    ∃ u, sessionTaken term b = issueLinkCheck u ∧ Touches [.ses, .out, .pxp, .pins, .stt, .ain, .bss, .choices] b u
      ∧ u.ses.session = quietOr u.ses.quiet ∧ u.ses.linkFrames = b.ses.linkFrames + 1
      ∧ u.ses.termLoss = (if term then 0 else 1) ∧ u.ses.cursor = b.ses.cursor ∧ u.ses.linkCheck = b.ses.linkCheck
      ∧ u.ses.presence = b.ses.presence ∧ u.ses.quiet = (cadenced term b).ses.quiet := by
  have ses := cadenced_ses term b
  have loss : (cadenced term b).ses.termLoss = if term then 0 else 1 := by
    rw [ses]
    simp only [lossAfter, carries_lanesOn carries, if_true]
    rcases held with high | zero
    · simp [high]
    · simp [zero]
  have session : (cadenced term b).ses.session = b.ses.session := by rw [ses]
  have step := sesFrameStart_carries (cadenceWork term b).restart (s := cadenced term b) (by rw [session]; exact carries)
  rw [carryingStep_on (by rw [loss]; split <;> decide)] at step
  have judged := judgeQuiet_ses (s := { cadenced term b with ses := { (cadenced term b).ses with
    linkFrames := (cadenced term b).ses.linkFrames + 1 } }) (show (cadenced term b).ses.session.carries = true by
      rw [session]; exact carries)
  have touched : Touches [.ses, .out, .pxp, .pins, .stt, .ain, .bss, .choices] b
      (sesFrameStart (cadenceWork term b).restart (cadenced term b)) := by
    rw [step]
    exact (((cadenced_touches term b).mono (by decide)).trans (((setSes_touches _ _).mono (by decide)).trans
      ((judgeQuiet_touches _).mono (by decide)))).trans ((completeQuiets_touches _).mono (by decide))
  have after : (sesFrameStart (cadenceWork term b).restart (cadenced term b)).ses = { (cadenced term b).ses with
      linkFrames := (cadenced term b).ses.linkFrames + 1, session := quietOr (cadenced term b).ses.quiet
      lanes := (judgeQuiet { cadenced term b with ses := { (cadenced term b).ses with
        linkFrames := (cadenced term b).ses.linkFrames + 1 } }).ses.lanes
      pendingQuiet := [] } := by
    rw [step, completeQuiets_ses, judged]
  refine ⟨_, ?_, touched, ?_, ?_, ?_, ?_, ?_, ?_, ?_⟩
  · rw [sessionTaken_eq, if_pos]
    rw [after, carries]
    exact quietOr_carries _
  · rw [after]
  · rw [after]
    exact (by rw [ses] : (cadenced term b).ses.linkFrames + 1 = b.ses.linkFrames + 1)
  · rw [after]
    exact loss
  · rw [after]
    exact (by rw [ses] : (cadenced term b).ses.cursor = b.ses.cursor)
  · rw [after]
    exact (by rw [ses] : (cadenced term b).ses.linkCheck = b.ses.linkCheck)
  · rw [after]
    exact (by rw [ses] : (cadenced term b).ses.presence = b.ses.presence)
  · rw [after]

end

/-- What an issued link check keeps of SES. -/
theorem issueLinkCheck_ses (s : State) : (issueLinkCheck s).ses = { s.ses with
    cursor := (issueLinkCheck s).ses.cursor, linkCheck := (issueLinkCheck s).ses.linkCheck } := by
  have joined : ∀ (q : Request) (s : State), (joinSet .lc q s).ses = s.ses := fun q s =>
    (joinSet_touches .lc q s).ses.resolve_left (by decide)
  unfold issueLinkCheck
  split
  · split
    · unfold lcPlace
      split
      · rw [joined]
      · rfl
    · rfl
  · rfl

theorem activeIndices_congr {s t : State} (h : t.rwk.roster = s.rwk.roster) : activeIndices t = activeIndices s := by
  simp only [activeIndices, entryAt, h]

/-- Settles O30. -/
theorem carriedFrames : Obligations.CarriedFrames := by
  intro i s t term row run fresh session
  obtain ⟨b, opens, e⟩ := frameRow_opens row run fresh
  obtain ⟨hif, out, choices, finish⟩ := finishAnyOrder_spec (frameBody term b)
  have ses : t.ses = (sessionTaken term b).ses := by rw [e, finish]; exact frameBody_ses term b
  have sbc : t.sbc = (planBase term b).sbc := by rw [e, finish]; exact frameBody_sbc term b
  have bses := opens.ses
  have carries : b.ses.session.carries = true := by
    rw [bses]
    exact (SessionState.carries_iff _).2 session
  refine ⟨fun low before => ?_, fun held => ?_⟩
  · rw [ses]
    obtain ⟨faulted, lanes, loss, frames⟩ := carried_lost carries low (by rw [bses]; exact before)
    exact ⟨faulted, lanes, loss, frames.trans (by rw [bses])⟩
  · obtain ⟨u, taken, touched, state, frames, loss, cursor, check, presence, -⟩ :=
      carried_changes (term := term) carries (held.imp_right fun zero => by rw [bses]; exact zero)
    have kept := issueLinkCheck_ses u
    have rwk : u.rwk = s.rwk := (touched.rwk.resolve_left (by decide)).trans (opens.touches.rwk.resolve_left (by decide))
    have usbc : u.sbc = s.sbc := (touched.sbc.resolve_left (by decide)).trans (opens.touches.sbc.resolve_left (by decide))
    have framesEq : t.ses.linkFrames = u.ses.linkFrames := by rw [ses, taken, kept]
    rw [bses] at frames cursor check presence
    have target : nextCheckTarget u
        = ((activeIndices s).filter (fun j => decide (s.ses.cursor < j)) ++ activeIndices s).head? := by
      rw [nextCheckTarget_eq, activeIndices_congr (congrArg Rwk.roster rwk), cursor]
    refine ⟨framesEq.trans frames, ?_, ?_, fun j due present asked => ?_, fun idle => ?_⟩
    · rw [ses, taken, kept]
      exact state
    · rw [ses, taken, kept]
      exact loss
    · have asks := issueLinkCheck_asks (s := u) (j := j) (by rw [state]; exact quietOr_carries _)
        (by rw [← framesEq, rwk, check]; exact due) (presence.trans present) (target.trans asked)
      have joined : (sessionTaken term b).ses = { u.ses with
          cursor := j, linkCheck := some ⟨j, (entryAt u j).serial, u.ses.linkFrames, false, false⟩ } := by
        rw [taken, asks]
        exact (joinSet_touches ..).ses.resolve_left (by decide)
      obtain ⟨free, flies⟩ := check_placed (taken.trans asks)
      have flight : ∀ x : Ses, flightIs .lc { u with ses := x } = flightIs .lc s := fun x =>
        flightIs_congr (congrArg Sbc.inFlight usbc) .lc
      rw [flight] at free flies
      rw [sbc]
      refine ⟨?_, ?_, free, flies⟩
      · rw [ses, joined]
      · rw [framesEq, ses, joined]
        simp only [entryAt, rwk]
    · have still := issueLinkCheck_idle (s := u) (idle.imp (fun away => by rw [← framesEq, rwk, check]; exact away)
        (fun nobody => target.trans nobody))
      rw [ses, taken, still]
      exact ⟨cursor, check⟩

end Sys2Proof.Machine
end

section
/-!
PROOFS. The session at a frame start in TRAINING: the termination loss, the restart at a change of the factor, the lock, and
the count of training frames with its link checks.
-/

namespace Sys2Proof.Machine

set_option Elab.async false

/-- Whether the cadence work from s to a state with the announced factor `announced` leaves training nothing to keep. -/
def restartsWith (s : State) (announced : Option Nat) : Bool :=
  match s.bss.announced with
  | some f => !(isCandidate s.fmon.geometry s.bss.factor && isCandidate s.fmon.geometry f)
  | none => !isCandidate s.fmon.geometry s.bss.factor || announced.isSome

/-- What the pending cadence record leaves alone. -/
theorem applyCadence_leaves (s : State) : (applyCadence s).bss.announced = s.bss.announced
    ∧ (applyCadence s).bss.factor = s.bss.factor ∧ (applyCadence s).bss.shortfall = s.bss.shortfall
    ∧ (applyCadence s).fmon = s.fmon ∧ (applyCadence s).ses = s.ses := by
  unfold applyCadence
  split <;> exact ⟨rfl, rfl, rfl, rfl, rfl⟩

/-! ### The cadence work, by the case that it has -/

section
variable {s : State} {f : Nat}

theorem cadenceStep_taken (announced : s.bss.announced = some f)
    (fit : (isCandidate s.fmon.geometry s.bss.factor && isCandidate s.fmon.geometry f) = true) : cadenceStep s =
    (moveFactor (demand s) f s, ⟨false, demand s, neededFactor s.bss s.fmon.geometry (demand s), false⟩) := by
  unfold cadenceStep
  simp only [announced, fit, if_true]

theorem cadenceStep_replaced (announced : s.bss.announced = some f)
    (unfit : (isCandidate s.fmon.geometry s.bss.factor && isCandidate s.fmon.geometry f) = false) : cadenceStep s =
    (moveFactor (demand s) (neededFactor s.bss s.fmon.geometry (demand s)) s, ⟨decide (s.ses.session = .training), demand s,
      neededFactor s.bss s.fmon.geometry (demand s), false⟩) := by
  unfold cadenceStep
  simp only [announced, unfit]
  rfl

theorem cadenceStep_decides (silent : s.bss.announced = none) (fit : isCandidate s.fmon.geometry s.bss.factor = true) :
    cadenceStep s = cadenceDecision (demand s) (neededFactor s.bss s.fmon.geometry (demand s)) s := by
  unfold cadenceStep
  simp only [silent, fit, if_true]

theorem cadenceStep_falls (silent : s.bss.announced = none) (unfit : isCandidate s.fmon.geometry s.bss.factor = false) :
    cadenceStep s = (moveFactor (demand s) (neededFactor s.bss s.fmon.geometry (demand s)) s,
      ⟨decide (s.ses.session = .training), demand s, neededFactor s.bss s.fmon.geometry (demand s), false⟩) := by
  unfold cadenceStep
  simp only [silent, unfit]
  rfl

end

/-- What a decision makes of BSS. -/
theorem cadenceDecision_bss (d needed : Nat) (s : State) : (cadenceDecision d needed s).1.bss = { s.bss with
    lowerFits := (decideChange s.bss needed).1
    announced := if (decideChange s.bss needed).2 && s.ses.session.linkUp then some needed else none
    factor := if (decideChange s.bss needed).2 && !s.ses.session.linkUp then needed else s.bss.factor
    shortfall := s.bss.shortfall || !decide (d ≤ capacity s.fmon.geometry needed) } := by
  have either : ∀ e e' (s : State), (postEither .bss e e' s).bss = s.bss := fun e e' s =>
    (postEither_touches .bss e e' s).bss.resolve_left (by decide)
  unfold cadenceDecision
  extract_lets r fits short up moves src s1 change s2
  have same : s2.bss = s1.bss := by
    simp only [s2]
    clear_value moves short
    cases moves
    · cases short <;> rfl
    · cases short
      · rfl
      · exact either _ _ _
  exact same

theorem cadenceStep_restart {s : State} (training : s.ses.session = .training) :
    (cadenceStep s).2.restart = restartsWith s (cadenceStep s).1.bss.announced := by
  unfold restartsWith
  rcases announced : s.bss.announced with _ | f
  · cases fit : isCandidate s.fmon.geometry s.bss.factor
    · rw [cadenceStep_falls announced fit, training]
      rfl
    · rw [cadenceStep_decides announced fit, cadenceDecision_bss, training]
      have work : ∀ d needed, (cadenceDecision d needed s).2.restart
          = ((decideChange s.bss needed).2 && decide (s.ses.session = .training)) := fun _ _ => rfl
      rw [work, training]
      cases (decideChange s.bss (neededFactor s.bss s.fmon.geometry (demand s))).2 <;> rfl
  · cases fit : isCandidate s.fmon.geometry s.bss.factor && isCandidate s.fmon.geometry f
    · rw [cadenceStep_replaced announced fit, training]
      exact (congrArg (!·) fit).symm
    · rw [cadenceStep_taken announced fit]
      exact (congrArg (!·) fit).symm

theorem bssFrameStart_bss (s : State) :
    (bssFrameStart s).1.bss = (cadenceStep (applyCadence (setCadenceReason false s))).1.bss := by
  unfold bssFrameStart
  dsimp only
  split <;> rfl

theorem bssFrameStart_work (s : State) :
    (bssFrameStart s).2 = (cadenceStep (applyCadence (setCadenceReason false s))).2 := by
  unfold bssFrameStart
  dsimp only
  split <;> rfl

theorem bssFrameStart_restart {s : State} (training : s.ses.session = .training) :
    (bssFrameStart s).2.restart = restartsWith s (bssFrameStart s).1.bss.announced := by
  obtain ⟨announced, factor, -, fmon, ses⟩ := applyCadence_leaves (setCadenceReason false s)
  rw [bssFrameStart_work, bssFrameStart_bss, cadenceStep_restart (by rw [ses]; exact training)]
  unfold restartsWith
  rw [announced, factor, fmon]
  rfl

section
variable {term : Bool} {b : State} (training : b.ses.session = .training)
include training

/-- The restart that SES is asked for is the one of R9. -/
theorem cadenceWork_restart : (cadenceWork term b).restart = restartsWith b (sessionTaken term b).bss.announced := by
  have touched := recordsTaken_touches term b
  have ses := recordsTaken_ses term b
  have e := bssFrameStart_restart (s := recordsTaken term b) (by rw [ses]; exact training)
  rw [cadenced_bss]
  refine (e : (cadenceWork term b).restart = _).trans ?_
  unfold restartsWith
  rw [touched.bss.resolve_left (by decide), touched.fmon.resolve_left (by decide)]
  rfl

theorem sessionTaken_training :
    sessionTaken term b = completeQuiets (trainingStep (cadenceWork term b).restart (cadenced term b)) := by
  have ses := cadenced_ses term b
  have here : (cadenced term b).ses.session = .training := by rw [ses]; exact training
  rw [sessionTaken_eq, sesFrameStart_training _ here, training]
  rfl

theorem training_loss : (cadenced term b).ses.termLoss = if term then 0 else min 2 (b.ses.termLoss + 1) := by
  have ses := cadenced_ses term b
  rw [ses]
  simp only [lossAfter, training, SessionState.lanesOn, if_true]

theorem training_held (held : ¬ (term = false ∧ 1 ≤ b.ses.termLoss)) : ¬ 2 ≤ (cadenced term b).ses.termLoss := by
  rw [training_loss training]
  split
  · decide
  · rename_i low
    have zero : b.ses.termLoss = 0 := by
      by_contra h
      exact held ⟨Bool.eq_false_iff.2 low, Nat.pos_of_ne_zero h⟩
    rw [zero]
    decide

theorem training_lost (low : term = false) (before : 1 ≤ b.ses.termLoss) :
    (sessionTaken term b).ses.session = .ready ∧ (sessionTaken term b).ses.lanes = false
    ∧ (sessionTaken term b).ses.startLink = none := by
  have here : (cadenced term b).ses.session = .training := by rw [cadenced_ses]; exact training
  have lost : 2 ≤ (cadenced term b).ses.termLoss := by
    rw [training_loss training, low]
    exact Nat.le_of_eq (Nat.min_eq_left (Nat.add_le_add_right before 1)).symm
  have step : trainingStep (cadenceWork term b).restart (cadenced term b)
      = setSession .ready .termination (endStartLink .noTermination (cadenced term b)) := by
    unfold trainingStep terminationLoss
    rw [if_pos lost]
    simp only [here]
  rw [sessionTaken_training training, step, completeQuiets_ses, setSession_ses, endStartLink_ses]
  exact ⟨rfl, rfl, rfl⟩

theorem training_restarts (held : ¬ (term = false ∧ 1 ≤ b.ses.termLoss)) (again : (cadenceWork term b).restart = true) :
    (sessionTaken term b).ses.session = .training ∧ (sessionTaken term b).ses.trainCount = 0
    ∧ (sessionTaken term b).ses.lockSeen = false ∧ (sessionTaken term b).ses.startLink = b.ses.startLink
    ∧ (sessionTaken term b).sbc = b.sbc
    ∧ (sessionTaken term b).ses.linkCheck = b.ses.linkCheck.map (fun k => { k with stale := true }) := by
  have ses := cadenced_ses term b
  have step : trainingStep (cadenceWork term b).restart (cadenced term b) = restartTraining (cadenced term b) := by
    unfold trainingStep
    rw [if_neg (training_held training held), if_pos again]
  have check : (cadenced term b).ses.linkCheck = b.ses.linkCheck := by rw [ses]
  rw [sessionTaken_training training, step, completeQuiets_ses, completeQuiets_sbc, ← check]
  exact ⟨(by rw [ses]; exact training : (cadenced term b).ses.session = .training), rfl, rfl,
    (by rw [ses] : (cadenced term b).ses.startLink = b.ses.startLink),
    (cadenced_touches term b).sbc.resolve_left (by decide),
    rfl⟩

theorem training_locks (held : ¬ (term = false ∧ 1 ≤ b.ses.termLoss)) (again : (cadenceWork term b).restart = false)
    (seen : b.ses.lockSeen = true) :
    (sessionTaken term b).ses.session = quietOr (sessionTaken term b).ses.quiet
    ∧ (sessionTaken term b).ses.linkFrames = 0 ∧ (sessionTaken term b).ses.cursor = 63
    ∧ (sessionTaken term b).ses.startLink = none ∧ (sessionTaken term b).ses.quiet = (cadenced term b).ses.quiet := by
  have ses := cadenced_ses term b
  have step : trainingStep (cadenceWork term b).restart (cadenced term b) = linkLocked (cadenced term b) := by
    unfold trainingStep
    rw [if_neg (training_held training held), again,
      if_pos (by rw [ses]; exact seen : (cadenced term b).ses.lockSeen = true)]
    rfl
  have marked : ∀ s : State, (if (entryAt s 0).isActive then updEntry 0 (fun e => { e with miss := 0 }) (endStartLink .ok s)
      else endStartLink .ok s).ses = { s.ses with startLink := none } := by
    intro s
    split <;> exact endStartLink_ses .ok s
  have locked : ∀ s : State, ∃ lanes check loss, (linkLocked s).ses = { s.ses with
      session := quietOr s.ses.quiet, lanes := lanes, quiet := quietOnEntry (quietOr s.ses.quiet) s.ses.quiet
      linkCheck := check, termLoss := loss, linkFrames := 0, cursor := 63, startLink := none } := by
    intro s
    have state : (if s.ses.quiet.isEmpty then SessionState.carrying else .quiet) = quietOr s.ses.quiet :=
      if_congr (isEmpty_iff _) rfl rfl
    unfold linkLocked
    dsimp only
    rw [setSession_ses, marked, state]
    exact ⟨_, _, _, rfl⟩
  have entry : ∀ q, quietOnEntry (quietOr q) q = q := by
    intro q
    unfold quietOr
    split <;> rfl
  obtain ⟨lanes, check, loss, shape⟩ := locked (cadenced term b)
  rw [entry] at shape
  rw [sessionTaken_training training, step, completeQuiets_ses, shape]
  exact ⟨rfl, rfl, rfl, rfl, rfl⟩

section
variable (held : ¬ (term = false ∧ 1 ≤ b.ses.termLoss)) (again : (cadenceWork term b).restart = false)
  (unseen : b.ses.lockSeen = false)
include held again unseen

theorem trainingStep_counts :
    trainingStep (cadenceWork term b).restart (cadenced term b) = countTraining (cadenced term b) := by
  have lock : (cadenced term b).ses.lockSeen = false := by rw [cadenced_ses]; exact unseen
  unfold trainingStep
  rw [if_neg (training_held training held), again, lock]
  rfl

theorem training_ends (long : 59 ≤ b.ses.trainCount) :
    (sessionTaken term b).ses.session = .ready ∧ (sessionTaken term b).ses.lanes = false
    ∧ (sessionTaken term b).ses.startLink = none := by
  have count : (cadenced term b).ses.trainCount = b.ses.trainCount := by rw [cadenced_ses]
  have step : countTraining (cadenced term b) = trainingFail { cadenced term b with ses := { (cadenced term b).ses with
      trainCount := (cadenced term b).ses.trainCount + 1 } } := by
    unfold countTraining
    exact if_pos (by rw [count]; exact Nat.succ_le_succ long)
  rw [sessionTaken_training training, trainingStep_counts training held again unseen, step, completeQuiets_ses,
    trainingFail, setSession_ses, endStartLink_ses]
  exact ⟨rfl, rfl, rfl⟩

/-- Every fourth training frame asks the root for its lock (R9). -/
theorem training_counts (short : b.ses.trainCount < 59) :
    (sessionTaken term b).ses.session = .training ∧ (sessionTaken term b).ses.trainCount = b.ses.trainCount + 1
    ∧ (sessionTaken term b).ses.startLink = b.ses.startLink
    ∧ ((b.ses.trainCount + 1) % 4 = 0 → b.ses.linkCheck = none → b.ses.presence = true →
      (flightIs .lc b = false → (planBase term b).sbc.lcReq = some ⟨1, .linkCheck, []⟩)
      ∧ (flightIs .lc b = true → (planBase term b).sbc.deferred = some ⟨1, .linkCheck, []⟩)) := by
  have ses := cadenced_ses term b
  have count : (cadenced term b).ses.trainCount = b.ses.trainCount := by rw [ses]
  have session : (cadenced term b).ses.session = .training := by rw [ses]; exact training
  have command : (cadenced term b).ses.startLink = b.ses.startLink := by rw [ses]
  have check : (cadenced term b).ses.linkCheck = b.ses.linkCheck := by rw [ses]
  have presence : (cadenced term b).ses.presence = b.ses.presence := by rw [ses]
  have waiting : (cadenced term b).ses.pendingQuiet = b.ses.pendingQuiet := by rw [ses]
  have flight : (cadenced term b).sbc.inFlight = b.sbc.inFlight :=
    congrArg Sbc.inFlight ((cadenced_touches term b).sbc.resolve_left (by decide))
  have flew : ∀ x : Ses, flightIs .lc { cadenced term b with ses := x } = flightIs .lc b := fun x =>
    flightIs_congr (s := b) flight .lc
  have taken := sessionTaken_training (term := term) training
  rw [trainingStep_counts training held again unseen] at taken
  have counted : countTraining (cadenced term b) =
      if (b.ses.trainCount + 1) % 4 = 0 ∧ b.ses.linkCheck = none then
        lcPlace 0 true { cadenced term b with ses := { (cadenced term b).ses with trainCount := b.ses.trainCount + 1 } }
      else { cadenced term b with ses := { (cadenced term b).ses with trainCount := b.ses.trainCount + 1 } } := by
    unfold countTraining
    rw [count, check]
    exact if_neg (Nat.not_le.2 (Nat.succ_lt_succ short))
  have placed : ∀ s : State, (lcPlace 0 true s).ses = { s.ses with linkCheck := (lcPlace 0 true s).ses.linkCheck } := by
    intro s
    unfold lcPlace
    split
    · rw [(joinSet_touches ..).ses.resolve_left (by decide)]
    · rfl
  have after : (countTraining (cadenced term b)).ses = { (cadenced term b).ses with
      trainCount := b.ses.trainCount + 1, linkCheck := (countTraining (cadenced term b)).ses.linkCheck } := by
    rw [counted]
    split
    · rw [placed]
    · rfl
  refine ⟨?_, ?_, ?_, fun fourth none_ present => ?_⟩
  · rw [taken, completeQuiets_ses, after]
    exact session
  · rw [taken, completeQuiets_ses, after]
  · rw [taken, completeQuiets_ses, after]
    exact command
  · rw [if_pos ⟨fourth, none_⟩] at counted
    unfold lcPlace at counted
    rw [if_pos (presence.trans present)] at counted
    have lc := planBase_lc term b
    rw [taken, counted] at lc
    obtain ⟨asked, deferred⟩ := lc
    rw [completeQuiets_sbc] at asked deferred
    refine ⟨fun free => ?_, fun flies => ?_⟩
    · rw [asked, joinSet_free ((flew _).trans free)]
      rfl
    · have joined := joinSet_deferred (r := .lc) (q := ⟨addressOf 0, .linkCheck, []⟩) (s := { cadenced term b with
        ses := { (cadenced term b).ses with
          trainCount := b.ses.trainCount + 1
          linkCheck := some ⟨0, (entryAt (cadenced term b) 0).serial, (cadenced term b).ses.linkFrames, true, false⟩ } })
        ((flew _).trans flies)
      refine (deferred ?_).trans ?_
      · rw [flightIs_congr (s := b)]
        · exact flightIs_other flies (by decide)
        · rw [completeQuiets_sbc]
          exact (congrArg (fun x => x.sbc.inFlight) joined).trans flight
      · exact congrArg (fun x => x.sbc.deferred) joined

end

end

theorem frameBody_announced (term : Bool) (b : State) :
    (frameBody term b).bss.announced = (sessionTaken term b).bss.announced := by
  rw [frameBody, buildPlan_bss, (planBase_touches term b).bss.resolve_left (by decide)]

/-- Settles O31. -/
theorem trainingFrames_agree : Obligations.TrainingFrames := by
  intro i s t term row run fresh training
  obtain ⟨b, opens, e⟩ := frameRow_opens row run fresh
  obtain ⟨hif, out, choices, finish⟩ := finishAnyOrder_spec (frameBody term b)
  have ses : t.ses = (sessionTaken term b).ses := by rw [e, finish]; exact frameBody_ses term b
  have sbc : t.sbc = (planBase term b).sbc := by rw [e, finish]; exact frameBody_sbc term b
  have fmon : t.fmon = b.fmon := by rw [e, finish]; exact frameBody_fmon term b
  have announced : t.bss.announced = (sessionTaken term b).bss.announced := by
    rw [e, finish, ← frameBody_announced]
  have bses := opens.ses
  have bsbc : b.sbc = s.sbc := opens.touches.sbc.resolve_left (by decide)
  have bbss : b.bss = s.bss := opens.touches.bss.resolve_left (by decide)
  have here : b.ses.session = .training := by rw [bses]; exact training
  have restart : (cadenceWork term b).restart = s.restarts t := by
    rw [cadenceWork_restart here, ← announced]
    unfold restartsWith
    rw [bbss, ← fmon]
    rfl
  have loss : b.ses.termLoss = s.ses.termLoss := by rw [bses]
  have command : b.ses.startLink = s.ses.startLink := by rw [bses]
  have check : b.ses.linkCheck = s.ses.linkCheck := by rw [bses]
  have count : b.ses.trainCount = s.ses.trainCount := by rw [bses]
  have lock : b.ses.lockSeen = s.ses.lockSeen := by rw [bses]
  have presence : b.ses.presence = s.ses.presence := by rw [bses]
  rw [ses, sbc, ← restart, ← loss, ← command, ← check, ← count, ← lock, ← presence, ← bsbc]
  rw [← flightIs_congr (s := s) (t := b) (congrArg Sbc.inFlight bsbc)]
  refine ⟨fun ⟨low, before⟩ => training_lost here low before, fun held again => ?_, fun held again seen => ?_, fun held again unseen =>
    ⟨training_ends here held (Bool.eq_false_iff.2 again) unseen, training_counts here held (Bool.eq_false_iff.2 again) unseen⟩⟩
  · obtain ⟨state, zero, flag, kept, side, stale⟩ := training_restarts here held again
    exact ⟨state, zero, flag, kept, (planBase_lc term b).1.trans (congrArg Sbc.lcReq side), stale⟩
  · obtain ⟨state, frames, cursor, ended, -⟩ := training_locks here held (Bool.eq_false_iff.2 again) seen
    exact ⟨state, frames, cursor, ended⟩

end Sys2Proof.Machine
end

section
/-!
PROOFS. What the stages of a frame start hand over: events, of which there are few, and completions of commands that are held
and then are not held any more.
-/

namespace Sys2Proof.Machine

set_option Elab.async false

/-! ### Commands held and completed -/

/-- From s to t at most n events are handed over, and every completion handed over is that of a command that s holds and t
holds no more: each as often as it was held. -/
def Spends (held : State → List Handle) (n : Nat) (s t : State) : Prop :=
  ∃ new, t.handed = s.handed ++ new ∧ new.countP Handed.isEvent ≤ n
    ∧ ∀ k, (new.filterMap Handed.command?).count k + (held t).count k ≤ (held s).count k

section
variable {held : State → List Handle} {m n : Nat} {s t u : State}

theorem Spends.of_same (handed : t.handed = s.handed) (fewer : ∀ k, (held t).count k ≤ (held s).count k) :
    Spends held n s t :=
  ⟨[], by rw [handed, List.append_nil], Nat.zero_le n, fun k => by simpa using fewer k⟩

theorem Spends.refl (held : State → List Handle) (n : Nat) (s : State) : Spends held n s s :=
  .of_same rfl fun _ => Nat.le_refl _

theorem Spends.trans (h : Spends held m s t) (k : Spends held n t u) : Spends held (m + n) s u := by
  obtain ⟨a, ha, ca, sa⟩ := h
  obtain ⟨b, hb, cb, sb⟩ := k
  refine ⟨a ++ b, by rw [hb, ha, List.append_assoc], ?_, fun k => ?_⟩
  · rw [List.countP_append]
    exact Nat.add_le_add ca cb
  · have ka := sa k
    have kb := sb k
    rw [List.filterMap_append, List.count_append]
    omega

theorem Spends.mono (h : Spends held m s t) (le : m ≤ n) : Spends held n s t := by
  obtain ⟨a, ha, ca, sa⟩ := h
  exact ⟨a, ha, ca.trans le, sa⟩

theorem Spends.mem (h : Spends held n s t) {x : Handed} (mem : x ∈ s.handed) : x ∈ t.handed := by
  obtain ⟨new, e, -⟩ := h
  rw [e]
  exact List.mem_append_left _ mem

/-- Where every command is held once, none is completed twice. -/
theorem Spends.nodup (h : Spends held n s t) (settled : s.handed = []) (once : (held s).Nodup) :
    (t.handed.filterMap Handed.command?).Nodup := by
  obtain ⟨new, e, -, spent⟩ := h
  rw [e, settled, List.nil_append, List.nodup_iff_count_le_one]
  intro k
  have bound := List.nodup_iff_count_le_one.1 once k
  have spentK := spent k
  omega

theorem Spends.few (h : Spends held n s t) (settled : s.handed = []) : t.handed.countP Handed.isEvent ≤ n := by
  obtain ⟨new, e, few, -⟩ := h
  rw [e, settled, List.nil_append]
  exact few

/-- Events alone are handed over, and nothing is held any more. -/
theorem Hands.spends (h : Hands HandedItem.anEvent n s t) (fewer : ∀ k, (held t).count k ≤ (held s).count k) :
    Spends held n s t := by
  obtain ⟨new, e, events, few⟩ := h
  have none_ : new.filterMap Handed.command? = [] := by
    rw [List.filterMap_eq_nil_iff]
    intro x hx
    obtain ⟨event, item⟩ := events x hx
    simp [Handed.command?, item]
  exact ⟨new, e, few, fun k => by rw [none_]; simpa using fewer k⟩

end

/-- A command that is held is completed, and is held no more. -/
theorem complete_spends {held : State → List Handle} (o : Owner) (h : Handle) (st : Status) (a b : Word) {s t : State}
    (fewer : ∀ k, [h].count k + (held (complete o h st a b t)).count k ≤ (held s).count k) (same : t.handed = s.handed) :
    Spends held 0 s (complete o h st a b t) :=
  ⟨[⟨o, .completion h st a b⟩], by rw [complete_handed, same], by simp [Handed.isEvent, Handed.isCompletion], fewer⟩

/-! ### The commands of a frame start -/

/-- The commands that SES holds for a frame start. -/
def Ses.commands (x : Ses) : List Handle := x.startLink.toList ++ x.pendingQuiet.map (·.handle)

/-- The commands that PXP holds for a frame start. -/
def Pxp.commands (x : Pxp) : List Handle :=
  (x.pendingTransform.map (·.handle)).toList ++ (x.pendingFill.map (·.handle)).toList

/-- The commands of the pending records of the standing table. -/
def pendingCommands (l : List StandingEntry) : List Handle := (l.filterMap (·.pending)).map (·.handle)

/-- The SENDs of the class queues and of the awaiting-ack list. -/
def Apq.commands (q : Apq) : List Handle := (classPackets q ++ q.awaiting).map (·.handle)

theorem frameHandles_count (s : State) (k : Handle) : s.frameHandles.count k =
    s.ses.commands.count k + (s.bss.pending.map (·.handle)).toList.count k + (s.ain.pending.map (·.handle)).toList.count k
      + s.pxp.commands.count k + (pendingCommands s.stt.entries).count k + s.apq.commands.count k := by
  simp only [State.frameHandles, Ses.commands, Pxp.commands, pendingCommands, Apq.commands, List.count_append]
  omega

/-- No stage holds more commands than before, block by block. -/
theorem frameHandles_le {s t : State} (ses : ∀ k, t.ses.commands.count k ≤ s.ses.commands.count k)
    (bss : t.bss.pending = s.bss.pending) (ain : t.ain.pending = s.ain.pending) (pxp : t.pxp.commands = s.pxp.commands)
    (stt : pendingCommands t.stt.entries = pendingCommands s.stt.entries) (apq : t.apq.commands = s.apq.commands)
    (k : Handle) : t.frameHandles.count k ≤ s.frameHandles.count k := by
  rw [frameHandles_count, frameHandles_count, bss, ain, pxp, stt, apq]
  have fewer := ses k
  omega

/-- A stage that leaves the commands of every block alone. -/
theorem frameHandles_same {s t : State} (ses : t.ses.commands = s.ses.commands) (bss : t.bss.pending = s.bss.pending)
    (ain : t.ain.pending = s.ain.pending) (pxp : t.pxp.commands = s.pxp.commands)
    (stt : pendingCommands t.stt.entries = pendingCommands s.stt.entries) (apq : t.apq.commands = s.apq.commands)
    (k : Handle) : t.frameHandles.count k ≤ s.frameHandles.count k :=
  frameHandles_le (fun k => by rw [ses]) bss ain pxp stt apq k

theorem FmonOpens.spends {s t : State} (opens : FmonOpens s t) : Spends State.frameHandles 2 s t := by
  have touched := opens.touches
  refine opens.hands.spends (frameHandles_same ?_ (congrArg Bss.pending (touched.bss.resolve_left (by decide)))
    (congrArg Ain.pending (touched.ain.resolve_left (by decide))) ?_
    (congrArg (fun t => pendingCommands t.entries) (touched.stt.resolve_left (by decide)))
    (congrArg Apq.commands (touched.apq.resolve_left (by decide))))
  · rw [opens.ses]
    rfl
  · rw [opens.pxp]
    rfl

/-! ### The pending records of the standing table (R122) -/

/-- An entry after the frame start has looked at its pending record. -/
def StandingEntry.taken (e : StandingEntry) : StandingEntry :=
  match e.pending with
  | some p => e.replaced p
  | none => e

/-- What entry i hands over at a frame start. -/
def standingItem (fsn : Fsn) (i : Nat) (e : StandingEntry) : List Handed :=
  match e.pending with
  | some p => [⟨.stt, .completion p.handle .ok fsn (standingWord i (e.replaced p))⟩]
  | none => []

theorem replaceEntry_eq {s : State} {i : Nat} {e : StandingEntry} (here : s.stt.entries[i]? = some e) : replaceEntry s i =
    { s with
      stt := { s.stt with entries := s.stt.entries.set i e.taken }
      handed := s.handed ++ standingItem s.fmon.fsn i e } := by
  have entry : s.stt.entries.getD i StandingEntry.empty = e := by rw [List.getD_eq_getElem?_getD, here]; rfl
  unfold replaceEntry
  rw [entry]
  dsimp only
  have same : s.stt.entries.set i e = s.stt.entries := by
    obtain ⟨within, rfl⟩ := List.getElem?_eq_some_iff.1 here
    exact List.set_getElem_self within
  rcases pending : e.pending with _ | p
  · simp only [StandingEntry.taken, standingItem, pending, List.append_nil, same]
  · simp only [StandingEntry.taken, standingItem, pending]
    rfl

theorem replaceEntries_eq (s : State) : replaceEntries s = { s with
    stt := { s.stt with entries := s.stt.entries.map StandingEntry.taken }
    handed := s.handed ++ (s.stt.entries.zipIdx.flatMap fun x => standingItem s.fmon.fsn x.2 x.1) } := by
  have fold : ∀ (l before : List StandingEntry) (s : State), s.stt.entries = before ++ l →
      (List.range' before.length l.length).foldl replaceEntry s = { s with
        stt := { s.stt with entries := before ++ l.map StandingEntry.taken }
        handed := s.handed ++ ((l.zipIdx before.length).flatMap fun x => standingItem s.fmon.fsn x.2 x.1) } := by
    intro l
    induction l with
    | nil =>
      intro before s h
      rw [List.append_nil] at h
      simp [← h]
    | cons e l ih =>
      intro before s h
      have here : s.stt.entries[before.length]? = some e := by rw [h]; simp
      have next := ih (before ++ [e.taken]) (replaceEntry s before.length) (by
        rw [replaceEntry_eq here]
        simp only [h]
        simp)
      rw [List.length_cons, List.range'_succ, List.foldl_cons]
      rw [List.length_append, List.length_singleton] at next
      rw [next, replaceEntry_eq here]
      simp
  have whole := fold s.stt.entries [] s rfl
  rw [List.length_nil, ← List.range_eq_range'] at whole
  exact whole

theorem standingItems_commands (fsn : Fsn) (l : List StandingEntry) (n : Nat) :
    ((l.zipIdx n).flatMap fun x => standingItem fsn x.2 x.1).filterMap Handed.command? = pendingCommands l := by
  induction l generalizing n with
  | nil => rfl
  | cons e l ih =>
    rw [List.zipIdx_cons, List.flatMap_cons, List.filterMap_append, ih, pendingCommands, pendingCommands]
    unfold standingItem
    cases pending : e.pending <;> simp [Handed.command?, pending]

theorem standingItems_noEvent (fsn : Fsn) (l : List StandingEntry) (n : Nat) :
    ((l.zipIdx n).flatMap fun x => standingItem fsn x.2 x.1).countP Handed.isEvent = 0 := by
  rw [List.countP_eq_zero]
  intro x hx
  obtain ⟨y, -, hy⟩ := List.mem_flatMap.1 hx
  unfold standingItem at hy
  split at hy
  · rw [List.mem_singleton.1 hy]
    simp [Handed.isEvent, Handed.isCompletion]
  · exact (nomatch hy)

theorem taken_pending (e : StandingEntry) : e.taken.pending = none := by
  unfold StandingEntry.taken
  split
  · rfl
  · assumption

theorem replaceEntries_spends (s : State) : Spends State.frameHandles 0 s (replaceEntries s) := by
  rw [replaceEntries_eq]
  refine ⟨_, rfl, Nat.le_of_eq (standingItems_noEvent ..), fun k => ?_⟩
  rw [standingItems_commands, frameHandles_count, frameHandles_count]
  have none_ : pendingCommands (s.stt.entries.map StandingEntry.taken) = [] := by
    simp [pendingCommands, List.filterMap_map, taken_pending]
  dsimp only
  rw [none_, List.count_nil]
  omega

/-! ### The pending records of the other blocks -/

theorem applyAudio_spends (s : State) : Spends State.frameHandles 0 s (applyAudio s) := by
  unfold applyAudio
  split
  · rename_i p pending
    refine complete_spends _ _ _ _ _ (fun k => ?_) rfl
    rw [frameHandles_count, frameHandles_count, pending]
    simp only [complete, hand, formatInForce, Option.map_some, Option.map_none, Option.toList_some, Option.toList_none, List.count_nil]
    omega
  · exact .refl _ _ s

theorem applyTransform_spends (s : State) : Spends State.frameHandles 0 s (applyTransform s) := by
  unfold applyTransform
  split
  · rename_i p pending
    refine complete_spends _ _ _ _ _ (fun k => ?_) rfl
    rw [frameHandles_count, frameHandles_count]
    simp only [complete, hand, Pxp.commands, pending, Option.map_some, Option.map_none, Option.toList_some, Option.toList_none,
      List.count_append, List.count_nil]
    omega
  · exact .refl _ _ s

theorem applyFill_spends (s : State) : Spends State.frameHandles 0 s (applyFill s) := by
  unfold applyFill
  split
  · rename_i p pending
    refine complete_spends _ _ _ _ _ (fun k => ?_) rfl
    rw [frameHandles_count, frameHandles_count]
    simp only [complete, hand, Pxp.commands, pending, Option.map_some, Option.map_none, Option.toList_some, Option.toList_none,
      List.count_append, List.count_nil]
    omega
  · exact .refl _ _ s

theorem pxpFrameStart_spends (s : State) : Spends State.frameHandles 0 s (pxpFrameStart s) :=
  ((applyTransform_spends s).trans (applyFill_spends _)).trans
    (.of_same (n := 0) rfl (frameHandles_same rfl rfl rfl rfl rfl rfl))

theorem post_spends (o : Owner) (e : Event) (s : State) : Spends State.frameHandles 1 s (post o e s) :=
  ((post_hands o e s).mono (fun _ h => ⟨_, h⟩) (Nat.le_refl 1)).spends (frameHandles_same rfl rfl rfl rfl rfl rfl)

theorem postEither_spends (o : Owner) (e e' : Event) (s : State) : Spends State.frameHandles 2 s (postEither o e e' s) := by
  have chosen : Spends State.frameHandles 0 s { s with choices := s.choices + 1 } :=
    .of_same rfl (frameHandles_same rfl rfl rfl rfl rfl rfl)
  unfold postEither
  dsimp only
  split
  · exact (chosen.trans (post_spends o e _)).trans (post_spends o e' _)
  · exact (chosen.trans (post_spends o e' _)).trans (post_spends o e _)

theorem setSession_spends (new : SessionState) (cause : SessionCause) (s : State) :
    Spends State.frameHandles 1 s (setSession new cause s) := by
  refine ((setSession_hands new cause s).mono (fun _ h => ⟨_, h⟩) (Nat.le_refl 1)).spends ?_
  rw [setSession_eq]
  exact frameHandles_same rfl rfl rfl rfl rfl rfl

theorem moveFactor_spends (d f : Nat) (s : State) : Spends State.frameHandles 1 s (moveFactor d f s) :=
  Spends.trans (m := 0) (.of_same rfl (frameHandles_same rfl rfl rfl rfl rfl rfl)) (post_spends ..)

theorem cadenceDecision_spends (d needed : Nat) (s : State) :
    Spends State.frameHandles 2 s (cadenceDecision d needed s).1 := by
  unfold cadenceDecision
  extract_lets r fits short up moves src s1 change s2
  refine Spends.trans (m := 0) (n := 2) (t := s1) (.of_same rfl (frameHandles_same rfl rfl rfl rfl rfl rfl)) ?_
  simp only [s2]
  clear_value moves short
  cases moves
  · cases short
    · exact .refl _ _ _
    · exact (post_spends ..).mono (by decide)
  · cases short
    · exact (post_spends ..).mono (by decide)
    · exact postEither_spends ..

theorem cadenceStep_spends (s : State) : Spends State.frameHandles 2 s (cadenceStep s).1 := by
  unfold cadenceStep
  dsimp only
  split
  · split <;> exact (moveFactor_spends ..).mono (by decide)
  · split
    · exact cadenceDecision_spends ..
    · exact (moveFactor_spends ..).mono (by decide)

theorem applyCadence_none {s : State} (none_ : s.bss.pending = none) : applyCadence s = s := by
  unfold applyCadence
  rw [none_]

/-- A pending cadence record in force is held no more; it completes after the decision. -/
theorem applyCadence_count {s : State} {p : PendingCadence} (held : s.bss.pending = some p) (k : Handle) :
    [p.handle].count k + (applyCadence s).frameHandles.count k = s.frameHandles.count k := by
  rw [frameHandles_count, frameHandles_count]
  unfold applyCadence
  rw [held]
  simp only [Option.map_some, Option.map_none, Option.toList_some, Option.toList_none, List.count_nil]
  omega

theorem bssFrameStart_spends (s : State) : Spends State.frameHandles 2 s (bssFrameStart s).1 := by
  have cleared : Spends State.frameHandles 0 s (setCadenceReason false s) :=
    .of_same rfl (frameHandles_same rfl rfl rfl rfl rfl rfl)
  have silent : ∀ a : State, (applyCadence a).handed = a.handed := by
    intro a
    unfold applyCadence
    split <;> rfl
  refine Spends.trans (m := 0) (n := 2) cleared ?_
  have same : s.bss.pending = (setCadenceReason false s).bss.pending := rfl
  unfold bssFrameStart
  dsimp only
  rw [same]
  generalize setCadenceReason false s = a
  obtain ⟨new, handed, few, spent⟩ := cadenceStep_spends (applyCadence a)
  rw [silent] at handed
  split
  · rename_i p held
    refine ⟨new ++ [⟨.bss, .completion p.handle .ok (cadenceStep (applyCadence a)).1.fmon.fsn
      (cadenceWord (cadenceStep (applyCadence a)).1.bss)⟩], ?_, ?_, fun k => ?_⟩
    · rw [complete_handed, handed, List.append_assoc]
    · rw [List.countP_append]
      simpa [Handed.isEvent, Handed.isCompletion] using few
    · have spentK := spent k
      have record := applyCadence_count held k
      rw [List.filterMap_append, List.count_append]
      refine (Nat.add_right_comm _ _ _).trans_le ((Nat.add_le_add_right spentK _).trans ?_)
      exact ((Nat.add_comm _ _).trans record).le
  · rename_i none_
    rw [applyCadence_none none_] at handed spent ⊢
    exact ⟨new, handed, few, spent⟩

/-! ### SES -/

theorem endStartLink_spends (st : Status) (s : State) : Spends State.frameHandles 0 s (endStartLink st s) := by
  rcases held : s.ses.startLink with _ | h
  · have e : endStartLink st s = { s with ses := { s.ses with startLink := none } } := by
      unfold endStartLink
      rw [held]
      rfl
    rw [e]
    refine .of_same rfl (frameHandles_le (fun k => ?_) rfl rfl rfl rfl rfl)
    simp [Ses.commands, held]
  · have e : endStartLink st s = complete .ses h st s.fmon.fsn (word s.ses.trainCount)
        { s with ses := { s.ses with startLink := none } } := by
      unfold endStartLink
      rw [held]
      rfl
    rw [e]
    refine complete_spends _ _ _ _ _ (fun k => ?_) rfl
    rw [frameHandles_count, frameHandles_count]
    simp only [complete, hand, Ses.commands, held, Option.toList_some, Option.toList_none, List.count_append, List.count_nil]
    omega

theorem terminationLoss_spends (s : State) : Spends State.frameHandles 1 s (terminationLoss s) := by
  unfold terminationLoss
  split
  · exact (endStartLink_spends _ s).trans (setSession_spends ..)
  · exact setSession_spends ..
  · exact setSession_spends ..
  · exact .refl _ _ s

theorem joinSet_spends (r : Requester) (q : Request) (s : State) : Spends State.frameHandles 0 s (joinSet r q s) := by
  unfold joinSet
  split <;> exact .of_same rfl (frameHandles_same rfl rfl rfl rfl rfl rfl)

theorem lcPlace_spends (i : Nat) (training : Bool) (s : State) : Spends State.frameHandles 0 s (lcPlace i training s) := by
  unfold lcPlace
  split
  · exact Spends.trans (m := 0) (.of_same rfl (frameHandles_same rfl rfl rfl rfl rfl rfl)) (joinSet_spends ..)
  · exact .refl _ _ s

theorem linkLocked_spends (s : State) : Spends State.frameHandles 1 s (linkLocked s) := by
  have marked : ∀ s : State, Spends State.frameHandles 0 s (if (entryAt s 0).isActive then
      updEntry 0 (fun e => { e with miss := 0 }) (endStartLink .ok s) else endStartLink .ok s) := by
    intro s
    split
    · exact (endStartLink_spends .ok s).trans (n := 0) (.of_same rfl (frameHandles_same rfl rfl rfl rfl rfl rfl))
    · exact endStartLink_spends .ok s
  have cleared : ∀ s : State, Spends State.frameHandles 0 s { s with ses := { s.ses with linkFrames := 0, cursor := 63 } } :=
    fun s => .of_same rfl (frameHandles_same rfl rfl rfl rfl rfl rfl)
  unfold linkLocked
  dsimp only
  exact ((marked s).trans (cleared _)).trans (setSession_spends ..)

theorem trainingStep_spends (restart : Bool) (s : State) : Spends State.frameHandles 1 s (trainingStep restart s) := by
  unfold trainingStep
  split
  · exact terminationLoss_spends s
  · split
    · exact .of_same rfl (frameHandles_same rfl rfl rfl rfl rfl rfl)
    · split
      · exact linkLocked_spends s
      · unfold countTraining
        dsimp only
        refine Spends.trans (m := 0) (n := 1) (t := { s with ses := { s.ses with trainCount := s.ses.trainCount + 1 } })
          (.of_same rfl (frameHandles_same rfl rfl rfl rfl rfl rfl)) ?_
        split
        · exact (endStartLink_spends _ _).trans (setSession_spends ..)
        · split
          · exact (lcPlace_spends ..).mono (by decide)
          · exact .refl _ _ _

theorem judgeQuiet_spends (s : State) : Spends State.frameHandles 1 s (judgeQuiet s) := by
  unfold judgeQuiet
  split
  · exact setSession_spends ..
  · exact setSession_spends ..
  · exact .refl _ _ s

theorem carryingStep_spends (s : State) : Spends State.frameHandles 1 s (carryingStep s) := by
  unfold carryingStep
  split
  · exact terminationLoss_spends s
  · exact Spends.trans (m := 0) (n := 1) (t := { s with ses := { s.ses with linkFrames := s.ses.linkFrames + 1 } })
      (.of_same rfl (frameHandles_same rfl rfl rfl rfl rfl rfl)) (judgeQuiet_spends _)

/-- What a pending QUIET or RESUME hands over at a frame start (R16). -/
def quietItem (s : State) (p : PendingQuiet) : Handed :=
  ⟨.ses, .completion p.handle .ok s.fmon.fsn (word s.ses.quiet.code)⟩

theorem completeQuiets_eq (s : State) : completeQuiets s = { s with
    ses := { s.ses with pendingQuiet := [] }, handed := s.handed ++ s.ses.pendingQuiet.map (quietItem s) } := by
  have fold : ∀ (l : List PendingQuiet) (s : State),
      l.foldl (fun s p => complete .ses p.handle .ok s.fmon.fsn (word s.ses.quiet.code) s) s
        = { s with handed := s.handed ++ l.map (quietItem s) } := by
    intro l
    induction l with
    | nil => simp
    | cons p l ih =>
      intro s
      rw [List.foldl_cons, ih]
      simp [complete, hand, quietItem]
  exact fold s.ses.pendingQuiet { s with ses := { s.ses with pendingQuiet := [] } }

theorem completeQuiets_spends (s : State) : Spends State.frameHandles 0 s (completeQuiets s) := by
  have commands : ∀ l : List PendingQuiet, (l.map (quietItem s)).filterMap Handed.command? = l.map (·.handle) := by
    intro l
    induction l with
    | nil => rfl
    | cons p l ih =>
      rw [List.map_cons, List.filterMap_cons_some (f := Handed.command?) (b := p.handle) rfl, ih, List.map_cons]
  rw [completeQuiets_eq]
  refine ⟨_, rfl, ?_, fun k => ?_⟩
  · refine Nat.le_of_eq (List.countP_eq_zero.2 fun x hx => ?_)
    obtain ⟨p, -, rfl⟩ := List.mem_map.1 hx
    simp [quietItem, Handed.isEvent, Handed.isCompletion]
  · rw [commands, frameHandles_count, frameHandles_count]
    simp only [Ses.commands, List.count_append, List.map_nil, List.count_nil]
    omega

theorem sesFrameStart_spends (restart : Bool) (s : State) : Spends State.frameHandles 1 s (sesFrameStart restart s) := by
  unfold sesFrameStart
  split
  · exact (trainingStep_spends restart s).trans (completeQuiets_spends _)
  · exact (carryingStep_spends s).trans (completeQuiets_spends _)
  · exact (carryingStep_spends s).trans (completeQuiets_spends _)
  · exact (completeQuiets_spends s).mono (by decide)

theorem issueLinkCheck_spends (s : State) : Spends State.frameHandles 0 s (issueLinkCheck s) := by
  unfold issueLinkCheck
  split
  · split
    · exact Spends.trans (m := 0) (.of_same rfl (frameHandles_same rfl rfl rfl rfl rfl rfl)) (lcPlace_spends ..)
    · exact .refl _ _ s
  · exact .refl _ _ s

theorem sessionPart_spends (s : State) : Spends State.frameHandles 3 s (sessionPart s).1 := by
  have changed := (bssFrameStart_spends s).trans (sesFrameStart_spends (bssFrameStart s).2.restart (bssFrameStart s).1)
  unfold sessionPart
  dsimp only
  split
  · exact changed.trans (issueLinkCheck_spends _)
  · exact changed

/-! ### The audio port -/

theorem audioSession_spends (s : State) : Spends State.frameHandles 0 s (audioSession s) := by
  unfold audioSession
  split
  · exact .refl _ _ s
  · dsimp only
    split <;> exact .of_same rfl (frameHandles_same rfl rfl rfl rfl rfl rfl)

theorem audioFill_spends (s : State) : Spends State.frameHandles 0 s (audioFill s) := by
  unfold audioFill
  split
  · split
    · exact .of_same rfl (frameHandles_same rfl rfl rfl rfl rfl rfl)
    · exact .refl _ _ s
  · exact .refl _ _ s

/-! ### The packets held -/

theorem apq_commands_count (q : Apq) (k : Handle) : q.commands.count k =
    (q.urgent.map (·.handle)).count k + (q.normal.map (·.handle)).count k + (q.bulk.map (·.handle)).count k
      + (q.awaiting.map (·.handle)).count k := by
  simp [Apq.commands, classPackets, Nat.add_assoc]

/-- SENDs that leave the queues complete. -/
theorem spends_of_apq {s t : State} {new : List Handed} (handed : t.handed = s.handed ++ new)
    (events : new.countP Handed.isEvent = 0) (ses : t.ses = s.ses) (bss : t.bss = s.bss) (stt : t.stt = s.stt)
    (ain : t.ain = s.ain) (pxp : t.pxp = s.pxp)
    (spent : ∀ k, (new.filterMap Handed.command?).count k + t.apq.commands.count k ≤ s.apq.commands.count k) :
    Spends State.frameHandles 0 s t := by
  refine ⟨new, handed, events.le, fun k => ?_⟩
  have spentK := spent k
  rw [frameHandles_count, frameHandles_count, ses, bss, stt, ain, pxp]
  omega

theorem sendItems_noEvent (st : Status) (ps : List Packet) : (ps.map (sendItem st)).countP Handed.isEvent = 0 := by
  rw [List.countP_eq_zero]
  intro x hx
  obtain ⟨p, -, rfl⟩ := List.mem_map.1 hx
  simp [sendItem, Handed.isEvent, Handed.isCompletion]

/-- A list's packets that pass and those that fail a test are the whole list. -/
theorem count_filter_split (ps : List Packet) (f : Packet → Bool) (k : Handle) :
    ((ps.filter f).map (·.handle)).count k + ((ps.filter (fun p => !f p)).map (·.handle)).count k
      = (ps.map (·.handle)).count k := by
  rw [← List.count_append, ← List.map_append]
  exact ((List.filter_append_perm f ps).map _).count_eq k

theorem expirePackets_spends (s : State) : Spends State.frameHandles 0 s (expirePackets s) := by
  rw [expirePackets_eq]
  refine spends_of_apq rfl (sendItems_noEvent ..) rfl rfl rfl rfl rfl (fun k => ?_)
  have u := count_filter_split s.apq.urgent (fun p => p.late s.fmon.fsn) k
  have n := count_filter_split s.apq.normal (fun p => p.late s.fmon.fsn) k
  have b := count_filter_split s.apq.bulk (fun p => p.late s.fmon.fsn) k
  rw [commands_sendItems, apq_commands_count, apq_commands_count, classPackets, List.filter_append, List.filter_append,
    List.map_append, List.map_append, List.count_append, List.count_append]
  dsimp only
  omega

theorem markDue_spends (s : State) : Spends State.frameHandles 0 s (markDue s) := by
  refine spends_of_apq (new := []) (List.append_nil _).symm rfl rfl rfl rfl rfl rfl (fun k => ?_)
  have handles : (markDue s).apq.awaiting.map (·.handle) = s.apq.awaiting.map (·.handle) := by
    unfold markDue
    simp only [List.map_map]
    refine List.map_congr_left (fun p _ => ?_)
    simp only [Function.comp]
    split
    · split <;> rfl
    · rfl
  rw [apq_commands_count, apq_commands_count, handles]
  simp [markDue]

/-- The awaiting-ack list without the packets of these ids. -/
def dropAll (ids : List Nat) (q : Apq) : Apq := { q with awaiting := q.awaiting.filter (fun p => !ids.contains p.handle.id) }

/-- With the presence negated every packet asked for completes and leaves the list (R51). -/
theorem judgeDown_eq (l : List Packet) (s : State) : l.foldl (fun s p => judgeReceipt p .linkDown s) s =
    { s with
      apq := dropAll (l.map (·.handle.id)) s.apq
      handed := s.handed ++ l.map (fun p => sendItem (if targetHeld s p.target then .linkDown else .targetGone) p) } := by
  have one : ∀ (p : Packet) (s : State), judgeReceipt p .linkDown s = { s with
      apq := dropAwaiting p.handle.id s.apq
      handed := s.handed ++ [sendItem (if targetHeld s p.target then .linkDown else .targetGone) p] } := by
    intro p s
    unfold judgeReceipt
    cases targetHeld s p.target <;> rfl
  induction l generalizing s with
  | nil =>
    simp [dropAll]
  | cons p l ih =>
    rw [List.foldl_cons, one, ih]
    simp only [dropAll, dropAwaiting, List.filter_filter, List.map_cons, List.append_assoc, List.cons_append,
      List.nil_append]
    have both : s.apq.awaiting.filter (fun a => !(l.map (·.handle.id)).contains a.handle.id && !decide (a.handle.id = p.handle.id))
        = s.apq.awaiting.filter (fun a => !(p.handle.id :: l.map (·.handle.id)).contains a.handle.id) := by
      refine List.filter_congr (fun a _ => ?_)
      simp only [List.contains_cons]
      cases (l.map (·.handle.id)).contains a.handle.id <;> simp [Bool.beq_eq_decide_eq]
    rw [both]
    rfl

theorem receiptsDown_spends (s : State) : Spends State.frameHandles 0 s (receiptsDown s) := by
  unfold receiptsDown
  rw [judgeDown_eq]
  refine spends_of_apq rfl ?_ rfl rfl rfl rfl rfl (fun k => ?_)
  · rw [List.countP_eq_zero]
    intro x hx
    obtain ⟨p, -, rfl⟩ := List.mem_map.1 hx
    simp [sendItem, Handed.isEvent, Handed.isCompletion]
  · have commands : ∀ l : List Packet, (l.map (fun p => sendItem (if targetHeld s p.target then Status.linkDown else .targetGone)
        p)).filterMap Handed.command? = l.map (·.handle) := by
      intro l
      induction l with
      | nil => rfl
      | cons p l ih =>
        rw [List.map_cons, List.filterMap_cons_some (f := Handed.command?) (b := p.handle) rfl, ih, List.map_cons]
    have rest : (s.apq.awaiting.filter (fun p =>
        !((s.apq.awaiting.filter (·.due)).map (·.handle.id)).contains p.handle.id)).Sublist
        (s.apq.awaiting.filter (fun p => !p.due)) := by
      have e : s.apq.awaiting.filter (fun p => !((s.apq.awaiting.filter (·.due)).map (·.handle.id)).contains p.handle.id)
          = (s.apq.awaiting.filter (fun p => !p.due)).filter (fun p =>
            !((s.apq.awaiting.filter (·.due)).map (·.handle.id)).contains p.handle.id) := by
        rw [List.filter_filter]
        refine List.filter_congr (fun p hp => ?_)
        cases due : p.due
        · simp
        · have named : ((s.apq.awaiting.filter (·.due)).map (·.handle.id)).contains p.handle.id = true :=
            List.contains_iff_mem.2 (List.mem_map_of_mem (List.mem_filter.2 ⟨hp, due⟩))
          simp only [named]
          rfl
      rw [e]
      exact List.filter_sublist
    have split_ := count_filter_split s.apq.awaiting (·.due) k
    have fewer := (rest.map (·.handle)).count_le k
    rw [commands, apq_commands_count, apq_commands_count]
    dsimp only [dropAll]
    omega

theorem nextReceipt_spends (s : State) : Spends State.frameHandles 0 s (nextReceipt s) := by
  unfold nextReceipt
  split
  · exact .refl _ _ s
  · split
    · exact .refl _ _ s
    · split
      · exact Spends.trans (m := 0) (.of_same rfl (frameHandles_same rfl rfl rfl rfl rfl rfl)) (joinSet_spends ..)
      · exact receiptsDown_spends s

theorem apqFrameStart_spends (s : State) : Spends State.frameHandles 0 s (apqFrameStart s) :=
  ((expirePackets_spends s).trans (markDue_spends _)).trans (nextReceipt_spends _)

/-! ### The selection -/

/-- What every step of a selection keeps, with the queue worked on standing for that of its class, the selection keeps. -/
theorem selectPackets_withClass_rel {R : State → State → Prop} (refl : ∀ s, R s s)
    (trans : ∀ {a b c}, R a b → R b c → R a c)
    (finish : ∀ c p ps st s, R (s.withClass c (p :: ps)) ((finishPacket p st s).withClass c ps))
    (place : ∀ c {p : Packet} ps {pos : Nat} {x : Selection}, headCase x p = .place pos →
      R (x.state.withClass c (p :: ps)) ((placePacket pos p x).state.withClass c ps))
    (starve : ∀ n x, R x.state (setStarve n x).state) (x : Selection) : R x.state (selectPackets x).state := by
  have cls : ∀ c ps x, R (x.state.withClass c ps) ((selectClass ps x).2.state.withClass c (selectClass ps x).1) := by
    intro c ps
    induction ps with
    | nil => exact fun x => refl _
    | cons p ps ih =>
      intro x
      unfold selectClass
      split
      · exact refl _
      · split
        · exact trans (finish c p ps .targetGone x.state) (ih { x with state := finishPacket p .targetGone x.state })
        · exact refl _
        · rename_i h
          exact trans (place c ps h) (ih _)
  have starved : ∀ ps x, R (x.state.withClass .bulk ps) ((starveStep ps x).2.1.state.withClass .bulk (starveStep ps x).1) := by
    intro ps
    induction ps with
    | nil => exact fun x => refl _
    | cons p ps ih =>
      intro x
      unfold starveStep
      split
      · exact trans (finish .bulk p ps .targetGone x.state) (ih { x with state := finishPacket p .targetGone x.state })
      · exact refl _
      · rename_i h
        exact place .bulk ps h
  have queue : ∀ c x, R x.state (withQueue c (selectClass (queueOf x.state.apq c) x)).state := by
    intro c x
    have h := cls c (queueOf x.state.apq c) x
    rw [withClass_queueOf] at h
    exact h
  have step : ∀ waiting starved blocked x, R x.state (classStep waiting starved blocked x).state := by
    intro waiting starved blocked x
    have two := trans (queue .urgent x) (queue .normal _)
    unfold classStep
    dsimp only
    refine trans ?_ (starve _ _)
    split
    · exact two
    · exact trans two (queue .bulk _)
  unfold selectPackets
  dsimp only
  split
  · have h := starved (queueOf x.state.apq .bulk) x
    rw [withClass_queueOf] at h
    exact trans h (step _ _ _ (withQueue .bulk ((starveStep x.state.apq.bulk x).1, (starveStep x.state.apq.bulk x).2.1)))
  · exact step _ _ _ x

/-- The commands with one class's queue replaced. -/
theorem withClass_count (c : PacketClass) (p : Packet) (ps : List Packet) (q : Apq) (k : Handle) :
    (setQueue c (p :: ps) q).commands.count k = [p.handle].count k + (setQueue c ps q).commands.count k := by
  rw [apq_commands_count, apq_commands_count]
  have cons : ((p :: ps).map (·.handle)).count k = [p.handle].count k + (ps.map (·.handle)).count k := by
    rw [← List.count_append]
    rfl
  cases c <;> simp only [setQueue, cons] <;> omega

theorem selectPackets_spends (x : Selection) : Spends State.frameHandles 0 x.state (selectPackets x).state := by
  have sent : ∀ p st, [sendItem st p].filterMap Handed.command? = [p.handle] := fun p st => rfl
  refine selectPackets_withClass_rel (R := Spends State.frameHandles 0) (.refl _ 0) (fun h k => h.trans k)
    (fun c p ps st s => ?_) (fun c p ps pos x h => ?_) (fun n x => ?_) x
  · refine spends_of_apq (new := [sendItem st p]) rfl (sendItems_noEvent st [p]) rfl rfl rfl rfl rfl (fun k => ?_)
    rw [sent]
    exact (withClass_count c p ps s.apq k).ge
  · obtain ⟨ses, fmon, sbc, rwk, dcr, bss, stt, apq, ain, pxp, hif, pins, now, out, choices, pending, -⟩ :=
      tagFor_touches p x.state
    have handed : (tagFor p x.state).2.handed = x.state.handed := by
      unfold tagFor takeTag
      dsimp only
      split
      · split
        · rename_i h
          split at h
          · cases h
            rfl
          · cases h
        · rfl
      · rfl
    have apq := apq.resolve_left (by decide)
    have bound (k : Handle) := withClass_count c p ps x.state.apq k
    unfold placePacket
    dsimp only
    split
    · refine spends_of_apq (new := []) (handed.trans (List.append_nil _).symm) rfl (ses.resolve_left (by decide))
        (bss.resolve_left (by decide)) (stt.resolve_left (by decide)) (ain.resolve_left (by decide))
        (pxp.resolve_left (by decide)) (fun k => ?_)
      have boundK := bound k
      rw [apq_commands_count, apq_commands_count] at boundK
      simp only [State.withClass]
      rw [apq, apq_commands_count, apq_commands_count]
      cases c <;> simp only [setQueue, List.map_append, List.count_append, List.filterMap_nil, List.count_nil, List.map_cons,
        List.map_nil] at boundK ⊢ <;> omega
    · refine spends_of_apq (new := [sendItem .ok { p with
          attempts := p.attempts + 1, placed := some x.state.fmon.fsn, tag := (tagFor p x.state).1, due := false }])
        (congrArg (· ++ _) handed) (sendItems_noEvent .ok [_]) (ses.resolve_left (by decide))
        (bss.resolve_left (by decide)) (stt.resolve_left (by decide)) (ain.resolve_left (by decide))
        (pxp.resolve_left (by decide)) (fun k => ?_)
      rw [sent]
      refine le_trans (le_of_eq ?_) (bound k).ge
      exact congrArg (fun q => [p.handle].count k + (setQueue c ps q).commands.count k) apq
  · exact spends_of_apq (new := []) (List.append_nil _).symm rfl rfl rfl rfl rfl rfl
      (fun k => by rw [apq_commands_count, apq_commands_count]; simp [setStarve])

/-! ### The plan and the whole body -/

theorem addressedStage_spends (x : Selection) : Spends State.frameHandles 0 x.state (addressedStage x).state := by
  unfold addressedStage
  split
  · exact selectPackets_spends x
  · exact .refl _ _ _

theorem judgeSkips_spends (w : CadenceWork) (skips : Bool) (s : State) :
    Spends State.frameHandles 1 s (judgeSkips w skips s) := by
  unfold judgeSkips
  split
  · split
    · exact .refl _ _ s
    · exact Spends.trans (m := 0) (n := 1) (.of_same rfl (frameHandles_same rfl rfl rfl rfl rfl rfl)) (post_spends ..)
  · split
    · exact .of_same rfl (frameHandles_same rfl rfl rfl rfl rfl rfl)
    · exact .refl _ _ s

theorem sendFrame_spends (packets : List (List Byte)) (s : State) : Spends State.frameHandles 0 s (sendFrame packets s) := by
  unfold sendFrame
  split
  · exact .of_same rfl (frameHandles_same rfl rfl rfl rfl rfl rfl)
  · exact .refl _ _ s

theorem buildFixed_spends (s : State) : Spends State.frameHandles 0 s (buildFixed s) := by
  refine .of_same rfl (frameHandles_same rfl rfl rfl rfl ?_ rfl)
  have modified : ∀ (f : StandingEntry → StandingEntry) (l : List StandingEntry) (n : Nat), (∀ e, (f e).pending = e.pending) →
      pendingCommands (l.modify n f) = pendingCommands l := by
    intro f l n same
    induction l generalizing n with
    | nil => cases n <;> rfl
    | cons e l ih =>
      cases n with
      | zero =>
        rw [List.modify_zero_cons, pendingCommands, pendingCommands, List.filterMap_cons, List.filterMap_cons, same]
      | succ n =>
        have h := ih n
        simp only [pendingCommands] at h ⊢
        rw [List.modify_succ_cons, List.filterMap_cons, List.filterMap_cons]
        cases e.pending
        · exact h
        · simp [h]
  exact (modified (fun e => { e with payload := tallyPayload s }) _ 1 fun _ => rfl).trans
    (modified (fun e => { e with payload := formatPayload s }) s.stt.entries 0 fun _ => rfl)

theorem planned_spends (s : State) : Spends State.frameHandles 0 s (planned s) :=
  ((((buildFixed_spends s).trans (n := 0) (u := (audioTaken s).state)
    (.of_same rfl (frameHandles_same rfl rfl rfl rfl rfl rfl))).trans (addressedStage_spends (audioTaken s))).trans (n := 0)
    (.of_same rfl (frameHandles_same rfl rfl rfl rfl rfl rfl)))

theorem buildPlan_spends (w : CadenceWork) (s : State) : Spends State.frameHandles 1 s (buildPlan w s) := by
  rw [buildPlan_eq]
  exact ((planned_spends s).trans (judgeSkips_spends ..)).trans (sendFrame_spends ..)

theorem planBase_spends (term : Bool) (b : State) : Spends State.frameHandles 0 (sessionTaken term b) (planBase term b) :=
  (((audioSession_spends _).trans (audioFill_spends _)).trans (apqFrameStart_spends _)).trans (pxpFrameStart_spends _)

theorem recordsTaken_spends (term : Bool) (b : State) : Spends State.frameHandles 0 b (recordsTaken term b) :=
  Spends.trans (m := 0) (n := 0) (t := sampleTerm term (pxpNewFrame b))
    (.of_same rfl (frameHandles_same rfl rfl rfl rfl rfl rfl)) ((replaceEntries_spends _).trans (applyAudio_spends _))

/-- A frame start completes commands that wait for it, each once, and posts at most six events. -/
theorem frameBody_spends {s b : State} (opens : FmonOpens s b) (term : Bool) :
    Spends State.frameHandles 6 s (frameBody term b) :=
  (opens.spends.trans ((recordsTaken_spends term b).trans (sessionPart_spends _))).trans
    ((planBase_spends term b).trans (buildPlan_spends _ _))

end Sys2Proof.Machine
end

section
/-!
PROOFS. The cadence work of a frame start: the demand, the needed factor, the decision, what it reports, and the CADENCE
reason of a frame that carries.
-/

namespace Sys2Proof.Machine

set_option Elab.async false

/-! ### What a frame start hands over reaches HIF -/

theorem planBase_mem {term : Bool} {b : State} {x : Handed} (mem : x ∈ (cadenced term b).handed) :
    x ∈ (planBase term b).handed := by
  have taken : x ∈ (sessionTaken term b).handed := by
    rw [sessionTaken_eq]
    have changed := (sesFrameStart_spends (cadenceWork term b).restart (cadenced term b)).mem mem
    split
    · exact (issueLinkCheck_spends _).mem changed
    · exact changed
  exact (planBase_spends term b).mem taken

theorem frameBody_mem_judged {term : Bool} {b : State} {x : Handed} (mem : x ∈ (judgeSkips (cadenceWork term b)
    (!(planOf (planBase term b)).skipped.isEmpty) (planned (planBase term b))).handed) : x ∈ (frameBody term b).handed :=
  (sendFrame_spends (packetsTaken (planBase term b)).sent _).mem mem

theorem frameBody_mem {term : Bool} {b : State} {x : Handed} (mem : x ∈ (cadenced term b).handed) :
    x ∈ (frameBody term b).handed :=
  frameBody_mem_judged ((judgeSkips_spends _ _ _).mem ((planned_spends _).mem (planBase_mem mem)))

section
variable {s b : State} (opens : FmonOpens s b) (term : Bool)
include opens

theorem frameBody_touches : Touches [.ses, .fmon, .sbc, .rwk, .bss, .stt, .apq, .ain, .pxp, .pins, .now, .out, .choices] s
    (frameBody term b) :=
  (((opens.touches.mono (by decide)).trans ((recordsTaken_touches term b).mono (by decide))).trans
    ((sessionPart_touches (recordsTaken term b)).mono (by decide))).trans
    (((planBase_touches term b).mono (by decide)).trans ((buildPlan_touches _ _).mono (by decide)))

/-- An event that a frame start hands over is reported if HIF listens. -/
theorem frame_reports (settled : s.handed = []) {o : Owner} {e : Event} (listens : s.listens e.kind = true)
    (there : ⟨o, .event e⟩ ∈ (frameBody term b).handed) : s.reports (finishAnyOrder (frameBody term b)) e = true := by
  have touched := frameBody_touches opens term
  refine (finishAnyOrder_finishes _).reports touched.sent ?_ there
    (((frameBody_spends opens term).few settled).trans (by decide))
  unfold State.listens
  rw [touched.hif.resolve_left (by decide)]
  exact listens

/-- A command that a frame start hands over is completed. -/
theorem frame_completes (settled : s.handed = []) (once : s.frameHandles.Nodup) {o : Owner} {h : Handle} {st : Status}
    {w v : Word} (can : s.canComplete h) (there : ⟨o, .completion h st w v⟩ ∈ (frameBody term b).handed) :
    s.completes (finishAnyOrder (frameBody term b)) h st w v = true := by
  have touched := frameBody_touches opens term
  refine (finishAnyOrder_finishes _).completes_once touched.sent ?_ there ((frameBody_spends opens term).nodup settled once)
  unfold State.canComplete
  rw [touched.hif.resolve_left (by decide)]
  exact can

end

/-! ### The demand (R102) -/

/-- The state in which the cadence work of a frame start decides: the pending cadence record is in force, and the CADENCE
reason of the frame before is removed. -/
def cadenceBase (term : Bool) (b : State) : State := applyCadence (setCadenceReason false (recordsTaken term b))

theorem modify_standing {f : StandingEntry → StandingEntry} {l : List StandingEntry} {i : Nat}
    (same : ∀ e, l[i]? = some e → (f e).enabled = e.enabled ∧ (f e).slots = e.slots) :
    (((l.modify i f).filter (·.enabled)).map StandingEntry.slots) = (l.filter (·.enabled)).map StandingEntry.slots := by
  induction l generalizing i with
  | nil => cases i <;> rfl
  | cons e l ih =>
    cases i with
    | zero =>
      obtain ⟨enabled, slots⟩ := same e rfl
      rw [List.modify_zero_cons, List.filter_cons, List.filter_cons, enabled]
      split
      · rw [List.map_cons, List.map_cons, slots]
      · rfl
    | succ i =>
      have h := ih (i := i) (fun x hx => same x hx)
      rw [List.modify_succ_cons, List.filter_cons, List.filter_cons]
      split
      · rw [List.map_cons, List.map_cons, h]
      · exact h

theorem beBytes_length (n v : Nat) : (beBytes n v).length = n := by
  rw [beBytes, List.length_reverse, leBytes_length]

theorem formatPayload_slots (s : State) : slotsFor (formatPayload s).length = 1 := by
  have length : (formatPayload s).length = 16 := by
    simp [formatPayload, leBytes_length, beBytes_length, zeros]
  rw [length]
  rfl

theorem tallyPayload_slots (s : State) : slotsFor (tallyPayload s).length = 1 := by
  have length : (tallyPayload s).length = 6 := by simp [tallyPayload, beBytes_length]
  rw [length]
  rfl

/-- FORMAT and TALLY take one slot each, before as after (R117, R118). -/
theorem buildFixed_standingPart {s : State} (fixed : ∀ e ∈ s.stt.entries.take 2, slotsFor e.payload.length = 1) :
    standingPart (buildFixed s).stt = standingPart s.stt := by
  have at_ : ∀ i, i < 2 → ∀ e, s.stt.entries[i]? = some e → slotsFor e.payload.length = 1 := fun i low e here =>
    fixed e (List.mem_of_getElem? (i := i) ((List.getElem?_take_of_lt low).trans here))
  unfold standingPart buildFixed
  rw [modify_standing, modify_standing]
  · exact fun e here => ⟨rfl, (formatPayload_slots s).trans (at_ 0 (by decide) e here).symm⟩
  · intro e here
    refine ⟨rfl, (tallyPayload_slots s).trans ?_⟩
    have before : s.stt.entries[1]? = some e := by simpa [List.getElem?_modify] using here
    exact (at_ 1 (by decide) e before).symm

/-- The declared format is the one that takes effect before the cadence work. -/
theorem planBase_format (term : Bool) (b : State) : (planBase term b).ain.format = (recordsTaken term b).ain.format := by
  have session : ∀ s : State, (audioSession s).ain.format = s.ain.format := by
    intro s
    unfold audioSession
    split
    · rfl
    · dsimp only
      split <;> rfl
  have fill : ∀ s : State, (audioFill s).ain.format = s.ain.format := by
    intro s
    unfold audioFill
    split
    · split <;> rfl
    · rfl
  have rest : (planBase term b).ain = (audioFill (audioSession (sessionTaken term b))).ain :=
    ((pxpFrameStart_touches _).ain.resolve_left (by decide)).trans ((apqFrameStart_touches _).ain.resolve_left (by decide))
  rw [rest, fill, session]
  exact congrArg Ain.format ((sessionPart_touches (recordsTaken term b)).ain.resolve_left (by decide))

/-- The parameters of SET-CADENCE stay as the record in force has them. -/
def SameMode (x y : Bss) : Prop := y.mode = x.mode ∧ y.hostFactor = x.hostFactor ∧ y.reserve = x.reserve

theorem cadenceStep_mode (s : State) : SameMode s.bss (cadenceStep s).1.bss := by
  unfold cadenceStep
  dsimp only
  split
  · split <;> exact ⟨rfl, rfl, rfl⟩
  · split
    · rw [cadenceDecision_bss]
      exact ⟨rfl, rfl, rfl⟩
    · exact ⟨rfl, rfl, rfl⟩

theorem neededFactor_congr {x y : Bss} (same : SameMode x y) (g : Geometry) (d : Nat) :
    neededFactor y g d = neededFactor x g d := by
  obtain ⟨mode, host, -⟩ := same
  unfold neededFactor
  rw [mode, host]

theorem cadenced_bss_eq (term : Bool) (b : State) : (cadenced term b).bss = (cadenceStep (cadenceBase term b)).1.bss :=
  bssFrameStart_bss _

theorem frameBody_bss (term : Bool) (b : State) : (frameBody term b).bss = { (cadenceStep (cadenceBase term b)).1.bss with
    plan := some (planOf (planBase term b))
    shortfall := shortfallAfter (cadenceWork term b) (!(planOf (planBase term b)).skipped.isEmpty)
      (cadenceStep (cadenceBase term b)).1.bss.shortfall } := by
  have base : (planBase term b).bss = (cadenceStep (cadenceBase term b)).1.bss :=
    ((planBase_touches term b).bss.resolve_left (by decide)).trans ((cadenced_bss term b).trans (cadenced_bss_eq term b))
  rw [frameBody, buildPlan_bss, base]

theorem frameBody_mode (term : Bool) (b : State) : SameMode (cadenceBase term b).bss (frameBody term b).bss := by
  rw [frameBody_bss]
  exact cadenceStep_mode _

/-- What the cadence work sees of the state before the frame start. -/
structure CadenceSees (s : State) (x : State) : Prop where
  announced : x.bss.announced = s.bss.announced
  factor : x.bss.factor = s.bss.factor
  shortfall : x.bss.shortfall = s.bss.shortfall
  session : x.ses.session = s.ses.session
  lowerFits : x.bss.lowerFits = if s.bss.pending.isSome then 0 else s.bss.lowerFits

theorem cadenceBase_sees {s b : State} (opens : FmonOpens s b) (term : Bool) : CadenceSees s (cadenceBase term b) := by
  have bss : (recordsTaken term b).bss = s.bss :=
    ((recordsTaken_touches term b).bss.resolve_left (by decide)).trans (opens.touches.bss.resolve_left (by decide))
  obtain ⟨announced, factor, shortfall, -, ses⟩ := applyCadence_leaves (setCadenceReason false (recordsTaken term b))
  have session : (recordsTaken term b).ses.session = s.ses.session := by rw [recordsTaken_ses, opens.ses]
  refine ⟨announced.trans (congrArg Bss.announced bss), factor.trans (congrArg Bss.factor bss),
    shortfall.trans (congrArg Bss.shortfall bss), (congrArg Ses.session ses).trans session, ?_⟩
  rw [← bss]
  unfold cadenceBase applyCadence
  have here : (setCadenceReason false (recordsTaken term b)).bss = (recordsTaken term b).bss := rfl
  rw [here]
  split
  · rename_i p pending
    rw [pending]
    rfl
  · rename_i pending
    rw [pending]
    rfl

section
variable {s b : State} (opens : FmonOpens s b) (term : Bool)
  (fixed : ∀ e ∈ s.stt.entries.take 2, e.pending = none ∧ slotsFor e.payload.length = 1)
include opens fixed

theorem cadenceBase_standing : standingPart (frameBody term b).stt = standingPart (cadenceBase term b).stt := by
  have base : (cadenceBase term b).stt = (planBase term b).stt := by
    rw [planBase_stt]
    exact ((applyCadence_touches _).stt.resolve_left (by decide)).trans ((applyAudio_touches _).stt.resolve_left (by decide))
  rw [base, frameBody, buildPlan_stt]
  refine buildFixed_standingPart (fun e mem => ?_)
  have entries : (planBase term b).stt.entries = s.stt.entries.map StandingEntry.taken := by
    rw [planBase_stt, replaceEntries_eq]
    exact congrArg (fun x => x.entries.map StandingEntry.taken) (opens.touches.stt.resolve_left (by decide))
  rw [entries, ← List.map_take] at mem
  obtain ⟨x, hx, rfl⟩ := List.mem_map.1 mem
  obtain ⟨none_, one⟩ := fixed x hx
  unfold StandingEntry.taken
  rw [none_]
  exact one

/-- The demand of the cadence work is that of the state after the frame start. -/
theorem cadenceBase_demand : demand (cadenceBase term b) = demand (frameBody term b) := by
  obtain ⟨-, -, reserve⟩ := frameBody_mode term b
  have base : (cadenceBase term b).fmon = b.fmon ∧ (cadenceBase term b).ain = (recordsTaken term b).ain :=
    ⟨((applyCadence_touches _).fmon.resolve_left (by decide)).trans ((recordsTaken_touches term b).fmon.resolve_left (by decide)),
      (applyCadence_touches _).ain.resolve_left (by decide)⟩
  have format : (frameBody term b).ain.format = (recordsTaken term b).ain.format :=
    (buildPlan_format _ _).trans (planBase_format term b)
  unfold demand
  rw [cadenceBase_standing opens term fixed, base.1, base.2, reserve, frameBody_fmon, format]

end

theorem cadenceBase_fmon (term : Bool) (b : State) : (cadenceBase term b).fmon = b.fmon :=
  ((applyCadence_touches _).fmon.resolve_left (by decide)).trans ((recordsTaken_touches term b).fmon.resolve_left (by decide))

theorem cadenceWork_eq (term : Bool) (b : State) : cadenceWork term b = (cadenceStep (cadenceBase term b)).2 :=
  bssFrameStart_work _

theorem cadenced_mem {term : Bool} {b : State} {x : Handed} (mem : x ∈ (cadenceStep (cadenceBase term b)).1.handed) :
    x ∈ (frameBody term b).handed := by
  refine frameBody_mem ?_
  unfold cadenced bssFrameStart
  dsimp only
  split
  · rw [complete_handed]
    exact List.mem_append_left _ mem
  · exact mem

/-! ### What the plan's skips report (R106) -/

theorem judgeSkips_posts {w : CadenceWork} {s : State} {skips : Bool} (clear : s.bss.shortfall = false)
    (skip : skips = true) : ⟨.bss, .event (shortEvent true w.demand w.needed s)⟩ ∈ (judgeSkips w skips s).handed := by
  have e : judgeSkips w skips s = post .bss (shortEvent true w.demand w.needed s)
      { s with bss := { s.bss with shortfall := true } } := by
    unfold judgeSkips
    rw [if_pos skip, clear]
    rfl
  rw [e]
  exact List.mem_append_right _ (List.mem_singleton_self _)

theorem frameBody_plan (term : Bool) (b : State) : (frameBody term b).bss.plan = some (planOf (planBase term b)) := by
  rw [frameBody_bss]

/-- The skips of a frame start's plan, as they stand in the state after it. -/
theorem frameBody_skips (term : Bool) (b : State) : (frameBody term b).bss.plan.any (fun p => !p.skipped.isEmpty)
    = !(planOf (planBase term b)).skipped.isEmpty := by
  rw [frameBody_plan]
  rfl

theorem skips_posts {term : Bool} {b : State} (clear : (cadenceStep (cadenceBase term b)).1.bss.shortfall = false)
    (skips : (frameBody term b).bss.plan.any (fun p => !p.skipped.isEmpty) = true) :
    ⟨.bss, .event (.capacityShort true (frameBody term b).bss.factor (cadenceWork term b).needed (cadenceWork term b).demand
      (capacity (frameBody term b).fmon.geometry (cadenceWork term b).needed))⟩ ∈ (frameBody term b).handed := by
  have base : (planBase term b).bss = (cadenceStep (cadenceBase term b)).1.bss :=
    ((planBase_touches term b).bss.resolve_left (by decide)).trans ((cadenced_bss term b).trans (cadenced_bss_eq term b))
  have stages : (packetsTaken (planBase term b)).state.bss = (cadenceStep (cadenceBase term b)).1.bss :=
    ((packetsTaken_touches _).bss.resolve_left (by decide)).trans base
  have factor : (planned (planBase term b)).bss.factor = (frameBody term b).bss.factor := by
    have kept : (planned (planBase term b)).bss.factor = (packetsTaken (planBase term b)).state.bss.factor := rfl
    rw [kept, stages, frameBody_bss]
  have geometry : (planned (planBase term b)).fmon = (frameBody term b).fmon :=
    ((buildPlan_planned (cadenceWork term b) (planBase term b)).fmon.resolve_left (by decide)).symm
  rw [frameBody_skips] at skips
  have posted := judgeSkips_posts (w := cadenceWork term b) (s := planned (planBase term b))
    ((congrArg Bss.shortfall stages).trans clear) skips
  have reached := frameBody_mem_judged posted
  rw [shortEvent, factor, geometry] at reached
  exact reached

/-! ### The CADENCE reason of a frame that carries (R15) -/

/-- A frame that carries packets had the lanes on before, and is quiet exactly with a reason as the cadence work leaves them. -/
theorem sessionTaken_carries {term : Bool} {b : State} (carries : (sessionTaken term b).ses.session.carries = true) :
    b.ses.session.linkUp = true ∧ (sessionTaken term b).ses.session = quietOr (sessionTaken term b).ses.quiet
    ∧ (sessionTaken term b).ses.quiet = (cadenced term b).ses.quiet := by
  by_cases before : b.ses.session.carries = true
  · have up : b.ses.session.linkUp = true := by
      rcases (SessionState.carries_iff _).1 before with session | session <;> rw [session] <;> rfl
    by_cases lost : term = false ∧ 1 ≤ b.ses.termLoss
    · rw [(carried_lost before lost.1 lost.2).1] at carries
      exact absurd carries (by decide)
    · have held : term = true ∨ b.ses.termLoss = 0 := by
        cases term
        · exact .inr (by_contra fun h => lost ⟨rfl, Nat.pos_of_ne_zero h⟩)
        · exact .inl rfl
      obtain ⟨u, taken, -, state, -, -, -, -, -, quiet⟩ := carried_changes before held
      have kept := issueLinkCheck_ses u
      rw [taken, kept]
      exact ⟨up, state, quiet⟩
  · by_cases training : b.ses.session = .training
    · refine ⟨by rw [training]; rfl, ?_⟩
      by_cases lost : term = false ∧ 1 ≤ b.ses.termLoss
      · rw [(training_lost training lost.1 lost.2).1] at carries
        exact absurd carries (by decide)
      · cases again : (cadenceWork term b).restart
        · cases seen : b.ses.lockSeen
          · by_cases long : 59 ≤ b.ses.trainCount
            · rw [(training_ends training lost again seen long).1] at carries
              exact absurd carries (by decide)
            · rw [(training_counts training lost again seen (Nat.lt_of_not_le long)).1] at carries
              exact absurd carries (by decide)
          · obtain ⟨state, -, -, -, quiet⟩ := training_locks training lost again seen
            exact ⟨state, quiet⟩
        · rw [(training_restarts training lost again).1] at carries
          exact absurd carries (by decide)
    · have here : (cadenced term b).ses.session = b.ses.session := by rw [cadenced_ses]
      have step : sesFrameStart (cadenceWork term b).restart (cadenced term b) = completeQuiets (cadenced term b) := by
        unfold sesFrameStart
        rw [here]
        split
        · exact absurd ‹_› training
        · exact absurd ((SessionState.carries_iff _).2 (.inl ‹_›)) before
        · exact absurd ((SessionState.carries_iff _).2 (.inr ‹_›)) before
        · rfl
      rw [sessionTaken_eq, Bool.eq_false_iff.2 before, Bool.false_and, if_neg (by decide), step, completeQuiets_ses] at carries
      exact absurd ((congrArg SessionState.carries here).symm.trans carries) before

/-! ### The factor in force moves (R107, R108) -/

section
variable {s b : State} (opens : FmonOpens s b) {term : Bool} {d f : Nat} {w : CadenceWork}
  (step : cadenceStep (cadenceBase term b) = (moveFactor d f (cadenceBase term b), w)) (unfit : w.fits = false)
include opens step unfit

/-- What every move of the factor in force leaves. -/
theorem frame_moved : (frameBody term b).bss.factor = f ∧ (frameBody term b).bss.announced = none
    ∧ (frameBody term b).bss.lowerFits = 0
    ∧ (frameBody term b).bss.shortfall
      = (s.bss.shortfall || decide ((frameBody term b).bss.plan.any (fun p => !p.skipped.isEmpty) = true))
    ∧ ⟨.bss, .event (.cadenceChanged s.bss.factor f (frameBody term b).bss.mode d)⟩ ∈ (frameBody term b).handed
    ∧ (s.bss.shortfall = false → (frameBody term b).bss.plan.any (fun p => !p.skipped.isEmpty) = true →
      ⟨.bss, .event (.capacityShort true f w.needed w.demand (capacity (frameBody term b).fmon.geometry w.needed))⟩
        ∈ (frameBody term b).handed)
    ∧ ((frameBody term b).ses.session.carries = true →
      (frameBody term b).ses.session = .quiet ∧ (frameBody term b).ses.quiet.cadence = true) := by
  have sees := cadenceBase_sees opens term
  have work : cadenceWork term b = w := (cadenceWork_eq term b).trans (congrArg Prod.snd step)
  have moved : (cadenceStep (cadenceBase term b)).1 = moveFactor d f (cadenceBase term b) := congrArg Prod.fst step
  have bss := frameBody_bss term b
  rw [moved] at bss
  have factor : (frameBody term b).bss.factor = f := by rw [bss]; rfl
  refine ⟨factor, by rw [bss]; rfl, by rw [bss]; rfl, ?_, ?_, fun clear skips => ?_, fun carries => ?_⟩
  · rw [frameBody_skips, bss, work]
    unfold shortfallAfter
    rw [unfit]
    have before : (moveFactor d f (cadenceBase term b)).bss.shortfall = s.bss.shortfall := sees.shortfall
    rw [before]
    cases (planOf (planBase term b)).skipped.isEmpty <;> cases s.bss.shortfall <;> rfl
  · refine cadenced_mem ?_
    have mode := (frameBody_mode term b).1
    rw [moved, mode, ← sees.factor]
    exact List.mem_append_right _ (List.mem_singleton_self _)
  · have posted := skips_posts (term := term) (b := b) (by rw [moved]; exact sees.shortfall.trans clear) skips
    rw [factor, work] at posted
    exact posted
  · rw [frameBody_ses] at carries ⊢
    obtain ⟨up, state, quiet⟩ := sessionTaken_carries carries
    have reason : (cadenced term b).ses.quiet.cadence = true := by
      have ses : (cadenced term b).ses = (cadenceStep (cadenceBase term b)).1.ses := by
        unfold cadenced bssFrameStart
        dsimp only
        split <;> rfl
      rw [ses, moved]
      have session : (cadenceBase term b).ses.session = b.ses.session := by rw [sees.session, opens.ses]
      exact (congrArg SessionState.linkUp session).trans up
    rw [← quiet] at reason
    refine ⟨state.trans (if_neg fun e => ?_), reason⟩
    rw [e] at reason
    exact absurd reason (by decide)

end

/-- Settles O33: at a frame start with an announced factor the factor in force moves, to the announced one or to the needed
one. -/
theorem announcedFactor : Obligations.AnnouncedFactor := by
  intro i s t term f row run fresh settled announced fixed
  obtain ⟨b, opens, e⟩ := frameRow_opens row run fresh
  obtain ⟨hif, out, choices, finish⟩ := finishAnyOrder_spec (frameBody term b)
  have sees := cadenceBase_sees opens term
  have fmon := cadenceBase_fmon term b
  have dem := cadenceBase_demand opens term fixed
  have same := frameBody_mode term b
  have needed : ∀ d, neededFactor (cadenceBase term b).bss (cadenceBase term b).fmon.geometry d
      = neededFactor (frameBody term b).bss (frameBody term b).fmon.geometry d := fun d => by
    rw [neededFactor_congr same, fmon, frameBody_fmon]
  have geometry : (frameBody term b).fmon.geometry = (cadenceBase term b).fmon.geometry := by rw [frameBody_fmon, fmon]
  have step : ∃ w, cadenceStep (cadenceBase term b) = (moveFactor (demand (frameBody term b))
      (if isCandidate (frameBody term b).fmon.geometry s.bss.factor = true
          ∧ isCandidate (frameBody term b).fmon.geometry f = true then f
        else neededFactor (frameBody term b).bss (frameBody term b).fmon.geometry (demand (frameBody term b)))
      (cadenceBase term b), w) ∧ w.fits = false ∧ w.demand = demand (frameBody term b)
      ∧ w.needed = neededFactor (frameBody term b).bss (frameBody term b).fmon.geometry (demand (frameBody term b)) := by
    rw [← dem, ← needed, geometry, ← sees.factor]
    by_cases fit : isCandidate (cadenceBase term b).fmon.geometry (cadenceBase term b).bss.factor = true
        ∧ isCandidate (cadenceBase term b).fmon.geometry f = true
    · rw [if_pos fit, cadenceStep_taken (sees.announced.trans announced) (by rw [fit.1, fit.2]; rfl)]
      exact ⟨_, rfl, rfl, rfl, rfl⟩
    · have unfit : (isCandidate (cadenceBase term b).fmon.geometry (cadenceBase term b).bss.factor
          && isCandidate (cadenceBase term b).fmon.geometry f) = false :=
        Bool.eq_false_iff.2 fun h => fit ((Bool.and_eq_true _ _).mp h)
      rw [if_neg fit, cadenceStep_replaced (sees.announced.trans announced) unfit]
      exact ⟨_, rfl, rfl, rfl, rfl⟩
  obtain ⟨w, moves, unfit, wDemand, wNeeded⟩ := step
  obtain ⟨factor, none_, count, shortfall, changed, skipped, quiet⟩ := frame_moved opens moves unfit
  have reported : ∀ event : Event, s.listens event.kind = true → ⟨.bss, .event event⟩ ∈ (frameBody term b).handed →
      s.reports t event = true := fun event listens there => by
    rw [e]
    exact frame_reports opens term settled listens there
  rw [wDemand, wNeeded] at skipped
  have fields : t.bss = (frameBody term b).bss ∧ t.ses = (frameBody term b).ses ∧ t.fmon = (frameBody term b).fmon
      ∧ demand t = demand (frameBody term b) := by
    rw [e, finish]
    generalize frameBody term b = u
    exact ⟨rfl, rfl, rfl, rfl⟩
  obtain ⟨tBss, tSes, tFmon, tDemand⟩ := fields
  intro g d needed_ now_ skips
  simp only [skips, now_, needed_, d, g, tBss, tSes, tFmon, tDemand]
  refine ⟨factor, none_, count, shortfall, fun listens => reported _ listens changed, fun clear skip listens =>
    reported _ listens (skipped clear skip), fun carries => quiet ((SessionState.carries_iff _).2 carries)⟩

end Sys2Proof.Machine
end

section
/-!
PROOFS. The cadence decision of a frame start without an announced factor: rise, fall after sixteen frames, the factor in force
that is no candidate any more, and CAPACITY_SHORT.
-/

namespace Sys2Proof.Machine

set_option Elab.async false

/-! ### The decision (R105) -/

/-- Whether a decision changes the factor. -/
def Bss.changesTo (b : Bss) (needed : Nat) : Prop :=
  if b.mode = .fixed then needed ≠ b.factor else b.factor < needed ∨ (needed < b.factor ∧ 15 ≤ b.lowerFits)

theorem decideChange_changes (b : Bss) (needed : Nat) : (decideChange b needed).2 = true ↔ b.changesTo needed := by
  unfold decideChange Bss.changesTo
  cases mode : b.mode
  case fixed => simp
  all_goals
    simp only [reduceCtorEq, if_false]
    split
    · rename_i above
      exact iff_of_true rfl (.inl above)
    · split
      · rename_i above same
        exact iff_of_false Bool.false_ne_true (by omega)
      · split
        · rename_i above same few
          exact iff_of_false Bool.false_ne_true (by omega)
        · rename_i above same few
          exact iff_of_true rfl (by omega)

theorem decideChange_changed {b : Bss} {needed : Nat} (changes : b.changesTo needed) :
    decideChange b needed = (0, true) := by
  have flag := (decideChange_changes b needed).2 changes
  unfold decideChange at flag ⊢
  cases mode : b.mode <;> simp only [mode] at flag ⊢
  case fixed => rw [flag]
  all_goals
    split at flag
    · rename_i above
      rw [if_pos above]
    · rename_i above
      rw [if_neg above]
      split at flag
      · exact absurd flag Bool.false_ne_true
      · rename_i same
        rw [if_neg same]
        split at flag
        · exact absurd flag Bool.false_ne_true
        · rename_i many
          rw [if_neg many]

theorem decideChange_stays {b : Bss} {needed : Nat} (stays : ¬ b.changesTo needed) : decideChange b needed =
    (if b.mode ≠ .fixed ∧ needed < b.factor then b.lowerFits + 1 else 0, false) := by
  unfold Bss.changesTo at stays
  unfold decideChange
  cases mode : b.mode
  case fixed =>
    rw [if_pos mode, not_not] at stays
    simp [stays]
  all_goals
    rw [if_neg (by rw [mode]; decide)] at stays
    have low : ¬ b.factor < needed := fun h => stays (.inl h)
    simp only [if_neg low, ne_eq, reduceCtorEq, not_false_eq_true, true_and]
    split
    · rename_i same
      rw [if_neg (by omega)]
    · rename_i other
      rw [if_pos (by omega), if_pos (by omega)]

/-! ### What a decision reports (R106, R107) -/

/-- What the decision hands over: the change where the factor moves at once, and the shortage where it is new. -/
theorem cadenceDecision_posts (d needed : Nat) (s : State) :
    ((decideChange s.bss needed).2 = true → s.ses.session.linkUp = false →
      ⟨.bss, .event (cadenceEvent s d s.bss.factor needed)⟩ ∈ (cadenceDecision d needed s).1.handed)
    ∧ (s.bss.shortfall = false → ¬ d ≤ capacity s.fmon.geometry needed →
      ⟨.bss, .event (.capacityShort false (cadenceDecision d needed s).1.bss.factor needed d (capacity s.fmon.geometry needed))⟩
        ∈ (cadenceDecision d needed s).1.handed) := by
  have either : ∀ (e e' : Event) (s : State), ⟨.bss, .event e⟩ ∈ (postEither .bss e e' s).handed
      ∧ ⟨.bss, .event e'⟩ ∈ (postEither .bss e e' s).handed := by
    intro e e' s
    unfold postEither
    dsimp only
    split <;> simp
  rw [cadenceDecision_bss]
  unfold cadenceDecision
  extract_lets r fits short up moves src s1 change s2
  have change_posted : moves = true → ⟨.bss, .event change⟩ ∈ s2.handed := by
    intro h
    simp only [s2]
    rw [h]
    cases short
    · exact List.mem_append_right _ (List.mem_singleton_self _)
    · exact (either _ _ _).1
  have short_posted : short = true → ⟨.bss, .event (shortEvent false d needed s1)⟩ ∈ s2.handed := by
    intro h
    simp only [s2]
    rw [h]
    cases moves
    · exact List.mem_append_right _ (List.mem_singleton_self _)
    · exact (either _ _ _).2
  refine ⟨fun changes down => change_posted ?_, fun clear beyond => short_posted ?_⟩
  · simp [moves, r, up, changes, down]
  · simp [short, fits, clear, beyond]

/-! ### A frame start with a decision -/

section
variable {s b : State} (opens : FmonOpens s b) {term : Bool} {d needed : Nat}
  (step : cadenceStep (cadenceBase term b) = cadenceDecision d needed (cadenceBase term b))
include opens step

theorem decision_bss : (frameBody term b).bss = { (cadenceBase term b).bss with
    lowerFits := (decideChange (cadenceBase term b).bss needed).1
    announced := if (decideChange (cadenceBase term b).bss needed).2 && s.ses.session.linkUp then some needed else none
    factor := if (decideChange (cadenceBase term b).bss needed).2 && !s.ses.session.linkUp then needed else s.bss.factor
    plan := (frameBody term b).bss.plan
    shortfall := decide (¬ d ≤ capacity (cadenceBase term b).fmon.geometry needed
      ∨ (frameBody term b).bss.plan.any (fun p => !p.skipped.isEmpty) = true) } := by
  have sees := cadenceBase_sees opens term
  have bss := frameBody_bss term b
  have fits : (cadenceWork term b).fits = decide (d ≤ capacity (cadenceBase term b).fmon.geometry needed) := by
    rw [cadenceWork_eq, step]
    rfl
  have flag : ∀ skips before fit : Bool, (if skips = true then true else if fit = true then false else before || !fit)
      = (!fit || skips) := by decide
  have skipped : decide (¬ d ≤ capacity (cadenceBase term b).fmon.geometry needed
      ∨ (frameBody term b).bss.plan.any (fun p => !p.skipped.isEmpty) = true)
      = (!decide (d ≤ capacity (cadenceBase term b).fmon.geometry needed) || !(planOf (planBase term b)).skipped.isEmpty) := by
    rw [frameBody_skips, Bool.decide_or, decide_not, Bool.decide_eq_true]
  rw [step, cadenceDecision_bss, sees.session, sees.factor] at bss
  rw [skipped, frameBody_plan, bss]
  unfold shortfallAfter
  rw [fits, flag]

theorem decision_reports :
    (((decideChange (cadenceBase term b).bss needed).2 = true → s.ses.session.linkUp = false →
      ⟨.bss, .event (.cadenceChanged s.bss.factor needed (frameBody term b).bss.mode d)⟩ ∈ (frameBody term b).handed)
    ∧ (s.bss.shortfall = false → ¬ d ≤ capacity (frameBody term b).fmon.geometry needed →
      ⟨.bss, .event (.capacityShort false (frameBody term b).bss.factor needed d
        (capacity (frameBody term b).fmon.geometry needed))⟩ ∈ (frameBody term b).handed)
    ∧ (s.bss.shortfall = false → d ≤ capacity (frameBody term b).fmon.geometry needed →
      (frameBody term b).bss.plan.any (fun p => !p.skipped.isEmpty) = true →
      ⟨.bss, .event (.capacityShort true (frameBody term b).bss.factor needed d
        (capacity (frameBody term b).fmon.geometry needed))⟩ ∈ (frameBody term b).handed)) := by
  have sees := cadenceBase_sees opens term
  have mode := (frameBody_mode term b).1
  have geometry : (frameBody term b).fmon.geometry = (cadenceBase term b).fmon.geometry := by
    rw [frameBody_fmon, cadenceBase_fmon]
  have factor : (frameBody term b).bss.factor = (cadenceDecision d needed (cadenceBase term b)).1.bss.factor := by
    rw [frameBody_bss, step]
  obtain ⟨changed, short⟩ := cadenceDecision_posts d needed (cadenceBase term b)
  rw [← factor, ← geometry] at short
  refine ⟨fun changes down => cadenced_mem ?_, fun clear beyond => cadenced_mem ?_, fun clear fits skips => ?_⟩
  · rw [step, mode, ← sees.factor]
    exact changed changes ((congrArg SessionState.linkUp sees.session).trans down)
  · rw [step]
    exact short (sees.shortfall.trans clear) beyond
  · have work : (cadenceWork term b).needed = needed ∧ (cadenceWork term b).demand = d := by
      rw [cadenceWork_eq, step]
      exact ⟨rfl, rfl⟩
    have posted := skips_posts (term := term) (b := b) (by
      rw [step, cadenceDecision_bss]
      dsimp only
      rw [sees.shortfall, clear, ← geometry, decide_eq_true fits]
      rfl) skips
    rw [work.1, work.2] at posted
    exact posted

end

theorem linkUp_eq (x : SessionState) : x.linkUp = x.lanesOn := by cases x <;> rfl

/-- What the cadence work of a frame start without an announced factor sees, put in terms of the state before and after. -/
theorem cadenceBase_silent {s b : State} (opens : FmonOpens s b) (term : Bool)
    (fixed : ∀ e ∈ s.stt.entries.take 2, e.pending = none ∧ slotsFor e.payload.length = 1) (silent : s.bss.announced = none) :
    (isCandidate (frameBody term b).fmon.geometry s.bss.factor = true →
      cadenceStep (cadenceBase term b) = cadenceDecision (demand (frameBody term b))
        (neededFactor (frameBody term b).bss (frameBody term b).fmon.geometry (demand (frameBody term b))) (cadenceBase term b))
    ∧ (isCandidate (frameBody term b).fmon.geometry s.bss.factor = false →
      ∃ w, cadenceStep (cadenceBase term b) = (moveFactor (demand (frameBody term b))
        (neededFactor (frameBody term b).bss (frameBody term b).fmon.geometry (demand (frameBody term b))) (cadenceBase term b),
          w) ∧ w.fits = false) := by
  have sees := cadenceBase_sees opens term
  have geometry : (frameBody term b).fmon.geometry = (cadenceBase term b).fmon.geometry := by
    rw [frameBody_fmon, cadenceBase_fmon]
  rw [← cadenceBase_demand opens term fixed, neededFactor_congr (frameBody_mode term b), geometry, ← sees.factor]
  exact ⟨fun fit => cadenceStep_decides (sees.announced.trans silent) fit,
    fun unfit => ⟨_, cadenceStep_falls (sees.announced.trans silent) unfit, rfl⟩⟩

/-- A decision of the state before is one of what the cadence work sees. -/
theorem cadenceBase_changes {s b : State} (opens : FmonOpens s b) (term : Bool) (needed : Nat) :
    (cadenceBase term b).bss.changesTo needed ↔
      if (frameBody term b).bss.mode = .fixed then needed ≠ s.bss.factor else s.bss.factor < needed
        ∨ (needed < s.bss.factor ∧ 15 ≤ if s.bss.pending.isSome then 0 else s.bss.lowerFits) := by
  have sees := cadenceBase_sees opens term
  unfold Bss.changesTo
  rw [(frameBody_mode term b).1, sees.factor, sees.lowerFits]

section
variable {s b : State} (opens : FmonOpens s b) {term : Bool} {d needed : Nat}
  (step : cadenceStep (cadenceBase term b) = cadenceDecision d needed (cadenceBase term b))
include opens step

/-- A change is announced while the lanes are on, and takes effect at once while they are off (R107, R108). -/
theorem decision_changes (changes : (cadenceBase term b).bss.changesTo needed) :
    (frameBody term b).bss.lowerFits = 0
    ∧ (s.ses.session.lanesOn = true →
      (frameBody term b).bss.factor = s.bss.factor ∧ (frameBody term b).bss.announced = some needed)
    ∧ (¬ s.ses.session.lanesOn = true →
      (frameBody term b).bss.factor = needed ∧ (frameBody term b).bss.announced = none) := by
  have bss := decision_bss opens step
  rw [decideChange_changed changes, linkUp_eq] at bss
  generalize frameBody term b = u at bss ⊢
  refine ⟨by rw [bss], fun up => ?_, fun down => ?_⟩
  · rw [up] at bss
    rw [bss]
    exact ⟨rfl, rfl⟩
  · rw [Bool.eq_false_iff.2 down] at bss
    rw [bss]
    exact ⟨rfl, rfl⟩

theorem decision_stays (stays : ¬ (cadenceBase term b).bss.changesTo needed) :
    (frameBody term b).bss.factor = s.bss.factor ∧ (frameBody term b).bss.announced = none
    ∧ (frameBody term b).bss.lowerFits = (if (frameBody term b).bss.mode ≠ .fixed ∧ needed < s.bss.factor
      then (if s.bss.pending.isSome then 0 else s.bss.lowerFits) + 1 else 0) := by
  have sees := cadenceBase_sees opens term
  have mode := (frameBody_mode term b).1
  have bss := decision_bss opens step
  rw [decideChange_stays stays, sees.factor, sees.lowerFits, ← mode] at bss
  generalize frameBody term b = u at bss ⊢
  exact ⟨by rw [bss]; rfl, by rw [bss]; rfl, congrArg Bss.lowerFits bss⟩

end

/-- Settles O34. -/
theorem cadenceDecisions : Obligations.CadenceDecisions := by
  intro i s t term row run fresh settled silent fixed
  obtain ⟨b, opens, e⟩ := frameRow_opens row run fresh
  obtain ⟨hif, out, choices, finish⟩ := finishAnyOrder_spec (frameBody term b)
  obtain ⟨decides, falls⟩ := cadenceBase_silent opens term fixed silent
  have reported : ∀ event : Event, s.listens event.kind = true → ⟨.bss, .event event⟩ ∈ (frameBody term b).handed →
      s.reports t event = true := fun event listens there => by
    rw [e]
    exact frame_reports opens term settled listens there
  have fields : t.bss = (frameBody term b).bss ∧ t.ses = (frameBody term b).ses ∧ t.fmon = (frameBody term b).fmon
      ∧ demand t = demand (frameBody term b) := by
    rw [e, finish]
    generalize frameBody term b = u
    exact ⟨rfl, rfl, rfl, rfl⟩
  obtain ⟨tBss, tSes, tFmon, tDemand⟩ := fields
  have geometry : (cadenceBase term b).fmon.geometry = t.fmon.geometry := by rw [cadenceBase_fmon, tFmon, frameBody_fmon]
  rw [← tBss, ← tFmon, ← tDemand] at decides falls
  intro g d needed old count changes up fits skips changed
  refine ⟨fun fit => ?_, fun unfit => ?_⟩
  · have step := decides fit
    have flag := cadenceBase_changes opens term needed
    have changing := decision_changes opens step
    have staying := decision_stays opens step
    obtain ⟨moved, short, skipped⟩ := decision_reports opens step
    have shortfall := congrArg Bss.shortfall (decision_bss opens step)
    rw [← tBss] at moved
    rw [← tBss, ← tFmon] at short skipped
    rw [← tBss] at changing staying flag shortfall
    rw [geometry] at shortfall
    refine ⟨fun change on => ?_, fun change off => ?_, fun stays => staying (fun h => stays (flag.1 h)), shortfall,
      fun clear listens => ⟨fun beyond => reported _ listens (short clear beyond), fun fit skip =>
        reported _ listens (skipped clear fit skip)⟩⟩
    · obtain ⟨count, announced, -⟩ := changing (flag.2 change)
      exact ⟨(announced on).1, (announced on).2, count⟩
    · obtain ⟨count, -, taken⟩ := changing (flag.2 change)
      refine ⟨(taken off).1, (taken off).2, count, fun listens => reported _ listens (moved ?_ ?_)⟩
      · exact (decideChange_changes _ _).2 (flag.2 change)
      · rw [linkUp_eq]
        exact Bool.eq_false_iff.2 off
  · obtain ⟨w, step, open_⟩ := falls unfit
    obtain ⟨factor, none_, count, shortfall, moved, -, quiet⟩ := frame_moved opens step open_
    rw [← tBss] at factor none_ count shortfall moved
    rw [← tSes] at quiet
    exact ⟨factor, none_, count, fun listens => reported _ listens moved,
      fun _ carries => quiet ((SessionState.carries_iff _).2 carries), shortfall⟩

end Sys2Proof.Machine
end

section
/-!
PROOFS. Where packets go in a frame: the least position at or after the cursor from which the slots lie on one line.
-/

namespace Sys2Proof.Machine

set_option Elab.async false

/-! ### Positions on one line (R100) -/

/-- The slots from p on, n of them, lie on one line of a stretch of lines of width w that begins at start and ends at stop. -/
def onLine (start w stop n p : Nat) : Prop := start ≤ p ∧ p + n ≤ stop ∧ (p - start) / w = (p + n - 1 - start) / w

/-- p is the least position from c on with the property. -/
def leastFrom (P : Nat → Prop) (c p : Nat) : Prop := c ≤ p ∧ P p ∧ ∀ q, c ≤ q → q < p → ¬ P q

theorem leastFrom_congr {P Q : Nat → Prop} {c p : Nat} (h : ∀ q, P q ↔ Q q) : leastFrom P c p ↔ leastFrom Q c p := by
  simp only [leastFrom, h]

/-- n slots from r on stay on the line exactly if what is left of it has room. -/
theorem sameLine_iff {w n r : Nat} (pos : 0 < w) (some_ : 1 ≤ n) : r / w = (r + n - 1) / w ↔ r % w + n ≤ w := by
  have split_ := Nat.div_add_mod r w
  have low := Nat.mod_lt r pos
  have quotient : (r + n - 1) / w = r / w + (r % w + n - 1) / w := by
    have e : r + n - 1 = r % w + n - 1 + w * (r / w) := by omega
    rw [e, Nat.add_mul_div_left _ _ pos, Nat.add_comm]
  rw [quotient]
  constructor
  · intro h
    have zero : (r % w + n - 1) / w = 0 := by omega
    have within := (Nat.div_eq_zero_iff_lt pos).1 zero
    omega
  · intro h
    rw [Nat.div_eq_of_lt (by omega : r % w + n - 1 < w)]
    rfl

theorem onLine_iff {start w stop n p : Nat} (pos : 0 < w) (some_ : 1 ≤ n) :
    onLine start w stop n p ↔ start ≤ p ∧ p + n ≤ stop ∧ (p - start) % w + n ≤ w := by
  unfold onLine
  refine and_congr_right fun begins => and_congr_right fun _ => ?_
  have e : p + n - 1 - start = p - start + n - 1 := by omega
  rw [e, sameLine_iff pos some_]

/-- Up to the head of the next line a position goes on along its own. -/
theorem mod_within {w c q : Nat} (pos : 0 < w) (after : c ≤ q) (before : q < c - c % w + w) :
    q % w = c % w + (q - c) := by
  have split_ := Nat.div_add_mod c w
  have low := Nat.mod_lt c pos
  have e : q = c % w + (q - c) + w * (c / w) := by omega
  have small : c % w + (q - c) < w := by omega
  conv_lhs => rw [e]
  rw [Nat.add_mul_mod_self_left, Nat.mod_eq_of_lt small]

theorem mod_next {w c : Nat} : (c - c % w + w) % w = 0 := by
  have split_ := Nat.div_add_mod c w
  have e : c - c % w + w = w * (c / w) + w * 1 := by omega
  rw [e, ← Nat.mul_add, Nat.mul_mod_right]

section
variable {start w lines c n : Nat} (some_ : 1 ≤ n) (begun : start ≤ c)
include some_

theorem onLine_none (narrow : w = 0 ∨ w < n) (p : Nat) : ¬ onLine start w (start + lines * w) n p := by
  rintro ⟨begins, ends, same⟩
  rcases Nat.eq_zero_or_pos w with zero | pos
  · rw [zero] at ends
    omega
  · have fits := ((onLine_iff (stop := start + lines * w) pos some_).1 ⟨begins, ends, same⟩).2.2
    omega

include begun

omit some_ in
/-- Before the position that placeIn tries, no line has room. -/
theorem placeIn_tries (pos : 0 < w) (room : n ≤ w) :
    let off := (c - start) % w
    let p := if off + n ≤ w then c else c - off + w
    c ≤ p ∧ (p - start) % w + n ≤ w ∧ ∀ q, c ≤ q → q < p → ¬ (q - start) % w + n ≤ w := by
  intro off p
  have low : off < w := Nat.mod_lt _ pos
  have below : off ≤ c - start := Nat.mod_le _ _
  by_cases fits : off + n ≤ w
  · have e : p = c := if_pos fits
    rw [e]
    exact ⟨Nat.le_refl c, fits, fun q after before => absurd before (Nat.not_lt.2 after)⟩
  · have e : p = c - off + w := if_neg fits
    rw [e]
    refine ⟨by omega, ?_, fun q after before => ?_⟩
    · have head : c - off + w - start = c - start - off + w := by omega
      rw [head, mod_next]
      omega
    · have along : (q - start) % w = off + (q - start - (c - start)) := mod_within pos (by omega) (by omega)
      rw [along]
      omega

/-- What placeIn gives is the least position on one line; with none it gives none (R100). -/
theorem placeIn_spec :
    (∀ p, placeIn start w lines c n = some p → leastFrom (onLine start w (start + lines * w) n) c p)
    ∧ (placeIn start w lines c n = none → ∀ q, c ≤ q → ¬ onLine start w (start + lines * w) n q) := by
  by_cases narrow : w = 0 ∨ w < n
  · have e : placeIn start w lines c n = none := by
      unfold placeIn
      exact if_pos narrow
    exact ⟨fun p h => absurd (e.symm.trans h) nofun, fun _ q _ => onLine_none some_ narrow q⟩
  · have pos : 0 < w := by omega
    obtain ⟨after, line, before⟩ := placeIn_tries (start := start) (c := c) (n := n) begun pos (by omega)
    have e : placeIn start w lines c n
        = if (if (c - start) % w + n ≤ w then c else c - (c - start) % w + w) + n ≤ start + lines * w
          then some (if (c - start) % w + n ≤ w then c else c - (c - start) % w + w) else none := by
      unfold placeIn
      exact if_neg narrow
    generalize (if (c - start) % w + n ≤ w then c else c - (c - start) % w + w) = x at after line before e
    rw [e]
    by_cases ends : x + n ≤ start + lines * w
    · rw [if_pos ends]
      refine ⟨fun p h => ?_, nofun⟩
      obtain rfl := Option.some.inj h
      refine ⟨after, (onLine_iff pos some_).2 ⟨begun.trans after, ends, line⟩, fun q low high h => ?_⟩
      exact before q low high ((onLine_iff pos some_).1 h).2.2
    · rw [if_neg ends]
      refine ⟨nofun, fun _ q low h => ?_⟩
      obtain ⟨-, stop, same⟩ := (onLine_iff pos some_).1 h
      have late : x ≤ q := Nat.le_of_not_lt fun high => before q low high same
      omega

end

/-- A position on one line of the frame, in vertical blanking or in the active lines. -/
theorem onOneLine_iff (g : Geometry) (f p n : Nat) : onOneLine g f p n = true ↔
    onLine 0 (blankSlots g f) (0 + (g.vt - g.va) * blankSlots g f) n p
    ∨ onLine ((g.vt - g.va) * blankSlots g f) (activeSlots g f)
      ((g.vt - g.va) * blankSlots g f + g.va * activeSlots g f) n p := by
  unfold onOneLine onLine capacity
  rw [Nat.zero_add, Nat.add_comm (g.va * activeSlots g f)]
  simp only [Bool.or_eq_true, decide_eq_true_eq]

theorem leastFrom_unique {P : Nat → Prop} {c p q : Nat} (h : leastFrom P c p) (k : leastFrom P c q) : p = q := by
  obtain ⟨after, here, before⟩ := h
  obtain ⟨after', here', before'⟩ := k
  exact Nat.le_antisymm (Nat.le_of_not_lt fun low => before q after' low here')
    (Nat.le_of_not_lt fun low => before' p after low here)

/-- A packet goes to the least position at or after the cursor from which its slots lie on one line (R100). -/
theorem placeAt_iff (g : Geometry) (f c n p : Nat) (some_ : 1 ≤ n) : placeAt g f c n = some p ↔
    leastFrom (fun q => onOneLine g f q n = true) c p := by
  rw [leastFrom_congr (fun q => onOneLine_iff g f q n)]
  obtain ⟨blankSome, blankNone⟩ := placeIn_spec (start := 0) (w := blankSlots g f) (lines := g.vt - g.va) (c := c) some_ (Nat.zero_le c)
  obtain ⟨activeSome, activeNone⟩ := placeIn_spec (start := (g.vt - g.va) * blankSlots g f) (w := activeSlots g f) (lines := g.va)
    (c := max c ((g.vt - g.va) * blankSlots g f)) some_ (Nat.le_max_right _ _)
  rcases first : placeIn 0 (blankSlots g f) (g.vt - g.va) c n with _ | x
  · have e : placeAt g f c n = placeIn ((g.vt - g.va) * blankSlots g f) (activeSlots g f) g.va
        (max c ((g.vt - g.va) * blankSlots g f)) n := by
      unfold placeAt
      dsimp only
      rw [first]
    have none_ := blankNone first
    rw [e]
    constructor
    · intro h
      obtain ⟨after, here, before⟩ := activeSome p h
      refine ⟨(Nat.le_max_left _ _).trans after, .inr here, fun q low high there => ?_⟩
      rcases there with blank | active
      · exact none_ q low blank
      · exact before q (Nat.max_le.2 ⟨low, active.1⟩) high active
    · rintro ⟨after, here, before⟩
      have active : onLine ((g.vt - g.va) * blankSlots g f) (activeSlots g f)
          ((g.vt - g.va) * blankSlots g f + g.va * activeSlots g f) n p := here.resolve_left (none_ p after)
      rcases second : placeIn ((g.vt - g.va) * blankSlots g f) (activeSlots g f) g.va (max c ((g.vt - g.va) * blankSlots g f)) n
        with _ | y
      · exact absurd active (activeNone second p (Nat.max_le.2 ⟨after, active.1⟩))
      · have least : leastFrom (onLine ((g.vt - g.va) * blankSlots g f) (activeSlots g f)
            ((g.vt - g.va) * blankSlots g f + g.va * activeSlots g f) n) (max c ((g.vt - g.va) * blankSlots g f)) p :=
          ⟨Nat.max_le.2 ⟨after, active.1⟩, active, fun q low high there =>
            before q ((Nat.le_max_left _ _).trans low) high (.inr there)⟩
        rw [leastFrom_unique (activeSome y second) least]
  · have e : placeAt g f c n = some x := by
      unfold placeAt
      dsimp only
      rw [first]
    obtain ⟨after, here, before⟩ := blankSome x first
    have least : leastFrom (fun q => onLine 0 (blankSlots g f) (0 + (g.vt - g.va) * blankSlots g f) n q
        ∨ onLine ((g.vt - g.va) * blankSlots g f) (activeSlots g f)
          ((g.vt - g.va) * blankSlots g f + g.va * activeSlots g f) n q) c x := by
      refine ⟨after, .inl here, fun q low high there => ?_⟩
      rcases there with blank | active
      · exact before q low high blank
      · have ends := here.2.1
        have begins := active.1
        omega
    rw [e]
    constructor
    · intro h
      obtain rfl := Option.some.inj h
      exact least
    · intro h
      rw [leastFrom_unique least h]

end Sys2Proof.Machine
end

section
/-!
PROOFS. The link frame that a frame start opens: the only one of its step, sent once the plan stands.
-/

namespace Sys2Proof.Machine

set_option Elab.async false

/-- The outputs that are link frames. -/
def Output.isFrame : Output → Bool
  | .linkFrame .. => true
  | _ => false

/-- The packets that an output carries. -/
def Output.packets : Output → List (List Byte)
  | .linkFrame _ _ _ _ ps => ps
  | _ => []

/-- From s to t no link frame is sent, and nothing that was sent is unsent. -/
def NoFrame (s t : State) : Prop := ∃ new, t.out = s.out ++ new ∧ new.filter Output.isFrame = []

theorem NoFrame.of_same {s t : State} (h : t.out = s.out) : NoFrame s t := ⟨[], by rw [h, List.append_nil], rfl⟩

theorem NoFrame.refl (s : State) : NoFrame s s := .of_same rfl

theorem NoFrame.trans {a b c : State} (h : NoFrame a b) (k : NoFrame b c) : NoFrame a c := by
  obtain ⟨x, hx, fx⟩ := h
  obtain ⟨y, hy, fy⟩ := k
  exact ⟨x ++ y, by rw [hy, hx, List.append_assoc], by rw [List.filter_append, fx, fy]; rfl⟩

theorem emit_noFrame {o : Output} (h : o.isFrame = false) (s : State) : NoFrame s (emit o s) :=
  ⟨[o], rfl, by rw [List.filter_cons_of_neg (by rw [h]; decide)]; rfl⟩

theorem setSession_noFrame (new : SessionState) (cause : SessionCause) (s : State) : NoFrame s (setSession new cause s) := by
  rw [setSession_eq]
  refine ⟨_, rfl, ?_⟩
  split <;> rfl

/-! ### SES's changes -/

/-- SES's changes at a frame start are steps of these kinds, and at their end the QUIETs and RESUMEs that wait complete. -/
theorem sesFrameStart_rel {R : State → State → Prop} (refl : ∀ s, R s s) (trans : ∀ {a b c}, R a b → R b c → R a c)
    (changed : ∀ new cause s, R s (setSession new cause s)) (ended : ∀ st s, R s (endStartLink st s))
    (cleared : ∀ s, R s (updEntry 0 (fun e => { e with miss := 0 }) s)) (placed : ∀ i training s, R s (lcPlace i training s))
    (counted : ∀ s count frames cursor seen check, R s { s with ses := { s.ses with
      trainCount := count, linkFrames := frames, cursor := cursor, lockSeen := seen, linkCheck := check } })
    (restart : Bool) (s : State) : ∃ u, sesFrameStart restart s = completeQuiets u ∧ R s u := by
  have lost : ∀ s : State, R s (terminationLoss s) := by
    intro s
    unfold terminationLoss
    split
    · exact trans (ended _ s) (changed ..)
    · exact changed ..
    · exact changed ..
    · exact refl s
  have locked : R s (linkLocked s) := by
    unfold linkLocked
    extract_lets s1 s2
    have marked : R s1 s2 := by
      simp only [s2]
      split
      · exact cleared s1
      · exact refl s1
    exact trans (trans (ended .ok s) marked) (trans (counted s2 s2.ses.trainCount 0 63 s2.ses.lockSeen s2.ses.linkCheck)
      (changed ..))
  have count : R s (countTraining s) := by
    unfold countTraining
    extract_lets n src s1
    have same : R s s1 := counted s n s.ses.linkFrames s.ses.cursor s.ses.lockSeen s.ses.linkCheck
    split
    · exact trans same (trans (ended _ s1) (changed ..))
    · split
      · exact trans same (placed ..)
      · exact same
  have trained : R s (trainingStep restart s) := by
    unfold trainingStep
    split
    · exact lost s
    · split
      · exact counted s 0 s.ses.linkFrames s.ses.cursor false _
      · split
        · exact locked
        · exact count
  have carried : R s (carryingStep s) := by
    unfold carryingStep
    split
    · exact lost s
    · refine trans (counted s s.ses.trainCount (s.ses.linkFrames + 1) s.ses.cursor s.ses.lockSeen s.ses.linkCheck) ?_
      unfold judgeQuiet
      split
      · exact changed ..
      · exact changed ..
      · exact refl _
  unfold sesFrameStart
  split
  · exact ⟨_, rfl, trained⟩
  · exact ⟨_, rfl, carried⟩
  · exact ⟨_, rfl, carried⟩
  · exact ⟨_, rfl, refl s⟩

theorem sesFrameStart_noFrame (restart : Bool) (s : State) : NoFrame s (sesFrameStart restart s) := by
  obtain ⟨u, e, kept⟩ := sesFrameStart_rel .refl .trans setSession_noFrame
    (fun st s => .of_same ((endStartLink_touches st s).out.resolve_left (by decide))) (fun _ => .of_same rfl)
    (fun i training s => .of_same ((lcPlace_touches i training s).out.resolve_left (by decide)))
    (fun _ _ _ _ _ _ => .of_same rfl) restart s
  rw [e]
  exact kept.trans (.of_same ((completeQuiets_touches u).out.resolve_left (by decide)))

/-- Before its link frame a frame start sends none. -/
theorem planned_noFrame {s b : State} (opens : FmonOpens s b) (term : Bool) : NoFrame s (planned (planBase term b)) := by
  have before : NoFrame s (cadenced term b) := .of_same (((cadenced_touches term b).out.resolve_left (by decide)).trans
    (opens.touches.out.resolve_left (by decide)))
  have taken : NoFrame s (sessionTaken term b) := by
    rw [sessionTaken_eq]
    have changed := before.trans (sesFrameStart_noFrame (cadenceWork term b).restart (cadenced term b))
    split
    · exact changed.trans (.of_same ((issueLinkCheck_touches _).out.resolve_left (by decide)))
    · exact changed
  exact (taken.trans (.of_same ((planBase_touches term b).out.resolve_left (by decide)))).trans
    (.of_same ((planned_touches _).out.resolve_left (by decide)))

/-! ### HIF's writing of records -/

theorem raiseCause_noFrame (c : CauseBit) (s : State) : NoFrame s (raiseCause c s) := by
  unfold raiseCause
  dsimp only
  have sent : NoFrame s (if s.hif.causeEmpty && s.hif.irqEn && s.pins.msiEnable then emit .msi s else s) := by
    split
    · exact emit_noFrame rfl s
    · exact .refl s
  cases c <;> exact sent.trans (.of_same rfl)

theorem putEvent_noFrame (e : Event) (s : State) : NoFrame s (putEvent e s) := by
  unfold putEvent
  split
  · exact (NoFrame.trans (b := { s with hif := _ }) (.of_same rfl) (emit_noFrame rfl _)).trans (raiseCause_noFrame ..)
  · exact .refl s

theorem writeEvent_noFrame (e : Event) (s : State) : NoFrame s (writeEvent e s) := by
  have overrun : NoFrame s (putOverrun s) := by
    unfold putOverrun
    split
    · split
      · exact NoFrame.trans (b := { s with hif := _ }) (.of_same rfl) (putEvent_noFrame ..)
      · exact .refl s
    · exact .refl s
  have counted : ∀ s : State, NoFrame s (writeOrCount e s) := by
    intro s
    unfold writeOrCount
    split
    · split
      · exact putEvent_noFrame e s
      · exact .of_same rfl
    · exact .refl s
  unfold writeEvent
  split
  · exact .refl s
  · exact overrun.trans (counted _)

theorem deliver_noFrame (s : State) (x : Handed) : NoFrame s (deliver s x) := by
  unfold deliver
  split
  · unfold writeCompletion
    split
    · split
      · exact (NoFrame.trans (b := { s with hif := _ }) (.of_same rfl) (emit_noFrame rfl _)).trans (raiseCause_noFrame ..)
      · exact .refl s
    · exact .refl s
  · exact writeEvent_noFrame ..

theorem finishAnyOrder_noFrame (s : State) : NoFrame s (finishAnyOrder s) := by
  have fold : ∀ (l : List Handed) (s : State), NoFrame s (l.foldl deliver s) := by
    intro l
    induction l with
    | nil => exact fun s => .refl s
    | cons x l ih => exact fun s => (deliver_noFrame s x).trans (ih _)
  obtain ⟨l, c, -, e⟩ := finishAnyOrder_finishes s
  rw [e]
  exact NoFrame.trans (b := { s with handed := [], choices := c }) (.of_same rfl) (fold l _)

/-! ### The frame opened (R7) -/

/-- The packets that the frame carries: those of the plan, while the session carries (R7). -/
def framePackets (v : State) : List (List Byte) := if v.ses.session.carries then (packetsTaken v).sent else []

/-- The link frame that a frame start opens, if the lanes are on. -/
def frameOutput (term : Bool) (b : State) : List Output :=
  if (frameBody term b).ses.lanes then
    [.linkFrame (frameBody term b).fmon.fsn (linkContent (frameBody term b)) (frameBody term b).bss.factor
      (frameBody term b).fmon.geometry (framePackets (planBase term b))]
  else []

theorem sendFrame_out (packets : List (List Byte)) (s : State) : (sendFrame packets s).out = s.out ++ (if s.ses.lanes then
    [.linkFrame s.fmon.fsn (linkContent s) s.bss.factor s.fmon.geometry (if s.ses.session.carries then packets else [])]
    else []) := by
  unfold sendFrame
  split
  · rfl
  · exact (List.append_nil _).symm

theorem frameBody_out (term : Bool) (b : State) :
    (frameBody term b).out = (planned (planBase term b)).out ++ frameOutput term b := by
  have sent := sendFrame_touches (packetsTaken (planBase term b)).sent
    (judgeSkips (cadenceWork term b) (!(planOf (planBase term b)).skipped.isEmpty) (planned (planBase term b)))
  have e : frameBody term b = sendFrame (packetsTaken (planBase term b)).sent
    (judgeSkips (cadenceWork term b) (!(planOf (planBase term b)).skipped.isEmpty) (planned (planBase term b))) := buildPlan_eq _ _
  have session : (frameBody term b).ses = (planBase term b).ses := (buildPlan_touches _ _).ses.resolve_left (by decide)
  have out := sendFrame_out (packetsTaken (planBase term b)).sent
    (judgeSkips (cadenceWork term b) (!(planOf (planBase term b)).skipped.isEmpty) (planned (planBase term b)))
  rw [← sent.ses.resolve_left (by decide), ← sent.fmon.resolve_left (by decide), ← sent.bss.resolve_left (by decide),
    (judgeSkips_touches _ _ _).out.resolve_left (by decide)] at out
  have content : linkContent (judgeSkips (cadenceWork term b) (!(planOf (planBase term b)).skipped.isEmpty)
      (planned (planBase term b))) = linkContent (frameBody term b) := by
    unfold linkContent
    rw [e, sent.ses.resolve_left (by decide), sent.pxp.resolve_left (by decide)]
  rw [content, ← e, session] at out
  unfold frameOutput framePackets
  rw [session]
  exact out

/-- What a frame start sends: one link frame, or none with the lanes off. -/
theorem frame_sent {s b : State} (opens : FmonOpens s b) (term : Bool) :
    s.out <+: (finishAnyOrder (frameBody term b)).out
    ∧ s.framesTo (finishAnyOrder (frameBody term b)) = frameOutput term b
    ∧ s.packetsTo (finishAnyOrder (frameBody term b))
      = if (frameBody term b).ses.lanes then framePackets (planBase term b) else [] := by
  obtain ⟨before, outBefore, noneBefore⟩ := planned_noFrame opens term
  obtain ⟨after, outAfter, noneAfter⟩ := finishAnyOrder_noFrame (frameBody term b)
  rw [frameBody_out, outBefore, List.append_assoc, List.append_assoc] at outAfter
  have sent := sentTo_append outAfter
  have frames : s.framesTo (finishAnyOrder (frameBody term b))
      = (s.sentTo (finishAnyOrder (frameBody term b))).filter Output.isFrame := rfl
  have own : (frameOutput term b).filter Output.isFrame = frameOutput term b := by
    unfold frameOutput
    split <;> rfl
  have carried : ∀ l : List Output, l.flatMap Output.packets = (l.filter Output.isFrame).flatMap Output.packets := by
    intro l
    induction l with
    | nil => rfl
    | cons o l ih =>
      rw [List.flatMap_cons, ih]
      cases o <;> rfl
  have filtered : (s.sentTo (finishAnyOrder (frameBody term b))).filter Output.isFrame = frameOutput term b := by
    rw [sent, List.filter_append, List.filter_append, noneBefore, noneAfter, own, List.nil_append, List.append_nil]
  refine ⟨⟨_, outAfter.symm⟩, frames.trans filtered, ?_⟩
  have packets : s.packetsTo (finishAnyOrder (frameBody term b))
      = (s.sentTo (finishAnyOrder (frameBody term b))).flatMap Output.packets := rfl
  rw [packets, carried, filtered]
  unfold frameOutput
  split
  · exact List.append_nil _
  · rfl

end Sys2Proof.Machine
end

section
/-!
PROOFS. The third stage of the plan: which packets leave their queues, where they are placed, with which tags, and at which
packet each class stops.
-/

namespace Sys2Proof.Machine

set_option Elab.async false

/-! ### Packets placed one after another -/

/-- The packet takes a tag of entry j at its placement: acknowledged, for that tile, and not placed before (R82, R134). -/
def Packet.fresh (j : Nat) (q : Packet) : Bool := q.ack && q.tag.isNone && decide (q.target ≠ .broadcast ∧ q.target.index = j)

/-- How many tags of entry j the first k of these packets take. -/
def freshCount (l : List Packet) (j k : Nat) : Byte := BitVec.ofNat 8 ((l.take k).filter (Packet.fresh j)).length

/-- The packet at place k of a row that is placed in the frame with this FSN, the entries' next tags being as given (R134). -/
def afterPlaced (tags : Nat → Byte) (now : Fsn) (l : List Packet) (k : Nat) (q : Packet) : Packet :=
  { q with
    attempts := q.attempts + 1, placed := some now, due := false
    tag := if q.fresh q.target.index then some (tags q.target.index + freshCount l q.target.index k) else q.tag }

/-- The row of packets as they are once placed. -/
def placedRow (tags : Nat → Byte) (now : Fsn) (l : List Packet) : List Packet := l.mapIdx (afterPlaced tags now l)

/-- The next tag of every entry. -/
def State.nextTags (s : State) (j : Nat) : Byte := (entryAt s j).nextTag

theorem freshCount_append (l l' : List Packet) (j k : Nat) :
    freshCount (l ++ l') j (k + l.length) = freshCount l j l.length + freshCount l' j k := by
  unfold freshCount
  rw [Nat.add_comm k, List.take_length_add_append, List.take_length, List.filter_append, List.length_append, BitVec.ofNat_add]

theorem placedRow_append (tags : Nat → Byte) (now : Fsn) (l l' : List Packet) : placedRow tags now (l ++ l') =
    placedRow tags now l ++ placedRow (fun j => tags j + freshCount l j l.length) now l' := by
  unfold placedRow
  rw [List.mapIdx_append]
  congr 1
  · refine List.mapIdx_eq_mapIdx_iff.2 (fun k within => ?_)
    unfold afterPlaced freshCount
    rw [List.take_append_of_le_length (Nat.le_of_lt within)]
  · refine List.mapIdx_eq_mapIdx_iff.2 (fun k within => ?_)
    unfold afterPlaced
    rw [freshCount_append, BitVec.add_assoc]

theorem placedRow_acks (tags : Nat → Byte) (now : Fsn) (l : List Packet) :
    ((placedRow tags now l).filter (·.ack)).length = (l.filter (·.ack)).length := by
  have acks : (placedRow tags now l).map (·.ack) = l.map (·.ack) := by
    refine List.ext_getElem? fun k => ?_
    rw [placedRow, List.getElem?_map, List.getElem?_mapIdx, List.getElem?_map]
    cases l[k]? <;> rfl
  have count : ∀ r : List Packet, (r.filter (·.ack)).length = ((r.map (·.ack)).filter id).length := by
    intro r
    rw [List.filter_map, List.length_map]
    rfl
  rw [count, count, acks]

theorem placedRow_length (tags : Nat → Byte) (now : Fsn) (l : List Packet) : (placedRow tags now l).length = l.length :=
  List.length_mapIdx

theorem layAll_append (g : Geometry) (f c : Nat) (l l' : List Nat) :
    layAll g f c (l ++ l') = layAll g f (layAll g f c l) l' := by
  induction l generalizing c with
  | nil => rfl
  | cons n l ih => exact ih _

theorem targetHeld_congr {s t : State} (rwk : s.rwk = t.rwk) (g : Target) : targetHeld s g = targetHeld t g := by
  cases g with
  | tile i n =>
    unfold targetHeld entryAt
    rw [rwk]
  | broadcast => rfl

/-- From x to y the packets of this row are placed, in this order, and others may complete. -/
structure PlacesRow (x : Selection) (l : List Packet) (y : Selection) : Prop where
  layout : KeepsLayout x.state y.state
  holds : ∀ t, targetHeld y.state t = targetHeld x.state t
  there : ∀ q ∈ l, targetHeld x.state q.target = true
  cursor : y.cursor = layAll x.state.fmon.geometry x.state.bss.factor x.cursor (l.map Packet.slots)
  placed : y.placed = x.placed ++ l.map (fun q => ⟨q.target.address, q.slots⟩)
  fits : ∀ k q, l[k]? = some q →
    (placeAt x.state.fmon.geometry x.state.bss.factor
      (layAll x.state.fmon.geometry x.state.bss.factor x.cursor ((l.take k).map Packet.slots)) q.slots).isSome = true
    ∧ (q.ack = true → x.state.apq.awaiting.length + ((l.take k).filter (·.ack)).length < 16)
  awaiting : y.state.apq.awaiting
    = x.state.apq.awaiting ++ (placedRow x.state.nextTags x.state.fmon.fsn l).filter (·.ack)
  sent : y.sent = x.sent ++ (placedRow x.state.nextTags x.state.fmon.fsn l).map (addressedBytes · x.state.fmon.fsn)
  tags : ∀ j, y.state.nextTags j = x.state.nextTags j + freshCount l j l.length
  handed : ∀ h ∈ x.state.handed, h ∈ y.state.handed
  ends : ∀ q ∈ placedRow x.state.nextTags x.state.fmon.fsn l, q.ack = false → sendItem .ok q ∈ y.state.handed

/-- No packet is placed. -/
theorem PlacesRow.idle {x y : Selection} (layout : KeepsLayout x.state y.state) (rwk : y.state.rwk = x.state.rwk)
    (cursor : y.cursor = x.cursor) (placed : y.placed = x.placed) (sent : y.sent = x.sent)
    (awaiting : y.state.apq.awaiting = x.state.apq.awaiting) (handed : ∀ h ∈ x.state.handed, h ∈ y.state.handed) :
    PlacesRow x [] y where
  layout := layout
  holds t := targetHeld_congr rwk t
  there _ h := nomatch h
  cursor := cursor
  placed := by rw [placed, List.map_nil, List.append_nil]
  fits k q h := by simp at h
  awaiting := by simpa [placedRow] using awaiting
  sent := by simpa [placedRow] using sent
  tags j := by simp [State.nextTags, entryAt, rwk, freshCount]
  handed := handed
  ends q h := by simp [placedRow] at h

theorem PlacesRow.trans {x y z : Selection} {l l' : List Packet} (h : PlacesRow x l y) (k : PlacesRow y l' z) :
    PlacesRow x (l ++ l') z := by
  obtain ⟨fmon, bss⟩ := h.layout
  have awaitingLength : y.state.apq.awaiting.length = x.state.apq.awaiting.length + (l.filter (·.ack)).length := by
    rw [h.awaiting, List.length_append, placedRow_acks]
  have tags : y.state.nextTags = fun j => x.state.nextTags j + freshCount l j l.length := funext h.tags
  have kCursor := k.cursor
  have kFits := k.fits
  have kAwaiting := k.awaiting
  have kSent := k.sent
  have kEnds := k.ends
  rw [fmon, bss, h.cursor] at kCursor kFits
  rw [fmon, tags] at kAwaiting kSent kEnds
  refine ⟨h.layout.trans k.layout, fun t => (k.holds t).trans (h.holds t), fun q mem => ?_, ?_, ?_, fun i q at_ => ?_, ?_, ?_,
    fun j => ?_, fun x mem => k.handed x (h.handed x mem), fun q mem plain => ?_⟩
  · rcases List.mem_append.1 mem with mem | mem
    · exact h.there q mem
    · rw [← h.holds]
      exact k.there q mem
  · rw [List.map_append, layAll_append]
    exact kCursor
  · rw [k.placed, h.placed, List.map_append, List.append_assoc]
  · by_cases within : i < l.length
    · rw [List.getElem?_append_left within] at at_
      have fits := h.fits i q at_
      rw [← List.take_append_of_le_length (l₂ := l') (Nat.le_of_lt within)] at fits
      exact fits
    · obtain ⟨m, rfl⟩ := Nat.exists_eq_add_of_le (Nat.le_of_not_lt within)
      rw [List.getElem?_append_right (Nat.le_add_right _ _), Nat.add_sub_cancel_left] at at_
      have fits := kFits m q at_
      rw [← layAll_append, ← List.map_append] at fits
      rw [List.take_length_add_append, List.filter_append, List.length_append]
      refine ⟨fits.1, fun ack => ?_⟩
      have room := fits.2 ack
      omega
  · rw [kAwaiting, h.awaiting, placedRow_append, List.filter_append, List.append_assoc]
  · rw [kSent, h.sent, placedRow_append, List.map_append, List.append_assoc]
  · have count := freshCount_append l l' j l'.length
    rw [k.tags, h.tags, List.length_append, Nat.add_comm l.length, count, BitVec.add_assoc]
  · rw [placedRow_append] at mem
    rcases List.mem_append.1 mem with mem | mem
    · exact k.handed _ (h.ends q mem plain)
    · exact kEnds q mem plain

/-! ### One packet -/

theorem headCase_gone {x : Selection} {p : Packet} (h : headCase x p = .gone) : targetHeld x.state p.target = false := by
  unfold headCase at h
  split at h
  · rename_i away
    simpa using away
  · split at h
    · cases h
    · split at h <;> cases h

/-- A head that is blocked has its target, and no line or no place in the awaiting-ack list (R132). -/
theorem headCase_blocked {x : Selection} {p : Packet} (h : headCase x p = .blocked) : targetHeld x.state p.target = true
    ∧ ¬ ((placeAt x.state.fmon.geometry x.state.bss.factor x.cursor p.slots).isSome = true
      ∧ (p.ack = true → x.state.apq.awaiting.length < 16)) := by
  unfold headCase at h
  split at h
  · cases h
  · rename_i here
    refine ⟨by simpa using here, fun ⟨line, room⟩ => ?_⟩
    split at h
    · rename_i none_
      rw [none_] at line
      exact absurd line Bool.false_ne_true
    · split at h
      · rename_i full
        rw [Bool.and_eq_true, decide_eq_true_eq] at full
        exact absurd (room full.1) (Nat.not_lt.2 full.2)
      · cases h

theorem headCase_placed {x : Selection} {p : Packet} {pos : Nat} (h : headCase x p = .place pos) :
    targetHeld x.state p.target = true ∧ (p.ack = true → x.state.apq.awaiting.length < 16) := by
  unfold headCase at h
  split at h
  · cases h
  · rename_i here
    refine ⟨by simpa using here, fun ack => ?_⟩
    split at h
    · cases h
    · split at h
      · cases h
      · rename_i room
        rw [Bool.and_eq_true, decide_eq_true_eq] at room
        exact Nat.lt_of_not_le fun full => room ⟨ack, full⟩

/-- The tag of a packet placed is the one that it has, or the next one of its entry, which then steps on (R82, R134). -/
theorem tagFor_spec {p : Packet} {s : State} (here : targetHeld s p.target = true) :
    (tagFor p s).1 = (if p.fresh p.target.index then some (s.nextTags p.target.index) else p.tag)
    ∧ (∀ j, (tagFor p s).2.nextTags j = s.nextTags j + BitVec.ofNat 8 (if p.fresh j then 1 else 0))
    ∧ (∀ t, targetHeld (tagFor p s).2 t = targetHeld s t) ∧ (tagFor p s).2.handed = s.handed := by
  have kept : ∀ j, s.nextTags j = s.nextTags j + BitVec.ofNat 8 0 := fun j => (BitVec.add_zero _).symm
  cases ack : p.ack
  · have e : tagFor p s = (p.tag, s) := by
      unfold tagFor
      rw [ack]
    have stale : ∀ j, p.fresh j = false := fun j => by simp [Packet.fresh, ack]
    rw [e, stale]
    exact ⟨rfl, fun j => by rw [stale]; exact kept j, fun t => rfl, rfl⟩
  · rcases tag : p.tag with _ | old
    · rcases target : p.target with ⟨i, sn⟩ | _
      · rw [target] at here
        have held : ((entryAt s i).isActive && decide ((entryAt s i).serial = sn)) = true := here
        have e : tagFor p s = (some (entryAt s i).nextTag, updEntry i (fun e => { e with nextTag := e.nextTag + 1 }) s) := by
          unfold tagFor takeTag
          rw [ack, tag, target]
          dsimp only
          rw [held]
          rfl
        have within : i < s.rwk.roster.length := by
          by_contra away
          have vacant : entryAt s i = Entry.vacant := by
            rw [entryAt, List.getD_eq_getElem?_getD, List.getElem?_eq_none (Nat.le_of_not_lt away)]
            rfl
          rw [vacant] at held
          exact absurd held (by simp [Entry.isActive, Entry.vacant])
        have entry : ∀ j, entryAt (updEntry i (fun e => { e with nextTag := e.nextTag + 1 }) s) j
            = if i = j then { entryAt s j with nextTag := (entryAt s j).nextTag + 1 } else entryAt s j := by
          intro j
          unfold entryAt
          rw [updEntry_roster, List.getD_eq_getElem?_getD, List.getElem?_modify, List.getD_eq_getElem?_getD]
          by_cases same : i = j
          · subst same
            rw [List.getElem?_eq_getElem within]
            simp
          · simp only [if_neg same, id_map']
        have fresh : ∀ j, p.fresh j = decide (i = j) := fun j => by simp [Packet.fresh, ack, tag, target, Target.index]
        rw [e]
        refine ⟨by rw [fresh]; simp [Target.index, State.nextTags], fun j => ?_, fun t => ?_, rfl⟩
        · unfold State.nextTags
          rw [entry, fresh]
          by_cases same : i = j
          · rw [if_pos same, decide_eq_true same]
            rfl
          · rw [if_neg same, decide_eq_false same]
            exact (BitVec.add_zero _).symm
        · cases t with
          | tile k m =>
            simp only [targetHeld, entry]
            split <;> rfl
          | broadcast => rfl
      · have e : tagFor p s = (none, s) := by
          unfold tagFor
          rw [ack, tag, target]
        have stale : ∀ j, p.fresh j = false := fun j => by simp [Packet.fresh, target]
        rw [e, stale]
        exact ⟨rfl, fun j => by rw [stale]; exact kept j, fun t => rfl, rfl⟩
    · have e : tagFor p s = (some old, s) := by
        unfold tagFor
        rw [ack, tag]
      have stale : ∀ j, p.fresh j = false := fun j => by simp [Packet.fresh, tag]
      rw [e, stale]
      exact ⟨rfl, fun j => by rw [stale]; exact kept j, fun t => rfl, rfl⟩

theorem filter_one {q : Packet} (ack : q.ack = true) : [q].filter (·.ack) = [q] := List.filter_cons_of_pos ack

theorem filter_none {q : Packet} (plain : ¬ q.ack = true) : [q].filter (·.ack) = [] := List.filter_cons_of_neg plain

theorem PlacesRow.one {x : Selection} {p : Packet} {pos : Nat} (h : headCase x p = .place pos) :
    PlacesRow x [p] (placePacket pos p x) := by
  obtain ⟨here, room⟩ := headCase_placed h
  obtain ⟨tag, tags, holds, handed⟩ := tagFor_spec here
  have line := headCase_place h
  have kept := (placePacket_touches pos p x)
  have row : placedRow x.state.nextTags x.state.fmon.fsn [p] = [{ p with
      attempts := p.attempts + 1, placed := some x.state.fmon.fsn, tag := (tagFor p x.state).1, due := false }] := by
    simp [placedRow, afterPlaced, freshCount, tag]
  have rwk : (placePacket pos p x).state.rwk = (tagFor p x.state).2.rwk := by
    unfold placePacket
    dsimp only
    split <;> rfl
  have apq : (tagFor p x.state).2.apq = x.state.apq := (tagFor_touches p x.state).apq.resolve_left (by decide)
  refine ⟨⟨kept.fmon.resolve_left (by decide), kept.bss.resolve_left (by decide)⟩, fun t => ?_, fun q mem => ?_, ?_, rfl,
    fun k q at_ => ?_, ?_, ?_, fun j => ?_, fun y mem => ?_, fun q mem plain => ?_⟩
  · rw [← holds t]
    exact targetHeld_congr rwk t
  · rw [List.mem_singleton.1 mem]
    exact here
  · simp only [List.map_cons, List.map_nil, layAll, line]
    rfl
  · have zero : k = 0 := by
      have within := (List.getElem?_eq_some_iff.1 at_).1
      simpa using within
    subst zero
    obtain rfl := Option.some.inj at_
    refine ⟨?_, fun ack => by simpa using room ack⟩
    simp only [List.take_zero, List.map_nil, layAll, line]
    rfl
  · rw [row]
    unfold placePacket
    dsimp only
    split
    · rename_i ack
      rw [filter_one]
      · rw [← apq]
      · exact ack
    · rename_i plain
      rw [filter_none]
      · exact (congrArg Apq.awaiting apq).trans (List.append_nil _).symm
      · exact plain
  · rw [row]
    rfl
  · have e : (placePacket pos p x).state.nextTags j = (tagFor p x.state).2.nextTags j := by
      simp only [State.nextTags, entryAt, rwk]
    rw [e, tags]
    cases fresh : p.fresh j <;> simp [freshCount, fresh]
  · rw [← handed] at mem
    unfold placePacket
    dsimp only
    split
    · exact mem
    · exact List.mem_append_left _ mem
  · rw [row, List.mem_singleton] at mem
    subst mem
    have away : p.ack = false := plain
    unfold placePacket
    dsimp only
    rw [away]
    exact List.mem_append_right _ (List.mem_singleton_self _)

end Sys2Proof.Machine
end

section
/-!
PROOFS. The selection of R131: the starvation step, the classes in their order, and what each takes from the head of its queue.
-/

namespace Sys2Proof.Machine

set_option Elab.async false

/-! ### Heads taken from a queue -/

/-- From x to y these packets leave their queues in this order: those whose target is held are placed, the others complete with
TARGET_GONE (R132). -/
structure TakesHeads (x : Selection) (pre : List Packet) (y : Selection) : Prop where
  row : PlacesRow x (pre.filter (fun q => targetHeld x.state q.target)) y
  gone : ∀ q ∈ pre, targetHeld x.state q.target = false → sendItem .targetGone q ∈ y.state.handed

/-- The queues and the starvation count stay. -/
def SameQueues (x y : Selection) : Prop := y.state.apq.urgent = x.state.apq.urgent ∧ y.state.apq.normal = x.state.apq.normal
  ∧ y.state.apq.bulk = x.state.apq.bulk ∧ y.state.apq.starve = x.state.apq.starve

theorem SameQueues.refl (x : Selection) : SameQueues x x := ⟨rfl, rfl, rfl, rfl⟩

theorem SameQueues.trans {x y z : Selection} (h : SameQueues x y) (k : SameQueues y z) : SameQueues x z :=
  ⟨k.1.trans h.1, k.2.1.trans h.2.1, k.2.2.1.trans h.2.2.1, k.2.2.2.trans h.2.2.2⟩

theorem TakesHeads.idle {x y : Selection} (layout : KeepsLayout x.state y.state) (rwk : y.state.rwk = x.state.rwk)
    (cursor : y.cursor = x.cursor) (placed : y.placed = x.placed) (sent : y.sent = x.sent)
    (awaiting : y.state.apq.awaiting = x.state.apq.awaiting) (handed : ∀ h ∈ x.state.handed, h ∈ y.state.handed) :
    TakesHeads x [] y := ⟨.idle layout rwk cursor placed sent awaiting handed, fun _ h => nomatch h⟩

theorem TakesHeads.refl (x : Selection) : TakesHeads x [] x := .idle ⟨rfl, rfl⟩ rfl rfl rfl rfl rfl (fun _ h => h)

theorem TakesHeads.trans {x y z : Selection} {a b : List Packet} (h : TakesHeads x a y) (k : TakesHeads y b z) :
    TakesHeads x (a ++ b) z := by
  have held : (fun q : Packet => targetHeld y.state q.target) = fun q => targetHeld x.state q.target :=
    funext fun q => h.row.holds q.target
  have row := k.row
  rw [held] at row
  refine ⟨by rw [List.filter_append]; exact h.row.trans row, fun q mem away => ?_⟩
  rcases List.mem_append.1 mem with mem | mem
  · exact k.row.handed _ (h.gone q mem away)
  · exact k.gone q mem ((h.row.holds q.target).trans away)

theorem TakesHeads.one_gone {x : Selection} {p : Packet} (h : headCase x p = .gone) :
    TakesHeads x [p] { x with state := finishPacket p .targetGone x.state } := by
  have away := headCase_gone h
  refine ⟨?_, fun q mem _ => ?_⟩
  · rw [List.filter_cons_of_neg (by rw [away]; exact Bool.false_ne_true)]
    exact .idle ⟨rfl, rfl⟩ rfl rfl rfl rfl rfl (fun y mem => List.mem_append_left _ mem)
  · rw [List.mem_singleton.1 mem]
    exact List.mem_append_right _ (List.mem_singleton_self _)

theorem TakesHeads.one_placed {x : Selection} {p : Packet} {pos : Nat} (h : headCase x p = .place pos) :
    TakesHeads x [p] (placePacket pos p x) := by
  have here := (headCase_placed h).1
  refine ⟨?_, fun q mem away => ?_⟩
  · rw [List.filter_cons_of_pos (p := fun q : Packet => targetHeld x.state q.target) here]
    exact .one h
  · rw [List.mem_singleton.1 mem, here] at away
    exact absurd away.symm Bool.false_ne_true

theorem placePacket_queues (pos : Nat) (p : Packet) (x : Selection) : SameQueues x (placePacket pos p x) := by
  have kept : (tagFor p x.state).2.apq = x.state.apq := (tagFor_touches p x.state).apq.resolve_left (by decide)
  unfold SameQueues placePacket
  dsimp only
  split
  · rw [kept]
    exact ⟨rfl, rfl, rfl, rfl⟩
  · unfold finishPacket
    rw [complete_apq, kept]
    exact ⟨rfl, rfl, rfl, rfl⟩

/-! ### One class -/

/-- Why a class stops at the head of what stays queued (R132). -/
def Stops (y : Selection) (rest : List Packet) : Prop := ∀ q ∈ rest.head?, y.free = 0 ∨ headCase y q = .blocked

theorem selectClass_spec (ps : List Packet) (x : Selection) : ∃ pre, ps = pre ++ (selectClass ps x).1
    ∧ TakesHeads x pre (selectClass ps x).2 ∧ SameQueues x (selectClass ps x).2
    ∧ Stops (selectClass ps x).2 (selectClass ps x).1 := by
  induction ps generalizing x with
  | nil => exact ⟨[], rfl, .refl x, .refl x, fun q h => nomatch h⟩
  | cons p ps ih =>
    rw [selectClass]
    split
    · rename_i full
      exact ⟨[], rfl, .refl x, .refl x, fun q _ => .inl full⟩
    · split
      · rename_i away
        obtain ⟨pre, split_, takes, queues, stops⟩ := ih { x with state := finishPacket p .targetGone x.state }
        exact ⟨p :: pre, congrArg (p :: ·) split_, (TakesHeads.one_gone away).trans takes,
          SameQueues.trans ⟨rfl, rfl, rfl, rfl⟩ queues, stops⟩
      · rename_i blocked
        refine ⟨[], rfl, .refl x, .refl x, fun q head => ?_⟩
        obtain rfl := Option.some.inj head
        exact .inr blocked
      · rename_i pos fits
        obtain ⟨pre, split_, takes, queues, stops⟩ := ih (placePacket pos p x)
        exact ⟨p :: pre, congrArg (p :: ·) split_, (TakesHeads.one_placed fits).trans takes,
          (placePacket_queues pos p x).trans queues, stops⟩

/-- The starvation step places one packet, or is blocked, or empties the queue (R131). -/
theorem starveStep_spec (ps : List Packet) (x : Selection) : ∃ pre, ps = pre ++ (starveStep ps x).1
    ∧ TakesHeads x pre (starveStep ps x).2.1 ∧ SameQueues x (starveStep ps x).2.1
    ∧ (pre.filter (fun q => targetHeld x.state q.target)).length = (if (starveStep ps x).2.2 = .placed then 1 else 0)
    ∧ ((starveStep ps x).2.2 = .blocked → Stops (starveStep ps x).2.1 (starveStep ps x).1)
    ∧ ((starveStep ps x).2.2 = .emptied → (starveStep ps x).1 = []) := by
  induction ps generalizing x with
  | nil => exact ⟨[], rfl, .refl x, .refl x, rfl, (fun h => nomatch h), fun _ => rfl⟩
  | cons p ps ih =>
    rw [starveStep]
    split
    · rename_i away
      have none_ := headCase_gone away
      obtain ⟨pre, split_, takes, queues, count, blocked, emptied⟩ := ih { x with state := finishPacket p .targetGone x.state }
      refine ⟨p :: pre, congrArg (p :: ·) split_, (TakesHeads.one_gone away).trans takes,
        SameQueues.trans ⟨rfl, rfl, rfl, rfl⟩ queues, ?_, blocked, emptied⟩
      rw [List.filter_cons_of_neg (by rw [none_]; exact Bool.false_ne_true)]
      exact count
    · rename_i blocked
      refine ⟨[], rfl, .refl x, .refl x, rfl, fun _ q head => ?_, fun h => nomatch h⟩
      obtain rfl := Option.some.inj head
      exact .inr blocked
    · rename_i pos fits
      refine ⟨[p], rfl, .one_placed fits, placePacket_queues pos p x, ?_, (fun h => nomatch h), (fun h => nomatch h)⟩
      rw [List.filter_cons_of_pos (p := fun q : Packet => targetHeld x.state q.target) (headCase_placed fits).1]
      rfl

/-! ### The classes in their order -/

theorem Stops.congr {x y : Selection} {rest : List Packet} (h : Stops x rest) (cursor : y.cursor = x.cursor)
    (layout : KeepsLayout x.state y.state) (rwk : y.state.rwk = x.state.rwk)
    (awaiting : y.state.apq.awaiting = x.state.apq.awaiting) : Stops y rest := by
  obtain ⟨fmon, bss⟩ := layout
  intro q head
  have same := h q head
  unfold Selection.free headCase at same ⊢
  rw [fmon, bss, cursor, awaiting, targetHeld_congr rwk]
  exact same

/-- The part of a selection that one class has. -/
def classTaken (c : PacketClass) (x : Selection) : Selection := withQueue c (selectClass (queueOf x.state.apq c) x)

theorem queueOf_setQueue (c c' : PacketClass) (ps : List Packet) (q : Apq) :
    queueOf (setQueue c ps q) c' = if c' = c then ps else queueOf q c' := by
  cases c <;> cases c' <;> rfl

theorem SameQueues.queueOf {x y : Selection} (h : SameQueues x y) (c : PacketClass) :
    queueOf y.state.apq c = queueOf x.state.apq c := by
  obtain ⟨urgent, normal, bulk, -⟩ := h
  cases c
  · exact urgent
  · exact normal
  · exact bulk

theorem withQueue_takes (c : PacketClass) (r : List Packet × Selection) : TakesHeads r.2 [] (withQueue c r) :=
  .idle ⟨rfl, rfl⟩ rfl rfl rfl rfl (by cases c <;> rfl) (fun _ h => h)

theorem withQueue_stops {c : PacketClass} {r : List Packet × Selection} (h : Stops r.2 r.1) : Stops (withQueue c r) r.1 :=
  h.congr rfl ⟨rfl, rfl⟩ rfl (by cases c <;> rfl)

theorem withQueue_queue (c c' : PacketClass) (r : List Packet × Selection) :
    queueOf (withQueue c r).state.apq c' = if c' = c then r.1 else queueOf r.2.state.apq c' := queueOf_setQueue c c' _ _

theorem withQueue_starve (c : PacketClass) (r : List Packet × Selection) :
    (withQueue c r).state.apq.starve = r.2.state.apq.starve := by
  cases c <;> rfl

/-- What one class takes from the head of its queue, and why it stops. -/
structure ClassTaken (c : PacketClass) (x : Selection) (pre : List Packet) (y : Selection) : Prop where
  left : queueOf x.state.apq c = pre ++ queueOf y.state.apq c
  takes : TakesHeads x pre y
  stops : Stops y (queueOf y.state.apq c)
  others : ∀ d, d ≠ c → queueOf y.state.apq d = queueOf x.state.apq d
  starve : y.state.apq.starve = x.state.apq.starve

theorem classTaken_spec (c : PacketClass) (x : Selection) : ∃ pre, ClassTaken c x pre (classTaken c x) := by
  obtain ⟨pre, split_, takes, same, stops⟩ := selectClass_spec (queueOf x.state.apq c) x
  have rest := withQueue_queue c c (selectClass (queueOf x.state.apq c) x)
  rw [if_pos rfl] at rest
  refine ⟨pre, by rw [classTaken, rest]; exact split_, ?_, ?_, fun d other => ?_, ?_⟩
  · have all := takes.trans (withQueue_takes c _)
    rw [List.append_nil] at all
    exact all
  · rw [classTaken, rest]
    exact withQueue_stops stops
  · rw [classTaken, withQueue_queue, if_neg other]
    exact same.queueOf d
  · exact (withQueue_starve _ _).trans same.2.2.2

/-- A row is placed, so many packets more are placed. -/
theorem PlacesRow.count {x y : Selection} {l : List Packet} (h : PlacesRow x l y) :
    y.placed.length = x.placed.length + l.length := by
  rw [h.placed, List.length_append, List.length_map]

/-- What the classes take in turn: URGENT, NORMAL and, unless it is blocked, BULK (R131). -/
structure ClassesTaken (x : Selection) (u n b : List Packet) (x1 x2 y : Selection) : Prop where
  urgent : x.state.apq.urgent = u ++ y.state.apq.urgent
  normal : x.state.apq.normal = n ++ y.state.apq.normal
  bulk : x.state.apq.bulk = b ++ y.state.apq.bulk
  takesUrgent : TakesHeads x u x1
  stopsUrgent : Stops x1 y.state.apq.urgent
  takesNormal : TakesHeads x1 n x2
  stopsNormal : Stops x2 y.state.apq.normal
  takesBulk : TakesHeads x2 b y

/-- The classes with the BULK part left out if it is blocked. -/
def classesTaken (bulkBlocked : Bool) (x : Selection) : Selection :=
  if bulkBlocked then classTaken .normal (classTaken .urgent x)
  else classTaken .bulk (classTaken .normal (classTaken .urgent x))

theorem classStep_eq (waiting starved bulkBlocked : Bool) (x : Selection) : classStep waiting starved bulkBlocked x =
    setStarve (starveAfter waiting (starved || decide ((classTaken .normal (classTaken .urgent x)).placed.length
      < (classesTaken bulkBlocked x).placed.length)) (classesTaken bulkBlocked x).state.apq.starve)
      (classesTaken bulkBlocked x) := rfl

theorem classesTaken_spec (bulkBlocked : Bool) (x : Selection) : ∃ u n b,
    ClassesTaken x u n b (classTaken .urgent x) (classTaken .normal (classTaken .urgent x)) (classesTaken bulkBlocked x)
    ∧ (if bulkBlocked = true then b = [] else Stops (classesTaken bulkBlocked x) (classesTaken bulkBlocked x).state.apq.bulk)
    ∧ (classesTaken bulkBlocked x).state.apq.starve = x.state.apq.starve := by
  obtain ⟨u, first⟩ := classTaken_spec .urgent x
  obtain ⟨n, second⟩ := classTaken_spec .normal (classTaken .urgent x)
  have left2 : x.state.apq.normal = n ++ queueOf (classTaken .normal (classTaken .urgent x)).state.apq .normal :=
    (first.others .normal (by decide)).symm.trans second.left
  have bulk2 : queueOf (classTaken .normal (classTaken .urgent x)).state.apq .bulk = x.state.apq.bulk :=
    (second.others .bulk (by decide)).trans (first.others .bulk (by decide))
  have urgent2 := second.others .urgent (by decide)
  have starve2 := second.starve.trans first.starve
  cases bulkBlocked
  · obtain ⟨b, third⟩ := classTaken_spec .bulk (classTaken .normal (classTaken .urgent x))
    have urgent3 := (third.others .urgent (by decide)).trans urgent2
    have normal3 := third.others .normal (by decide)
    refine ⟨u, n, b, ⟨first.left.trans (congrArg (u ++ ·) urgent3.symm), left2.trans (congrArg (n ++ ·) normal3.symm),
      bulk2.symm.trans third.left, first.takes, ?_, second.takes, ?_, third.takes⟩, third.stops, third.starve.trans starve2⟩
    · exact (congrArg (Stops _) urgent3).mpr first.stops
    · exact (congrArg (Stops _) normal3).mpr second.stops
  · refine ⟨u, n, [], ⟨first.left.trans (congrArg (u ++ ·) urgent2.symm), left2, bulk2.symm, first.takes, ?_, second.takes,
      second.stops, .refl _⟩, rfl, starve2⟩
    exact (congrArg (Stops _) urgent2).mpr first.stops

/-! ### The whole selection -/

/-- The packets of a row whose target is held. -/
def heldOf (s : State) (l : List Packet) : List Packet := l.filter (fun q => targetHeld s q.target)

theorem TakesHeads.heldOf {x y : Selection} {pre : List Packet} (h : TakesHeads x pre y) (l : List Packet) :
    heldOf y.state l = heldOf x.state l := List.filter_congr (fun q _ => h.row.holds q.target)

theorem setStarve_takes (n : Nat) (x : Selection) : TakesHeads x [] (setStarve n x) :=
  .idle ⟨rfl, rfl⟩ rfl rfl rfl rfl rfl (fun _ h => h)

theorem classStep_spec (waiting starved bulkBlocked : Bool) (x : Selection) : ∃ u n b x1 x2,
    ClassesTaken x u n b x1 x2 (classStep waiting starved bulkBlocked x)
    ∧ (if bulkBlocked = true then b = [] else
      Stops (classStep waiting starved bulkBlocked x) (classStep waiting starved bulkBlocked x).state.apq.bulk)
    ∧ (classStep waiting starved bulkBlocked x).state.apq.starve
      = starveAfter waiting (starved || !(heldOf x.state b).isEmpty) x.state.apq.starve := by
  obtain ⟨u, n, b, taken, stops, starve⟩ := classesTaken_spec bulkBlocked x
  rw [classStep_eq]
  have held : heldOf (classTaken .normal (classTaken .urgent x)).state b = heldOf x.state b :=
    (taken.takesNormal.heldOf b).trans (taken.takesUrgent.heldOf b)
  have more : decide ((classTaken .normal (classTaken .urgent x)).placed.length
      < (classesTaken bulkBlocked x).placed.length) = !(heldOf x.state b).isEmpty := by
    rw [taken.takesBulk.row.count, ← held]
    cases here : heldOf (classTaken .normal (classTaken .urgent x)).state b <;> simp_all [heldOf]
  have last := taken.takesBulk.trans (setStarve_takes (starveAfter waiting (starved || !(heldOf x.state b).isEmpty)
    (classesTaken bulkBlocked x).state.apq.starve) _)
  rw [List.append_nil] at last
  rw [more]
  refine ⟨u, n, b, _, _, ⟨taken.urgent, taken.normal, taken.bulk, taken.takesUrgent, taken.stopsUrgent, taken.takesNormal,
    taken.stopsNormal, last⟩, ?_, by rw [← starve]; rfl⟩
  split
  · rename_i blocked
    rw [if_pos blocked] at stops
    exact stops
  · rename_i open_
    rw [if_neg open_] at stops
    exact stops.congr rfl ⟨rfl, rfl⟩ rfl rfl

/-- What a selection makes of the queues: from the BULK head before all others, from URGENT, NORMAL and BULK (R131). -/
structure Selects (x : Selection) (b0 u n b : List Packet) (x0 x1 x2 y : Selection) : Prop where
  urgent : x.state.apq.urgent = u ++ y.state.apq.urgent
  normal : x.state.apq.normal = n ++ y.state.apq.normal
  bulk : x.state.apq.bulk = b0 ++ (b ++ y.state.apq.bulk)
  takesFirst : TakesHeads x b0 x0
  takesUrgent : TakesHeads x0 u x1
  stopsUrgent : Stops x1 y.state.apq.urgent
  takesNormal : TakesHeads x1 n x2
  stopsNormal : Stops x2 y.state.apq.normal
  takesBulk : TakesHeads x2 b y
  first : (heldOf x.state b0).length = if x.state.apq.starve = 8 ∧ x.state.apq.bulk ≠ [] ∧ heldOf x.state b0 ≠ [] then 1 else 0
  stopsBulk : if x.state.apq.starve = 8 ∧ x.state.apq.bulk ≠ [] ∧ heldOf x.state b0 = [] then
    heldOf x.state b = [] ∧ Stops x0 y.state.apq.bulk else Stops y y.state.apq.bulk
  starve : y.state.apq.starve
    = if x.state.apq.bulk = [] ∨ heldOf x.state (b0 ++ b) ≠ [] then 0 else min 8 (x.state.apq.starve + 1)

theorem starveAfter_eq (bulk row : List Packet) (placed : Bool) (n : Nat) (same : placed = !row.isEmpty) :
    starveAfter (!bulk.isEmpty) placed n = if bulk = [] ∨ row ≠ [] then 0 else min 8 (n + 1) := by
  subst same
  unfold starveAfter
  cases bulk <;> cases row <;> simp

theorem selectPackets_spec (x : Selection) : ∃ b0 u n b x0 x1 x2, Selects x b0 u n b x0 x1 x2 (selectPackets x) := by
  by_cases starving : x.state.apq.starve = 8 ∧ x.state.apq.bulk ≠ []
  · obtain ⟨b0, split_, takes, same, count, blocked, emptied⟩ := starveStep_spec x.state.apq.bulk x
    have e : selectPackets x = classStep (!x.state.apq.bulk.isEmpty)
        (decide ((starveStep x.state.apq.bulk x).2.2 = .placed)) (decide ((starveStep x.state.apq.bulk x).2.2 = .blocked))
        (withQueue .bulk ((starveStep x.state.apq.bulk x).1, (starveStep x.state.apq.bulk x).2.1)) := by
      unfold selectPackets
      rw [if_pos ⟨starving.1, by simpa using starving.2⟩]
    generalize starveStep x.state.apq.bulk x = r at split_ takes same count blocked emptied e
    obtain ⟨u, n, b, x1, x2, taken, stops, starve⟩ := classStep_spec (!x.state.apq.bulk.isEmpty) (decide (r.2.2 = .placed))
      (decide (r.2.2 = .blocked)) (withQueue .bulk (r.1, r.2.1))
    rw [← e] at taken stops starve
    have begins := takes.trans (withQueue_takes .bulk (r.1, r.2.1))
    rw [List.append_nil] at begins
    have rest : r.1 = b ++ (selectPackets x).state.apq.bulk := taken.bulk
    have held : heldOf (withQueue .bulk (r.1, r.2.1)).state b = heldOf x.state b := begins.heldOf b
    have count0 : (heldOf x.state b0).length = if r.2.2 = .placed then 1 else 0 := count
    rw [held, withQueue_starve, same.2.2.2] at starve
    refine ⟨b0, u, n, b, _, x1, x2, same.1.symm.trans taken.urgent, same.2.1.symm.trans taken.normal,
      split_.trans (congrArg (b0 ++ ·) rest), begins, taken.takesUrgent, taken.stopsUrgent,
      taken.takesNormal, taken.stopsNormal, taken.takesBulk, ?_, ?_, ?_⟩
    · cases here : heldOf x.state b0 with
      | nil => simp
      | cons p l =>
        rw [here] at count0
        rw [if_pos ⟨starving.1, starving.2, List.cons_ne_nil _ _⟩]
        split at count0
        · exact count0
        · cases count0
    · cases ended : r.2.2
      · rw [ended] at count0 stops
        have some_ : heldOf x.state b0 ≠ [] := fun none_ => by rw [none_] at count0; cases count0
        rw [if_neg (fun h => some_ h.2.2)]
        exact stops
      · rw [ended] at count0 stops
        obtain rfl : b = [] := stops
        rw [if_pos ⟨starving.1, starving.2, List.eq_nil_of_length_eq_zero count0⟩]
        refine ⟨rfl, ?_⟩
        rw [← List.nil_append (selectPackets x).state.apq.bulk, ← rest]
        exact withQueue_stops (c := .bulk) (r := (r.1, r.2.1)) (blocked ended)
      · rw [ended] at count0
        have nothing := emptied ended
        rw [nothing] at rest
        obtain ⟨rfl, empty⟩ := List.append_eq_nil_iff.1 rest.symm
        rw [if_pos ⟨starving.1, starving.2, List.eq_nil_of_length_eq_zero count0⟩, empty]
        exact ⟨rfl, fun q h => nomatch h⟩
    · rw [starve]
      refine starveAfter_eq _ (heldOf x.state (b0 ++ b)) _ _ ?_
      have both : heldOf x.state (b0 ++ b) = heldOf x.state b0 ++ heldOf x.state b := List.filter_append ..
      rw [both]
      cases here : heldOf x.state b0 with
      | nil =>
        rw [here] at count0
        split at count0
        · cases count0
        · rename_i other
          rw [decide_eq_false other]
          rfl
      | cons p l =>
        rw [here] at count0
        split at count0
        · rename_i placed
          rw [decide_eq_true placed]
          rfl
        · cases count0
  · have e : selectPackets x = classStep (!x.state.apq.bulk.isEmpty) false false x := by
      unfold selectPackets
      rw [if_neg (by simpa using starving)]
    obtain ⟨u, n, b, x1, x2, taken, stops, starve⟩ := classStep_spec (!x.state.apq.bulk.isEmpty) false false x
    rw [← e] at taken stops starve
    rw [if_neg Bool.false_ne_true] at stops
    refine ⟨[], u, n, b, x, x1, x2, taken.urgent, taken.normal, taken.bulk, .refl x, taken.takesUrgent, taken.stopsUrgent,
      taken.takesNormal, taken.stopsNormal, taken.takesBulk, ?_, ?_, ?_⟩
    · exact (if_neg (fun h => h.2.2 rfl)).symm
    · rw [if_neg (fun h => starving ⟨h.1, h.2.1⟩)]
      exact stops
    · rw [starve, Bool.false_or]
      exact starveAfter_eq _ (heldOf x.state b) _ _ rfl

end Sys2Proof.Machine
end

section
/-!
PROOFS. What the stages of the plan begin with: the standing stage as a row, and the queues, the roster and the list of packets
awaiting as the third stage finds them.
-/

namespace Sys2Proof.Machine

set_option Elab.async false

/-! ### The queues at a frame start (R130, R135) -/

/-- Asking for a receipt leaves the list of packets awaiting while the presence is asserted. -/
theorem nextReceipt_apq {s : State} (present : s.ses.presence = true) :
    (nextReceipt s).apq = { s.apq with acPacket := (nextReceipt s).apq.acPacket } := by
  unfold nextReceipt
  split
  · rfl
  · split
    · rfl
    · rw [if_pos present, (joinSet_touches ..).apq.resolve_left (by decide)]

theorem markDue_apq (s : State) : (markDue s).apq = { s.apq with
    awaiting := s.apq.awaiting.map (fun q => { q with due := q.due || q.placed.any (fun x => reached s.fmon.fsn (x + 2)) }) } := by
  refine congrArg (fun l => ({ s.apq with awaiting := l } : Apq)) (List.map_congr_left (fun q _ => ?_))
  obtain ⟨handle, target, cls, ack, deadline, addr, len, payload, tag, attempts, placed, due, cancel⟩ := q
  cases placed with
  | none => simp
  | some f =>
    dsimp only [Option.any]
    split
    · rename_i reached_
      rw [reached_, Bool.or_true]
    · rename_i early
      rw [Bool.eq_false_iff.2 early, Bool.or_false]

/-- What APQ does with its queues at a frame start. -/
structure QueuesOpened (s t : State) : Prop where
  urgent : t.apq.urgent = s.apq.urgent.filter (fun p => !p.late s.fmon.fsn)
  normal : t.apq.normal = s.apq.normal.filter (fun p => !p.late s.fmon.fsn)
  bulk : t.apq.bulk = s.apq.bulk.filter (fun p => !p.late s.fmon.fsn)
  starve : t.apq.starve = s.apq.starve
  awaiting : t.apq.awaiting = s.apq.awaiting.map
    (fun q => { q with due := q.due || q.placed.any (fun x => reached s.fmon.fsn (x + 2)) })

theorem apqFrameStart_spec {s : State} (present : s.ses.presence = true) : QueuesOpened s (apqFrameStart s)
    ∧ ∀ p ∈ classPackets s.apq, p.late s.fmon.fsn = true → sendItem .expired p ∈ (apqFrameStart s).handed := by
  have expired := expirePackets_eq s
  obtain ⟨a, apq⟩ : ∃ a, (apqFrameStart s).apq = { s.apq with
      urgent := s.apq.urgent.filter (fun p => !p.late s.fmon.fsn)
      normal := s.apq.normal.filter (fun p => !p.late s.fmon.fsn)
      bulk := s.apq.bulk.filter (fun p => !p.late s.fmon.fsn)
      awaiting := s.apq.awaiting.map (fun q => { q with due := q.due || q.placed.any (fun x => reached s.fmon.fsn (x + 2)) })
      acPacket := a } := by
    have asked := nextReceipt_apq (s := markDue (expirePackets s)) (by rw [expired]; exact present)
    refine ⟨(nextReceipt (markDue (expirePackets s))).apq.acPacket, asked.trans ?_⟩
    generalize (nextReceipt (markDue (expirePackets s))).apq.acPacket = a
    rw [markDue_apq, expired]
  refine ⟨⟨by rw [apq], by rw [apq], by rw [apq], by rw [apq], by rw [apq]⟩, fun p here late => ?_⟩
  refine (nextReceipt_spends _).mem ((markDue_spends _).mem ?_)
  rw [expired]
  exact List.mem_append_right _ (List.mem_map_of_mem (List.mem_filter.2 ⟨here, late⟩))

/-! ### What the stages before the third keep -/

/-- From s to t every target and every next tag stay, and whether a walk runs and the presence is asserted. -/
structure KeepsTargets (s t : State) : Prop where
  presence : t.ses.presence = s.ses.presence
  walking : t.rwk.walking = s.rwk.walking
  holds : ∀ g, targetHeld t g = targetHeld s g
  tags : ∀ j, t.nextTags j = s.nextTags j

theorem KeepsTargets.of_same {s t : State} (presence : t.ses.presence = s.ses.presence) (rwk : t.rwk = s.rwk) :
    KeepsTargets s t where
  presence := presence
  walking := congrArg Rwk.walking rwk
  holds := targetHeld_congr rwk
  tags j := by simp only [State.nextTags, entryAt, rwk]

theorem KeepsTargets.refl (s : State) : KeepsTargets s s := .of_same rfl rfl

theorem KeepsTargets.trans {a b c : State} (h : KeepsTargets a b) (k : KeepsTargets b c) : KeepsTargets a c where
  presence := k.presence.trans h.presence
  walking := k.walking.trans h.walking
  holds g := (k.holds g).trans (h.holds g)
  tags j := (k.tags j).trans (h.tags j)

theorem KeepsTargets.of_touches {p : List Part} {s t : State} (h : Touches p s t) (ses : Part.ses ∉ p) (rwk : Part.rwk ∉ p) :
    KeepsTargets s t := .of_same (congrArg Ses.presence (h.ses.resolve_left ses)) (h.rwk.resolve_left rwk)

theorem setSession_keepsTargets (new : SessionState) (cause : SessionCause) (s : State) :
    KeepsTargets s (setSession new cause s) := by
  rw [setSession_eq]
  exact .of_same rfl rfl

theorem endStartLink_keepsTargets (st : Status) (s : State) : KeepsTargets s (endStartLink st s) := by
  unfold endStartLink
  cases s.ses.startLink <;> exact .of_same rfl rfl

theorem missCleared_keepsTargets (s : State) : KeepsTargets s (updEntry 0 (fun e => { e with miss := 0 }) s) := by
  have entry : ∀ j, ((entryAt (updEntry 0 (fun e => { e with miss := 0 }) s) j).isActive = (entryAt s j).isActive)
      ∧ (entryAt (updEntry 0 (fun e => { e with miss := 0 }) s) j).serial = (entryAt s j).serial
      ∧ (entryAt (updEntry 0 (fun e => { e with miss := 0 }) s) j).nextTag = (entryAt s j).nextTag := by
    intro j
    unfold entryAt
    rw [updEntry_roster, List.getD_eq_getElem?_getD, List.getElem?_modify, List.getD_eq_getElem?_getD]
    by_cases zero : 0 = j
    · subst zero
      cases s.rwk.roster[0]? <;> exact ⟨rfl, rfl, rfl⟩
    · simp only [if_neg zero]
      cases s.rwk.roster[j]? <;> exact ⟨rfl, rfl, rfl⟩
  refine ⟨rfl, rfl, fun g => ?_, fun j => (entry j).2.2⟩
  cases g with
  | tile i sn =>
    unfold targetHeld
    dsimp only
    rw [(entry i).1, (entry i).2.1]
  | broadcast => rfl

theorem lcPlace_keepsTargets (i : Nat) (training : Bool) (s : State) : KeepsTargets s (lcPlace i training s) := by
  have rwk := (lcPlace_touches i training s).rwk.resolve_left (by decide)
  refine .of_same ?_ rwk
  unfold lcPlace
  split
  · rw [(joinSet_touches ..).ses.resolve_left (by decide)]
  · rfl

theorem completeQuiets_keepsTargets (s : State) : KeepsTargets s (completeQuiets s) := by
  rw [completeQuiets_eq]
  exact .of_same rfl rfl

theorem sesFrameStart_keepsTargets (restart : Bool) (s : State) : KeepsTargets s (sesFrameStart restart s) := by
  obtain ⟨u, e, kept⟩ := sesFrameStart_rel .refl .trans setSession_keepsTargets endStartLink_keepsTargets
    missCleared_keepsTargets lcPlace_keepsTargets (fun _ _ _ _ _ _ => .of_same rfl rfl) restart s
  rw [e]
  exact kept.trans (completeQuiets_keepsTargets u)

section
variable {s b : State} (opens : FmonOpens s b) (term : Bool)
include opens

theorem sessionTaken_keepsTargets : KeepsTargets s (sessionTaken term b) := by
  have before : KeepsTargets s (cadenced term b) :=
    .of_same (by rw [cadenced_ses, opens.ses]) (((cadenced_touches term b).rwk.resolve_left (by decide)).trans
      (opens.touches.rwk.resolve_left (by decide)))
  rw [sessionTaken_eq]
  have changed := before.trans (sesFrameStart_keepsTargets (cadenceWork term b).restart (cadenced term b))
  split
  · refine changed.trans (.of_same ?_ ((issueLinkCheck_touches _).rwk.resolve_left (by decide)))
    rw [issueLinkCheck_ses]
  · exact changed

theorem planBase_keepsTargets : KeepsTargets s (planBase term b) :=
  (sessionTaken_keepsTargets opens term).trans (.of_touches (planBase_touches term b) (by decide) (by decide))

/-- The queues that the third stage finds: packets whose deadline has passed have left them (R130). -/
theorem planBase_queues (present : s.ses.presence = true) :
    (planBase term b).apq.urgent = s.apq.urgent.filter (fun p => !p.late b.fmon.fsn)
    ∧ (planBase term b).apq.normal = s.apq.normal.filter (fun p => !p.late b.fmon.fsn)
    ∧ (planBase term b).apq.bulk = s.apq.bulk.filter (fun p => !p.late b.fmon.fsn)
    ∧ (planBase term b).apq.starve = s.apq.starve
    ∧ (planBase term b).apq.awaiting = s.apq.awaiting.map
      (fun q => { q with due := q.due || q.placed.any (fun x => reached b.fmon.fsn (x + 2)) })
    ∧ ∀ p ∈ classPackets s.apq, p.late b.fmon.fsn = true → sendItem .expired p ∈ (planBase term b).handed := by
  have audio : Touches [.ain] (sessionTaken term b) (audioFill (audioSession (sessionTaken term b))) :=
    (audioSession_touches _).trans (audioFill_touches _)
  have before := (((opens.touches.mono (by decide)).trans ((recordsTaken_touches term b).mono (by decide))).trans
    ((sessionPart_touches (recordsTaken term b)).mono (by decide))).trans (audio.mono (by decide) :
      Touches [.ses, .fmon, .sbc, .rwk, .bss, .stt, .ain, .pxp, .pins, .now, .out, .choices] _ _)
  have fmon : (audioFill (audioSession (sessionTaken term b))).fmon = b.fmon :=
    (audio.fmon.resolve_left (by decide)).trans (((sessionPart_touches _).fmon.resolve_left (by decide)).trans
      ((recordsTaken_touches term b).fmon.resolve_left (by decide)))
  have presence : (audioFill (audioSession (sessionTaken term b))).ses.presence = true := by
    rw [audio.ses.resolve_left (by decide)]
    exact (sessionTaken_keepsTargets opens term).presence.trans present
  obtain ⟨queues, mem⟩ := apqFrameStart_spec presence
  have pxp := pxpFrameStart_touches (apqFrameStart (audioFill (audioSession (sessionTaken term b))))
  have apq : (planBase term b).apq = (apqFrameStart (audioFill (audioSession (sessionTaken term b)))).apq :=
    pxp.apq.resolve_left (by decide)
  obtain ⟨urgent, normal, bulk, starve, awaiting⟩ := queues
  rw [← apq, fmon, before.apq.resolve_left (by decide)] at urgent normal bulk awaiting
  rw [← apq, before.apq.resolve_left (by decide)] at starve
  rw [fmon, before.apq.resolve_left (by decide)] at mem
  exact ⟨urgent, normal, bulk, starve, awaiting, fun p here late => (pxpFrameStart_spends _).mem (mem p here late)⟩

end

end Sys2Proof.Machine
end

section
/-!
PROOFS. The stages of a plan, one after another, as rows of packets.
-/

namespace Sys2Proof.Machine

set_option Elab.async false

/-- The slots of the entries of the standing table at these indices. -/
def entrySlots (s : State) (l : List Nat) : List (Nat × Nat) :=
  l.map (fun i => (i, slotsFor (s.stt.entries.getD i StandingEntry.empty).payload.length))

/-- The bytes of the standing packet of an entry placed. -/
def standingPacket (s : State) (x : Nat × Nat) : List Byte :=
  standingBytes x.1 (s.stt.entries.getD x.1 StandingEntry.empty) s.fmon.fsn

/-- The first stage lays the entries due in their order (R110). -/
theorem placeStanding_row (s : State) (l : List Nat) (x : StandingStage) : l.foldl (placeStanding s) x =
    (let r := layStanding s.fmon.geometry s.bss.factor x.cursor (entrySlots s l)
    ⟨r.1, x.placed ++ r.2.1, x.skipped ++ r.2.2, x.sent ++ r.2.1.map (standingPacket s)⟩) := by
  induction l generalizing x with
  | nil =>
    obtain ⟨c, p, k, o⟩ := x
    simp [entrySlots, layStanding]
  | cons i l ih =>
    rw [List.foldl_cons, ih]
    unfold placeStanding
    have slots : (s.stt.entries.getD i StandingEntry.empty).slots
      = slotsFor (s.stt.entries.getD i StandingEntry.empty).payload.length := rfl
    dsimp only
    rw [slots]
    have cons : entrySlots s (i :: l)
        = (i, slotsFor (s.stt.entries.getD i StandingEntry.empty).payload.length) :: entrySlots s l := rfl
    rw [cons, layStanding]
    cases here : placeAt s.fmon.geometry s.bss.factor x.cursor
      (slotsFor (s.stt.entries.getD i StandingEntry.empty).payload.length) with
    | none => simp
    | some p => simp [standingPacket]

theorem standingStage_row (s : State) : standingStage s =
    (let r := layStanding s.fmon.geometry s.bss.factor 0 s.dueSlots
    ⟨r.1, r.2.1, r.2.2, r.2.1.map (standingPacket s)⟩) := placeStanding_row s _ ⟨0, [], [], []⟩

/-- The audio packets, from the head of the FIFO (R152). -/
theorem audioPackets_eq (f : AudioFormat) (fsn : Fsn) (n : Nat) (gs : List (List (BitVec 24))) : audioPackets f fsn n gs =
    (List.range n).map (fun k => packetBytes .audio fsn (BitVec.ofNat 8 (groupsPerPacket f.channels))
      (BitVec.ofNat 8 f.channels) (BitVec.ofNat 8 f.wordLength)
      (((gs.drop (k * groupsPerPacket f.channels)).take (groupsPerPacket f.channels)).flatten.flatMap
        (fun x => beBytes 3 x.toNat))) := by
  induction n generalizing gs with
  | zero => rfl
  | succ n ih =>
    rw [audioPackets, ih, List.range_succ_eq_map, List.map_cons, List.map_map, Nat.zero_mul, List.drop_zero]
    refine congrArg _ (List.map_congr_left fun k _ => ?_)
    rw [List.drop_drop, Function.comp_apply, Nat.succ_mul, Nat.add_comm]

/-- The packets of the second stage. -/
def audioSent (s : State) (n : Nat) : List (List Byte) :=
  match s.ain.format with
  | some f => audioPackets f s.fmon.fsn n s.ain.fifo
  | none => []

theorem audioSent_length (s : State) (cursor : Nat) :
    (audioSent s (audioAllowance s cursor)).length = audioAllowance s cursor := by
  unfold audioSent
  split
  · rw [audioPackets_eq, List.length_map, List.length_range]
  · rename_i none_
    unfold audioAllowance
    rw [none_]
    split
    · rename_i here
      cases here
    · rfl

/-- What the third stage begins with, w being the cadence work and v the state of which the plan is built. -/
structure StageBegins (v t : State) (x : Selection) : Prop where
  cursor : x.cursor = (layStanding t.fmon.geometry t.bss.factor 0 t.dueSlots).1 + (planOf v).audioPackets
  standing : (planOf v).standing = (layStanding t.fmon.geometry t.bss.factor 0 t.dueSlots).2.1
  skipped : (planOf v).skipped = (layStanding t.fmon.geometry t.bss.factor 0 t.dueSlots).2.2
  placed : x.placed = []
  sent : x.sent = (planOf v).standing.map (standingPacket t) ++ audioSent v (planOf v).audioPackets
  allowance : (planOf v).audioPackets
    = audioAllowance v (layStanding t.fmon.geometry t.bss.factor 0 t.dueSlots).1
  fmon : t.fmon = x.state.fmon
  factor : t.bss.factor = x.state.bss.factor
  apq : x.state.apq = v.apq
  rwk : x.state.rwk = v.rwk
  ses : x.state.ses = v.ses

theorem audioTaken_begins (w : CadenceWork) (v : State) : StageBegins v (buildPlan w v) (audioTaken v) := by
  have touched := buildPlan_touches w v
  have fmon : (buildPlan w v).fmon = v.fmon := touched.fmon.resolve_left (by decide)
  have factor : (buildPlan w v).bss.factor = v.bss.factor := by rw [buildPlan_bss]
  have due : (buildPlan w v).dueSlots = (buildFixed v).dueSlots := by
    unfold State.dueSlots
    rw [fmon, buildPlan_stt]
    rfl
  have packets : standingPacket (buildPlan w v) = standingPacket (buildFixed v) := by
    unfold standingPacket
    rw [fmon, buildPlan_stt]
    rfl
  have row : standingStage (buildFixed v) =
      (let r := layStanding (buildPlan w v).fmon.geometry (buildPlan w v).bss.factor 0 (buildPlan w v).dueSlots
      ⟨r.1, r.2.1, r.2.2, r.2.1.map (standingPacket (buildPlan w v))⟩) := by
    rw [fmon, factor, due, packets]
    exact standingStage_row (buildFixed v)
  have cursor : (audioTaken v).cursor = (standingStage (buildFixed v)).cursor + (planOf v).audioPackets := rfl
  have standing : (planOf v).standing = (standingStage (buildFixed v)).placed := rfl
  have skipped : (planOf v).skipped = (standingStage (buildFixed v)).skipped := rfl
  have sent : (audioTaken v).sent = (standingStage (buildFixed v)).sent ++ audioSent v (planOf v).audioPackets := rfl
  have allowance : (planOf v).audioPackets = audioAllowance v (standingStage (buildFixed v)).cursor := rfl
  rw [row] at cursor standing skipped sent allowance
  exact ⟨cursor, standing, skipped, rfl, by rw [sent, standing], allowance, fmon, factor, rfl, rfl, rfl⟩

end Sys2Proof.Machine
end

section
/-!
PROOFS. The third stage of the plan of a frame (R130 to R135): settles PacketSelection.
-/

namespace Sys2Proof.Machine

set_option Elab.async false

/-! ### The order in which the packets of a selection are placed (R131) -/

/-- The packets that have left a queue, from its head. -/
def headsTaken (before after : List Packet) : List Packet := before.take (before.length - after.length)

theorem headsTaken_append (pre rest : List Packet) : headsTaken (pre ++ rest) rest = pre := by
  rw [headsTaken, List.length_append, Nat.add_sub_cancel, List.take_left]

/-- The packets of a class that a selection places. -/
def classRow (x y : Selection) (c : PacketClass) : List Packet :=
  heldOf x.state (headsTaken (queueOf x.state.apq c) (queueOf y.state.apq c))

/-- The BULK packet placed before all others. -/
def firstRow (x y : Selection) : List Packet :=
  if x.state.apq.starve = 8 ∧ x.state.apq.bulk ≠ [] then (classRow x y .bulk).take 1 else []

/-- The packets that a selection places, in order (R131). -/
def orderRow (x y : Selection) : List Packet :=
  firstRow x y ++ classRow x y .urgent ++ classRow x y .normal ++ (classRow x y .bulk).drop (firstRow x y).length

/-- A class stops at the head of what stays queued, after the first k packets of a row (R132). -/
def StopsAt (x : Selection) (row : List Packet) (k : Nat) (rest : List Packet) : Prop := ∀ q ∈ rest.head?,
  capacity x.state.fmon.geometry x.state.bss.factor
    ≤ layAll x.state.fmon.geometry x.state.bss.factor x.cursor ((row.take k).map Packet.slots)
  ∨ (targetHeld x.state q.target = true
    ∧ ¬ ((placeAt x.state.fmon.geometry x.state.bss.factor
        (layAll x.state.fmon.geometry x.state.bss.factor x.cursor ((row.take k).map Packet.slots)) q.slots).isSome = true
      ∧ (q.ack = true → x.state.apq.awaiting.length + ((row.take k).filter (·.ack)).length < 16)))

/-- What a selection makes of x, in the terms of its queues before and after. -/
structure SelectionMade (x y : Selection) : Prop where
  urgent : y.state.apq.urgent <:+ x.state.apq.urgent
  normal : y.state.apq.normal <:+ x.state.apq.normal
  bulk : y.state.apq.bulk <:+ x.state.apq.bulk
  row : PlacesRow x (orderRow x y) y
  stopsUrgent : StopsAt x (orderRow x y) (firstRow x y ++ classRow x y .urgent).length y.state.apq.urgent
  stopsNormal : StopsAt x (orderRow x y) (firstRow x y ++ classRow x y .urgent ++ classRow x y .normal).length
    y.state.apq.normal
  stopsBulk : StopsAt x (orderRow x y) (if (x.state.apq.starve = 8 ∧ x.state.apq.bulk ≠ []) ∧ firstRow x y = [] then 0
    else (orderRow x y).length) y.state.apq.bulk
  starve : y.state.apq.starve
    = if x.state.apq.bulk = [] ∨ classRow x y .bulk ≠ [] then 0 else min 8 (x.state.apq.starve + 1)
  gone : ∀ c, ∀ q ∈ headsTaken (queueOf x.state.apq c) (queueOf y.state.apq c), targetHeld x.state q.target = false →
    sendItem .targetGone q ∈ y.state.handed

theorem PlacesRow.stops {x y : Selection} {l rest : List Packet} (h : PlacesRow x l y) (stops : Stops y rest)
    (order : List Packet) (k : Nat) (same : order.take k = l) : StopsAt x order k rest := by
  obtain ⟨fmon, bss⟩ := h.layout
  intro q head
  rw [same, ← h.cursor]
  rcases stops q head with full | blocked
  · left
    unfold Selection.free at full
    rw [fmon, bss] at full
    exact Nat.le_of_sub_eq_zero full
  · right
    obtain ⟨here, no⟩ := headCase_blocked blocked
    refine ⟨(h.holds _).symm.trans here, fun ⟨line, room⟩ => no ⟨by rw [fmon, bss]; exact line, fun ack => ?_⟩⟩
    rw [h.awaiting, List.length_append, placedRow_acks]
    exact room ack

theorem Selects.made {x x0 x1 x2 y : Selection} {b0 u n b : List Packet} (h : Selects x b0 u n b x0 x1 x2 y) :
    SelectionMade x y := by
  have urgentLeft : headsTaken (queueOf x.state.apq .urgent) (queueOf y.state.apq .urgent) = u := by
    have e : queueOf x.state.apq .urgent = u ++ queueOf y.state.apq .urgent := h.urgent
    rw [e, headsTaken_append]
  have normalLeft : headsTaken (queueOf x.state.apq .normal) (queueOf y.state.apq .normal) = n := by
    have e : queueOf x.state.apq .normal = n ++ queueOf y.state.apq .normal := h.normal
    rw [e, headsTaken_append]
  have bulkLeft : headsTaken (queueOf x.state.apq .bulk) (queueOf y.state.apq .bulk) = b0 ++ b := by
    have e : queueOf x.state.apq .bulk = (b0 ++ b) ++ queueOf y.state.apq .bulk := by
      rw [List.append_assoc]
      exact h.bulk
    rw [e, headsTaken_append]
  have urgentRow : classRow x y .urgent = heldOf x.state u := by rw [classRow, urgentLeft]
  have normalRow : classRow x y .normal = heldOf x.state n := by rw [classRow, normalLeft]
  have bulkRow : classRow x y .bulk = heldOf x.state b0 ++ heldOf x.state b := by
    rw [classRow, bulkLeft]
    exact List.filter_append ..
  have first : firstRow x y = heldOf x.state b0 ∧ (classRow x y .bulk).drop (firstRow x y).length = heldOf x.state b := by
    have count := h.first
    have stops := h.stopsBulk
    unfold firstRow
    rw [bulkRow]
    cases here : heldOf x.state b0 with
    | nil =>
      rw [here] at stops
      split
      · rename_i starving
        rw [if_pos ⟨starving.1, starving.2, rfl⟩] at stops
        rw [stops.1]
        exact ⟨rfl, rfl⟩
      · exact ⟨rfl, rfl⟩
    | cons p l =>
      rw [here] at count
      split at count
      · rename_i starving
        rw [if_pos ⟨starving.1, starving.2.1⟩]
        obtain rfl := List.eq_nil_of_length_eq_zero (Nat.succ.inj count)
        exact ⟨rfl, rfl⟩
      · cases count
  obtain ⟨first, rest⟩ := first
  have order : orderRow x y = heldOf x.state b0 ++ heldOf x.state u ++ heldOf x.state n ++ heldOf x.state b := by
    rw [orderRow, rest, first, urgentRow, normalRow]
  have takes1 := h.takesFirst.trans h.takesUrgent
  have takes2 := takes1.trans h.takesNormal
  have takes3 := takes2.trans h.takesBulk
  have row0 : PlacesRow x (heldOf x.state b0) x0 := h.takesFirst.row
  have row1 : PlacesRow x (heldOf x.state b0 ++ heldOf x.state u) x1 := by
    have row := takes1.row
    rw [List.filter_append] at row
    exact row
  have row2 : PlacesRow x (heldOf x.state b0 ++ heldOf x.state u ++ heldOf x.state n) x2 := by
    have row := takes2.row
    rw [List.filter_append, List.filter_append] at row
    exact row
  have row3 : PlacesRow x (heldOf x.state b0 ++ heldOf x.state u ++ heldOf x.state n ++ heldOf x.state b) y := by
    have row := takes3.row
    rw [List.filter_append, List.filter_append, List.filter_append] at row
    exact row
  refine ⟨⟨u, h.urgent.symm⟩, ⟨n, h.normal.symm⟩, ⟨b0 ++ b, by rw [List.append_assoc]; exact h.bulk.symm⟩, ?_, ?_, ?_, ?_, ?_,
    fun c q mem away => ?_⟩
  · rw [order]
    exact row3
  · refine row1.stops h.stopsUrgent _ _ ?_
    rw [order, first, urgentRow, List.append_assoc _ (heldOf x.state n), List.take_left]
  · refine row2.stops h.stopsNormal _ _ ?_
    rw [order, first, urgentRow, normalRow, List.take_left]
  · rw [first]
    have stops := h.stopsBulk
    split
    · rename_i away
      rw [if_pos ⟨away.1.1, away.1.2, away.2⟩] at stops
      rw [away.2] at row0
      exact row0.stops stops.2 _ _ rfl
    · rename_i other
      rw [if_neg (fun g => other ⟨⟨g.1, g.2.1⟩, g.2.2⟩)] at stops
      refine row3.stops stops _ _ ?_
      rw [List.take_length, order]
  · rw [classRow, bulkLeft]
    exact h.starve
  · refine takes3.gone q ?_ away
    cases c
    · rw [urgentLeft] at mem
      simp [mem]
    · rw [normalLeft] at mem
      simp [mem]
    · rw [bulkLeft] at mem
      rcases List.mem_append.1 mem with mem | mem <;> simp [mem]

/-! ### The third stage of a frame's plan -/

/-- What a selection hands over reaches HIF. -/
theorem stage_mem {term : Bool} {b : State} {x : Handed} (mem : x ∈ (packetsTaken (planBase term b)).state.handed) :
    x ∈ (frameBody term b).handed :=
  frameBody_mem_judged ((judgeSkips_spends _ _ _).mem mem)

theorem stage_after (term : Bool) (b : State) : (frameBody term b).apq = (packetsTaken (planBase term b)).state.apq
    ∧ (frameBody term b).rwk = (packetsTaken (planBase term b)).state.rwk :=
  ⟨buildPlan_apq _ _, (buildPlan_planned _ _).rwk.resolve_left (by decide)⟩

section
variable {s b : State} (opens : FmonOpens s b) (term : Bool)
include opens

theorem stage_targets : KeepsTargets s (audioTaken (planBase term b)).state :=
  (planBase_keepsTargets opens term).trans
    (.of_same rfl (audioTaken_begins (cadenceWork term b) (planBase term b)).rwk)

/-- The third stage selects where the session carries, no walk runs and slots are free (R112). -/
theorem stage_selects : packetsTaken (planBase term b) =
    if (frameBody term b).ses.session.carries = true ∧ s.rwk.walking = false
      ∧ (audioTaken (planBase term b)).cursor < capacity (frameBody term b).fmon.geometry (frameBody term b).bss.factor
    then selectPackets (audioTaken (planBase term b)) else audioTaken (planBase term b) := by
  have begins := audioTaken_begins (cadenceWork term b) (planBase term b)
  have ses : (audioTaken (planBase term b)).state.ses = (frameBody term b).ses :=
    begins.ses.trans ((buildPlan_touches _ _).ses.resolve_left (by decide)).symm
  unfold packetsTaken addressedStage
  rw [ses, (stage_targets opens term).walking]
  refine if_congr ?_ rfl rfl
  unfold frameBody Selection.free
  rw [begins.fmon, begins.factor]
  simp [and_assoc]

end

/-- A packet of a queue is placed exactly if its target is there. -/
theorem heldOf_there (s : State) {P : Packet → Prop} [DecidablePred P] (there : ∀ q, P q ↔ s.targetThere q.target)
    (l : List Packet) : heldOf s l = l.filter (fun q => decide (P q)) := by
  refine List.filter_congr fun q _ => ?_
  rw [Bool.eq_iff_iff, decide_eq_true_iff, targetHeld_there, there]

/-- The third stage of the frame start that takes s to t, x being what it begins with, y what it leaves and p the plan. -/
structure ThirdStage (s t : State) (p : Plan) (x y : Selection) : Prop where
  fmon : x.state.fmon = t.fmon
  factor : x.state.bss.factor = t.bss.factor
  cursor : x.cursor = (layStanding t.fmon.geometry t.bss.factor 0 t.dueSlots).1 + p.audioPackets
  urgent : x.state.apq.urgent = s.apq.urgent.filter (fun q => !q.late t.fmon.fsn)
  normal : x.state.apq.normal = s.apq.normal.filter (fun q => !q.late t.fmon.fsn)
  bulk : x.state.apq.bulk = s.apq.bulk.filter (fun q => !q.late t.fmon.fsn)
  starve : x.state.apq.starve = s.apq.starve
  awaiting : x.state.apq.awaiting = s.apq.awaiting.map
    (fun q => { q with due := q.due || q.placed.any (fun x => reached t.fmon.fsn (x + 2)) })
  holds : ∀ g, targetHeld x.state g = targetHeld s g
  tags : x.state.nextTags = s.nextTags
  none_ : x.placed = []
  sentBefore : x.sent.length = p.standing.length + p.audioPackets
  addressed : p.addressed = y.placed
  apq : t.apq = y.state.apq
  tagsAfter : t.nextTags = y.state.nextTags
  sent : t.ses.lanes = true → t.ses.session = .carrying ∨ t.ses.session = .quiet → s.packetsTo t = y.sent
  completes : s.frameHandles.Nodup → ∀ st q, sendItem st q ∈ y.state.handed → s.canComplete q.handle →
    s.completes t q.handle st (placedWord q) (sendWord q) = true

theorem thirdStage {s t b : State} {term : Bool} {p : Plan} (opens : FmonOpens s b)
    (e : t = finishAnyOrder (frameBody term b)) (settled : s.settledHands) (present : s.ses.presence = true)
    (plan : t.bss.plan = some p) :
    ThirdStage s t p (audioTaken (planBase term b)) (packetsTaken (planBase term b)) := by
  obtain ⟨hif, out, choices, finish⟩ := finishAnyOrder_spec (frameBody term b)
  have fields : t.bss = (frameBody term b).bss ∧ t.ses = (frameBody term b).ses ∧ t.fmon = (frameBody term b).fmon
      ∧ t.apq = (frameBody term b).apq ∧ t.nextTags = (frameBody term b).nextTags
      ∧ t.dueSlots = (frameBody term b).dueSlots := by
    rw [e, finish]
    generalize frameBody term b = u
    exact ⟨rfl, rfl, rfl, rfl, rfl, rfl⟩
  obtain ⟨tBss, tSes, tFmon, tApq, tTags, tDue⟩ := fields
  have begins : StageBegins (planBase term b) (frameBody term b) (audioTaken (planBase term b)) :=
    audioTaken_begins (cadenceWork term b) (planBase term b)
  obtain ⟨afterApq, afterRwk⟩ := stage_after term b
  obtain ⟨urgent, normal, bulk, starve, awaiting, -⟩ := planBase_queues opens term present
  have sent := (frame_sent opens term).2.2
  have made : p = planOf (planBase term b) := by
    rw [tBss, frameBody_plan] at plan
    exact (Option.some.inj plan).symm
  have standing : (planOf (planBase term b)).standing.length
    = ((planOf (planBase term b)).standing.map (standingPacket (frameBody term b))).length := (List.length_map ..).symm
  rw [← e, ← tSes] at sent
  have fsn : b.fmon.fsn = t.fmon.fsn := by rw [tFmon, frameBody_fmon]
  rw [← begins.apq, fsn] at urgent normal bulk awaiting
  rw [← begins.apq] at starve
  refine ⟨(tFmon.trans begins.fmon).symm, by rw [tBss]; exact begins.factor.symm, ?_, urgent, normal, bulk, starve, awaiting,
    (stage_targets opens term).holds, funext (stage_targets opens term).tags, begins.placed, ?_, by rw [made]; rfl,
    tApq.trans afterApq, ?_, fun lanes carries => ?_, fun once st q there can => ?_⟩
  · rw [tFmon, tBss, tDue, made]
    exact begins.cursor
  · rw [begins.sent, List.length_append, made, begins.allowance, audioSent_length, ← begins.allowance, ← standing]
  · rw [tTags]
    funext j
    unfold State.nextTags entryAt
    rw [afterRwk]
  · have ses : (planBase term b).ses = t.ses := ((buildPlan_touches _ _).ses.resolve_left (by decide)).symm.trans tSes.symm
    rw [sent, lanes, if_pos rfl, framePackets, ses, if_pos ((SessionState.carries_iff _).2 carries)]
  · rw [e]
    exact frame_completes opens term settled once can (stage_mem there)

theorem ThirdStage.queue {s t : State} {p : Plan} {x y : Selection} (h : ThirdStage s t p x y) (c : PacketClass) :
    queueOf x.state.apq c = (queueOf s.apq c).filter (fun q => !q.late t.fmon.fsn) := by
  cases c
  · exact h.urgent
  · exact h.normal
  · exact h.bulk

theorem ThirdStage.classRow {s t : State} {p : Plan} {x y : Selection} (h : ThirdStage s t p x y) (c : PacketClass) :
    classRow x y c
      = heldOf s (headsTaken ((queueOf s.apq c).filter (fun q => !q.late t.fmon.fsn)) (queueOf t.apq c)) := by
  rw [Machine.classRow, h.queue, h.apq]
  exact List.filter_congr fun q _ => h.holds q.target

section
variable {s t : State} {p : Plan} {x y : Selection} (h : ThirdStage s t p x y)
include h

theorem ThirdStage.awaitingLength : x.state.apq.awaiting.length = s.apq.awaiting.length := by
  rw [h.awaiting, List.length_map]

/-- A class stops for one of the reasons of R132. -/
theorem ThirdStage.stops {order rest : List Packet} {k : Nat} (stops : StopsAt x order k rest) : ∀ q ∈ rest.head?,
    capacity t.fmon.geometry t.bss.factor
      ≤ layAll t.fmon.geometry t.bss.factor ((layStanding t.fmon.geometry t.bss.factor 0 t.dueSlots).1 + p.audioPackets)
        ((order.take k).map Packet.slots)
    ∨ (s.targetThere q.target
      ∧ ¬ ((placeAt t.fmon.geometry t.bss.factor (layAll t.fmon.geometry t.bss.factor
          ((layStanding t.fmon.geometry t.bss.factor 0 t.dueSlots).1 + p.audioPackets)
          ((order.take k).map Packet.slots)) q.slots).isSome = true
        ∧ (q.ack = true → s.apq.awaiting.length + ((order.take k).filter (·.ack)).length < 16))) := by
  intro q head
  have reason := stops q head
  rw [h.fmon, h.factor, h.cursor, h.awaitingLength, h.holds, targetHeld_there] at reason
  exact reason

theorem ThirdStage.fits {order : List Packet} (row : PlacesRow x order y) (k : Nat) (q : Packet) (here : order[k]? = some q) :
    (placeAt t.fmon.geometry t.bss.factor (layAll t.fmon.geometry t.bss.factor
      ((layStanding t.fmon.geometry t.bss.factor 0 t.dueSlots).1 + p.audioPackets)
      ((order.take k).map Packet.slots)) q.slots).isSome = true
    ∧ (q.ack = true → s.apq.awaiting.length + ((order.take k).filter (·.ack)).length < 16) := by
  have fits := row.fits k q here
  rw [h.fmon, h.factor, h.cursor, h.awaitingLength] at fits
  exact fits

/-- The packets placed join the list of packets awaiting, or complete, and are sent after those of the other stages (R134). -/
theorem ThirdStage.placed {order : List Packet} (row : PlacesRow x order y) :
    t.apq.awaiting = (s.apq.awaiting.map
        (fun q => { q with due := q.due || q.placed.any (fun x => reached t.fmon.fsn (x + 2)) }))
      ++ (placedRow s.nextTags t.fmon.fsn order).filter (·.ack)
    ∧ (∀ j, t.nextTags j = s.nextTags j + freshCount order j order.length)
    ∧ p.addressed = order.map (fun q => ⟨q.target.address, q.slots⟩)
    ∧ (t.ses.lanes = true → t.ses.session = .carrying ∨ t.ses.session = .quiet →
      (s.packetsTo t).drop (p.standing.length + p.audioPackets)
        = (placedRow s.nextTags t.fmon.fsn order).map (addressedBytes · t.fmon.fsn))
    ∧ (s.frameHandles.Nodup → ∀ q ∈ placedRow s.nextTags t.fmon.fsn order, q.ack = false → s.canComplete q.handle →
      s.completes t q.handle .ok t.fmon.fsn (sendWord q) = true) := by
  obtain ⟨-, -, -, -, placed, -, awaiting, sent, tags, -, ends⟩ := row
  rw [h.tags, h.fmon] at awaiting sent ends
  rw [h.tags] at tags
  refine ⟨?_, fun j => ?_, ?_, fun lanes carries => ?_, fun once q mem plain can => ?_⟩
  · rw [h.apq, awaiting, h.awaiting]
  · rw [h.tagsAfter, tags]
  · rw [h.addressed, placed, h.none_]
    rfl
  · rw [h.sent lanes carries, sent, ← h.sentBefore, List.drop_left]
  · have now : placedWord q = t.fmon.fsn := by
      obtain ⟨k, within, rfl⟩ := List.mem_mapIdx.1 mem
      rfl
    have ended := h.completes once .ok q (ends q mem plain) can
    rw [now] at ended
    exact ended

end

/-- Settles O37. -/
theorem packetSelection : Obligations.PacketSelection := by
  intro i s t term row run fresh settled present p plan
  obtain ⟨b, opens, e⟩ := frameRow_opens row run fresh
  have third := thirdStage opens e settled present plan
  have stage := stage_selects opens term
  have late := (planBase_queues opens term present).2.2.2.2.2
  have fields : t.bss = (frameBody term b).bss ∧ t.ses = (frameBody term b).ses ∧ t.fmon = (frameBody term b).fmon := by
    obtain ⟨hif, out, choices, finish⟩ := finishAnyOrder_spec (frameBody term b)
    rw [e, finish]
    generalize frameBody term b = u
    exact ⟨rfl, rfl, rfl⟩
  obtain ⟨tBss, tSes, tFmon⟩ := fields
  rw [← tSes, ← tFmon, ← tBss] at stage
  rw [← frameBody_fmon term b, ← tFmon] at late
  intro g f now c0 carries selects live left there placed u n bulk starving b1 order cursor acks fits stops fresh_ count after
    marked
  have condition : (t.ses.session.carries = true ∧ s.rwk.walking = false
      ∧ (audioTaken (planBase term b)).cursor < capacity t.fmon.geometry t.bss.factor) ↔ selects := by
    rw [SessionState.carries_iff, third.cursor]
  refine ⟨fun once q here past can => ?_, fun away => ?_, fun chosen => ?_⟩
  · rw [e]
    exact frame_completes opens term settled once can
      (frameBody_mem_judged ((judgeSkips_spends _ _ _).mem ((planned_spends _).mem (late q here past))))
  · rw [if_neg (fun h => away (condition.1 h))] at stage
    rw [stage] at third
    exact ⟨by rw [third.apq]; exact third.urgent, by rw [third.apq]; exact third.normal, by rw [third.apq]; exact third.bulk,
      by rw [third.apq]; exact third.awaiting, by rw [third.apq]; exact third.starve, third.addressed.trans third.none_⟩
  · rw [if_pos (condition.2 chosen)] at stage
    obtain ⟨b0, u0, n0, b2, x0, x1, x2, selected⟩ := selectPackets_spec (audioTaken (planBase term b))
    rw [← stage] at selected
    have made := selected.made
    generalize audioTaken (planBase term b) = x at third made
    generalize packetsTaken (planBase term b) = y at third made
    have hu : classRow x y .urgent = u := (third.classRow .urgent).trans (heldOf_there s (P := there) (fun _ => Iff.rfl) _)
    have hn : classRow x y .normal = n := (third.classRow .normal).trans (heldOf_there s (P := there) (fun _ => Iff.rfl) _)
    have hb : classRow x y .bulk = bulk := (third.classRow .bulk).trans (heldOf_there s (P := there) (fun _ => Iff.rfl) _)
    have first : firstRow x y = b1 := by
      rw [firstRow, hb, third.starve, third.bulk]
    have horder : orderRow x y = order := by
      rw [orderRow, first, hu, hn, hb]
    obtain ⟨urgent, normal, rest, row, stopsUrgent, stopsNormal, stopsBulk, starve, gone⟩ := made
    rw [third.urgent, ← third.apq] at urgent
    rw [third.normal, ← third.apq] at normal
    rw [third.bulk, ← third.apq] at rest
    rw [horder] at row
    rw [horder, first, hu, ← third.apq] at stopsUrgent
    rw [horder, first, hu, hn, ← third.apq] at stopsNormal
    rw [horder, first, third.starve, third.bulk, ← third.apq] at stopsBulk
    rw [third.starve, third.bulk, hb, ← third.apq] at starve
    obtain ⟨awaiting, tags, addressed, sent, ends⟩ := third.placed row
    refine ⟨urgent, normal, rest, third.fits row, third.stops stopsUrgent, third.stops stopsNormal, third.stops stopsBulk,
      addressed, starve, awaiting, fun j _ => tags j, fun lanes => sent lanes chosen.1, fun once => ⟨fun q mem away can => ?_,
        fun q mem plain can => ends once q mem plain can⟩⟩
    have taken : ∃ c, q ∈ headsTaken ((queueOf s.apq c).filter (fun q => !q.late t.fmon.fsn)) (queueOf t.apq c) := by
      rcases List.mem_append.1 mem with mem | mem
      · rcases List.mem_append.1 mem with mem | mem
        · exact ⟨.urgent, mem⟩
        · exact ⟨.normal, mem⟩
      · exact ⟨.bulk, mem⟩
    obtain ⟨c, mem⟩ := taken
    rw [← third.queue, third.apq] at mem
    refine third.completes once .targetGone q (gone c q mem ?_) can
    rw [third.holds, Bool.eq_false_iff]
    exact fun held => away ((targetHeld_there s q.target).1 held)

end Sys2Proof.Machine
end

section
/-!
PROOFS. The first two stages of the plan of a frame, and what the link frame carries (R110, R111, R113): settles FramePlans.
-/

namespace Sys2Proof.Machine

set_option Elab.async false

/-! ### The audio port at a frame start (R148, R151, R152) -/

/-- FILLING becomes FLOWING with 32 groups present (R152). -/
def audioFlows (a : AudioState) (groups : List (List (BitVec 24))) : AudioState :=
  if a = .filling ∧ 32 ≤ groups.length then .flowing else a

theorem audioFill_ain (s : State) : (audioFill s).ain = { s.ain with audio := audioFlows s.ain.audio s.ain.fifo } := by
  unfold audioFill audioFlows
  split
  · rename_i filling
    split
    · rename_i full
      rw [if_pos ⟨filling, full⟩]
    · rename_i short
      rw [if_neg (fun h => short h.2)]
  · rename_i other
    rw [if_neg (fun h => other h.1)]

theorem audioSession_carrying {s : State} (carrying : s.ses.session = .carrying) : audioSession s = s := by
  unfold audioSession
  rw [carrying]

/-- Outside CARRYING the FIFO is emptied and FLOWING ends (R151). -/
theorem audioSession_else {s : State} (other : s.ses.session ≠ .carrying) : (audioSession s).ain = { s.ain with
    fifo := [], armed := true, audio := if s.ain.audio = .flowing then .filling else s.ain.audio } := by
  unfold audioSession
  split
  · rename_i carrying
    exact absurd carrying other
  · dsimp only
    split
    · rename_i flowing
      have here : s.ain.audio = .flowing := flowing
      rw [if_pos here]
      rfl
    · rename_i rest
      have here : s.ain.audio ≠ .flowing := rest
      rw [if_neg here]
      rfl

theorem applyAudio_taken {s : State} {p : PendingAudio} (pending : s.ain.pending = some p) : (applyAudio s).ain.fifo = []
    ∧ (applyAudio s).ain.audio ≠ .flowing := by
  unfold applyAudio
  rw [pending]
  dsimp only
  rw [complete_ain]
  refine ⟨rfl, ?_⟩
  unfold formatInForce
  cases p.format <;> exact fun h => nomatch h

/-- What the audio port stands at when the plan is built. -/
theorem planBase_audio {s b : State} (opens : FmonOpens s b) (term : Bool) :
    (planBase term b).ain = (audioFill (audioSession (sessionTaken term b))).ain
    ∧ (sessionTaken term b).ain = (recordsTaken term b).ain
    ∧ (s.ain.pending = none → (recordsTaken term b).ain = s.ain)
    ∧ (s.ain.pending ≠ none → (recordsTaken term b).ain.fifo = [] ∧ (recordsTaken term b).ain.audio ≠ .flowing) := by
  have before : (replaceEntries (sampleTerm term (pxpNewFrame b))).ain = s.ain :=
    ((replaceEntries_touches _).ain.resolve_left (by decide)).trans (opens.touches.ain.resolve_left (by decide))
  refine ⟨((pxpFrameStart_touches _).ain.resolve_left (by decide)).trans ((apqFrameStart_touches _).ain.resolve_left (by decide)),
    (sessionPart_touches _).ain.resolve_left (by decide), fun none_ => ?_, fun some_ => ?_⟩
  · rw [← before] at none_ ⊢
    unfold recordsTaken applyAudio
    rw [none_]
  · obtain ⟨p, pending⟩ := Option.ne_none_iff_exists'.1 some_
    rw [← before] at pending
    exact applyAudio_taken pending

/-- The groups that the plan finds in the FIFO (R148, R151). -/
def groupsAt (s t : State) : List (List (BitVec 24)) :=
  if t.ses.session = .carrying ∧ s.ain.pending = none then s.ain.fifo else []

theorem groupsAt_none {s t : State} (away : ¬ (t.ses.session = .carrying ∧ s.ain.pending = none)) : groupsAt s t = [] :=
  if_neg away

section
variable {s b : State} (opens : FmonOpens s b) (term : Bool)
include opens

theorem planBase_fifo : (planBase term b).ain.fifo = groupsAt s (frameBody term b) := by
  obtain ⟨base, taken, kept, replaced⟩ := planBase_audio opens term
  have ses := congrArg Ses.session (frameBody_ses term b)
  rw [base, audioFill_ain]
  by_cases carrying : (sessionTaken term b).ses.session = .carrying
  · rw [audioSession_carrying carrying, taken]
    by_cases pending : s.ain.pending = none
    · rw [kept pending, groupsAt, if_pos ⟨ses.trans carrying, pending⟩]
    · rw [groupsAt_none (fun h => pending h.2)]
      exact (replaced pending).1
  · rw [audioSession_else carrying, groupsAt_none (fun h => carrying (ses.symm.trans h.1))]

/-- With no format pending the audio state follows the session and the FIFO alone. -/
theorem planBase_flows (pending : s.ain.pending = none) : (planBase term b).ain.format = s.ain.format
    ∧ (planBase term b).ain.audio
      = if (frameBody term b).ses.session ≠ .carrying ∧ s.ain.audio = .flowing then .filling
        else audioFlows s.ain.audio (groupsAt s (frameBody term b)) := by
  obtain ⟨base, taken, kept, -⟩ := planBase_audio opens term
  have ses := congrArg Ses.session (frameBody_ses term b)
  rw [base, audioFill_ain]
  by_cases carrying : (sessionTaken term b).ses.session = .carrying
  · have groups : groupsAt s (frameBody term b) = s.ain.fifo := if_pos ⟨ses.trans carrying, pending⟩
    rw [audioSession_carrying carrying, taken, kept pending, groups]
    exact ⟨rfl, (if_neg (fun h => h.1 (ses.trans carrying))).symm⟩
  · rw [audioSession_else carrying, taken, kept pending, groupsAt_none (fun h => carrying (ses.symm.trans h.1))]
    refine ⟨rfl, ?_⟩
    have short : ∀ a : AudioState, audioFlows a [] = a := fun a => if_neg (fun h => absurd h.2 (by decide))
    dsimp only
    rw [short, short]
    by_cases flowing : s.ain.audio = .flowing
    · rw [if_pos flowing, if_pos ⟨fun h => carrying (ses.symm.trans h), flowing⟩]
    · rw [if_neg flowing, if_neg (fun h => flowing h.2)]

/-- Outside CARRYING, at a new format and without one no audio packet is planned. -/
theorem planBase_silent (away : ¬ ((frameBody term b).ses.session = .carrying ∧ s.ain.pending = none) ∨ s.ain.format = none)
    (cursor : Nat) : audioAllowance (planBase term b) cursor = 0 := by
  obtain ⟨base, taken, kept, replaced⟩ := planBase_audio opens term
  have ses : (planBase term b).ses = (frameBody term b).ses := ((buildPlan_touches _ _).ses.resolve_left (by decide)).symm
  unfold audioAllowance
  split
  · rename_i f carrying format
    by_cases pending : s.ain.pending = none
    · obtain ⟨same, -⟩ := planBase_flows opens term pending
      rw [same] at format
      rcases away with away | none_
      · exact absurd ⟨(congrArg Ses.session ses).symm.trans carrying, pending⟩ away
      · rw [none_] at format
        cases format
    · obtain ⟨empty, halted⟩ := replaced pending
      have offer : audioOffer (planBase term b).ain = 0 := by
        have session : (sessionTaken term b).ses.session = .carrying := by
          rw [← frameBody_ses, ← ses]
          exact carrying
        have audio : (planBase term b).ain.audio ≠ .flowing := by
          rw [base, audioFill_ain, audioSession_carrying session, taken]
          dsimp only
          rw [empty, audioFlows, if_neg (fun h => absurd h.2 (by decide))]
          exact halted
        unfold audioOffer
        split
        · rename_i flowing _
          exact absurd flowing audio
        · rfl
      rw [offer, Nat.zero_min]
  · rfl

end

/-! ### The stages of the plan -/

/-- The audio port after the plan: the groups of the audio packets have left the FIFO (R150, R152). -/
theorem frameBody_ain (term : Bool) (b : State) :
    (frameBody term b).ain.audio = (planBase term b).ain.audio
    ∧ (frameBody term b).ain.fifo = (planBase term b).ain.fifo.drop (planOf (planBase term b)).audioGroups := by
  have e : (frameBody term b).ain = (audioTaken (planBase term b)).state.ain := buildPlan_ain _ _
  rw [e]
  exact ⟨rfl, rfl⟩

theorem groupsPerPacket_eq (a : AudioFormat) : groupsPerPacket a.channels = if a.channels = 2 then 4 else 1 := rfl

/-- The third stage sends its packets after those of the other stages, one for each that it places (R113). -/
theorem addressedStage_sent {x : Selection} (none_ : x.placed = []) : ∃ l, (addressedStage x).sent = x.sent ++ l
    ∧ l.length = (addressedStage x).placed.length := by
  unfold addressedStage
  split
  · obtain ⟨b0, u, n, b, x0, x1, x2, selected⟩ := selectPackets_spec x
    have row := selected.made.row
    refine ⟨_, row.sent, ?_⟩
    rw [row.count, none_, List.length_map, placedRow_length, List.length_nil, Nat.zero_add]
  · exact ⟨[], (List.append_nil _).symm, by rw [none_]; rfl⟩

/-- The second stage in CARRYING with a format in force (R111, R152). -/
theorem planBase_allowance {s b : State} (opens : FmonOpens s b) (term : Bool) {a : AudioFormat}
    (format : s.ain.format = some a) (carrying : (frameBody term b).ses.session = .carrying) (pending : s.ain.pending = none)
    (cursor : Nat) : audioAllowance (planBase term b) cursor =
      min (if audioFlows s.ain.audio (groupsAt s (frameBody term b)) = .flowing
          then (groupsAt s (frameBody term b)).length / groupsPerPacket a.channels else 0)
        (min (ceilDiv (ceilDiv (a.rate * 1000) (frameBody term b).fmon.geometry.rate) (groupsPerPacket a.channels) + 1)
          (capacity (frameBody term b).fmon.geometry (frameBody term b).bss.factor - cursor)) := by
  have ses : (planBase term b).ses = (frameBody term b).ses := ((buildPlan_touches _ _).ses.resolve_left (by decide)).symm
  obtain ⟨same, flows⟩ := planBase_flows opens term pending
  rw [if_neg (fun h => h.1 carrying)] at flows
  have fifo := planBase_fifo opens term
  have factor : (planBase term b).bss.factor = (frameBody term b).bss.factor := by rw [frameBody, buildPlan_bss]
  have fmon : (planBase term b).fmon = (frameBody term b).fmon := ((buildPlan_touches _ _).fmon.resolve_left (by decide)).symm
  have offer : audioOffer (planBase term b).ain = if audioFlows s.ain.audio (groupsAt s (frameBody term b)) = .flowing
      then (groupsAt s (frameBody term b)).length / groupsPerPacket a.channels else 0 := by
    unfold audioOffer
    rw [flows, same, format, fifo]
    split
    · rename_i flowing some_
      rw [if_pos flowing, Option.some.inj some_]
    · rename_i rest
      rw [if_neg (fun h => rest a h rfl)]
  have part : audioPart (planBase term b).ain.format (frameBody term b).fmon.geometry.rate
      = ceilDiv (ceilDiv (a.rate * 1000) (frameBody term b).fmon.geometry.rate) (groupsPerPacket a.channels) + 1 := by
    rw [same, format]
    rfl
  unfold audioAllowance
  rw [ses, carrying, offer, fmon, part, factor, same, format]

/-- The audio packets of the plan (R152, section 12.8). -/
theorem planBase_audioSent {s b : State} (opens : FmonOpens s b) (term : Bool) {a : AudioFormat}
    (format : s.ain.format = some a) (pending : s.ain.pending = none) (n : Nat) : audioSent (planBase term b) n =
      audioPackets a (frameBody term b).fmon.fsn n (groupsAt s (frameBody term b)) := by
  have fmon : (planBase term b).fmon = (frameBody term b).fmon := ((buildPlan_touches _ _).fmon.resolve_left (by decide)).symm
  obtain ⟨same, -⟩ := planBase_flows opens term pending
  unfold audioSent
  rw [same, format, fmon, planBase_fifo opens term]

/-- What the link frame carries, stage by stage, while the session carries (R113). -/
theorem frame_packets {s b : State} (opens : FmonOpens s b) (term : Bool) (lanes : (frameBody term b).ses.lanes = true)
    (carries : (frameBody term b).ses.session = .carrying ∨ (frameBody term b).ses.session = .quiet) :
    ∃ l, s.packetsTo (finishAnyOrder (frameBody term b))
        = (planOf (planBase term b)).standing.map (standingPacket (frameBody term b))
          ++ (audioSent (planBase term b) (planOf (planBase term b)).audioPackets ++ l)
      ∧ l.length = (planOf (planBase term b)).addressed.length
      ∧ (audioSent (planBase term b) (planOf (planBase term b)).audioPackets).length
        = (planOf (planBase term b)).audioPackets := by
  have begins : StageBegins (planBase term b) (frameBody term b) (audioTaken (planBase term b)) :=
    audioTaken_begins (cadenceWork term b) (planBase term b)
  have ses : (planBase term b).ses = (frameBody term b).ses := ((buildPlan_touches _ _).ses.resolve_left (by decide)).symm
  obtain ⟨l, sent, length⟩ := addressedStage_sent begins.placed
  refine ⟨l, ?_, length, ?_⟩
  · rw [(frame_sent opens term).2.2, if_pos lanes, framePackets, ses, if_pos ((SessionState.carries_iff _).2 carries),
      packetsTaken, sent, begins.sent, List.append_assoc]
  · rw [begins.allowance, audioSent_length]

/-- Settles O36. -/
theorem framePlans : Obligations.FramePlans := by
  refine ⟨fun g f c n p some_ => ?_, fun i s t term row run fresh => ?_⟩
  · rw [placeAt_iff g f c n p some_]
    simp only [leastFrom, Bool.not_eq_true]
  · obtain ⟨b, opens, e⟩ := frameRow_opens row run fresh
    obtain ⟨hif, out, choices, finish⟩ := finishAnyOrder_spec (frameBody term b)
    have fields : t.bss = (frameBody term b).bss ∧ t.ses = (frameBody term b).ses ∧ t.fmon = (frameBody term b).fmon
        ∧ t.ain = (frameBody term b).ain ∧ t.stt = (frameBody term b).stt ∧ t.dueSlots = (frameBody term b).dueSlots := by
      rw [e, finish]
      generalize frameBody term b = u
      exact ⟨rfl, rfl, rfl, rfl, rfl, rfl⟩
    obtain ⟨tBss, tSes, tFmon, tAin, tStt, tDue⟩ := fields
    have begins : StageBegins (planBase term b) (frameBody term b) (audioTaken (planBase term b)) :=
      audioTaken_begins (cadenceWork term b) (planBase term b)
    have standing := begins.standing
    have skipped := begins.skipped
    have allowance := begins.allowance
    obtain ⟨audio, fifo⟩ := frameBody_ain term b
    have groupsT : groupsAt s (frameBody term b) = groupsAt s t := by
      unfold groupsAt
      rw [tSes]
    have found := planBase_fifo opens term
    have planned := fun a => planBase_allowance opens term (a := a)
    have silent := planBase_silent opens term
    have flowing := planBase_flows opens term
    have packets := frame_packets opens term
    have sent := fun a => planBase_audioSent opens term (a := a)
    have groupCount : (planOf (planBase term b)).audioGroups = (planOf (planBase term b)).audioPackets
      * groupsPerPacket (((planBase term b).ain.format.map (·.channels)).getD 0) := rfl
    have packet : standingPacket (frameBody term b) = standingPacket t := by
      unfold standingPacket
      rw [tFmon, tStt]
    rw [← e, ← tSes, packet] at packets
    rw [← tFmon, ← tBss, ← tDue] at standing skipped allowance
    simp only [← tSes, ← tFmon, ← tBss, groupsT] at planned
    simp only [← tFmon, groupsT] at sent
    rw [← tSes] at silent
    rw [← tSes, groupsT] at flowing
    rw [← tAin] at audio fifo
    rw [groupsT] at found
    rw [found] at fifo
    have plan : t.bss.plan = some (planOf (planBase term b)) := by rw [tBss, frameBody_plan]
    generalize planOf (planBase term b) = p at *
    refine ⟨p, plan, ?_⟩
    intro g stage gpp carrying groups flows packetOf
    refine ⟨standing, skipped, fun a format chosen => ?_, fun away => ?_, fun pending => ?_, fun lanes carries => ?_⟩
    · obtain ⟨same, -⟩ := flowing chosen.2
      rw [same, format] at groupCount
      have count : p.audioGroups = p.audioPackets * gpp a := groupCount
      rw [count] at fifo
      refine ⟨allowance.trans (planned a format chosen.1 chosen.2 _), count, fifo, fun lanes => ?_⟩
      obtain ⟨l, all, -, length⟩ := packets lanes (.inl chosen.1)
      rw [all, List.drop_left' (by rw [List.length_map]), List.take_left' length, sent a format chosen.2, audioPackets_eq]
      rfl
    · have none_ : p.audioPackets = 0 := allowance.trans (silent away _)
      rw [none_, Nat.zero_mul] at groupCount
      rw [groupCount, List.drop_zero] at fifo
      exact ⟨none_, groupCount, fifo⟩
    · obtain ⟨-, flowed⟩ := flowing pending
      rw [audio, flowed]
      refine if_congr (and_congr_left fun _ => ?_) rfl rfl
      exact not_congr ⟨fun h => ⟨h, pending⟩, fun h => h.1⟩
    · obtain ⟨l, all, rest, length⟩ := packets lanes carries
      refine ⟨?_, ?_⟩
      · rw [all, List.take_left' (by rw [List.length_map])]
        rfl
      · rw [all, List.length_append, List.length_append, List.length_map, length, rest, Nat.add_assoc]

end Sys2Proof.Machine
end

section
/-!
PROOFS. What every frame start does, whatever issues it (section 2.3): the pending records, their completions, the events and the
link frame, put together from the stages.
-/

namespace Sys2Proof.Machine

set_option Elab.async false

/-! ### SES over a frame start -/

/-- The last TERM sample, the FORMAT reason with the mark for its removal, and the QUIETs and RESUMEs that wait stay. -/
structure KeepsSes (s t : State) : Prop where
  lastTerm : t.ses.lastTerm = s.ses.lastTerm
  format : t.ses.quiet.format = s.ses.quiet.format
  waiting : t.ses.pendingQuiet = s.ses.pendingQuiet
  drops : t.ses.formatDrop = s.ses.formatDrop

theorem KeepsSes.trans {a b c : State} (h : KeepsSes a b) (k : KeepsSes b c) : KeepsSes a c :=
  ⟨k.lastTerm.trans h.lastTerm, k.format.trans h.format, k.waiting.trans h.waiting,
    k.drops.trans h.drops⟩

theorem KeepsSes.of_same {s t : State} (h : t.ses = s.ses) : KeepsSes s t := ⟨by rw [h], by rw [h], by rw [h], by rw [h]⟩

theorem setSession_keepsSes (new : SessionState) (cause : SessionCause) (s : State) : KeepsSes s (setSession new cause s) := by
  refine ⟨by rw [setSession_ses], ?_, by rw [setSession_ses], by rw [setSession_ses]⟩
  rw [setSession_ses]
  cases new <;> rfl

theorem issueLinkCheck_keepsSes (s : State) : KeepsSes s (issueLinkCheck s) :=
  ⟨by rw [issueLinkCheck_ses], by rw [issueLinkCheck_ses], by rw [issueLinkCheck_ses], by rw [issueLinkCheck_ses]⟩

theorem lcPlace_keepsSes (i : Nat) (training : Bool) (s : State) : KeepsSes s (lcPlace i training s) := by
  unfold lcPlace
  split
  · refine ⟨?_, ?_, ?_, ?_⟩ <;> rw [(joinSet_touches ..).ses.resolve_left (by decide)]
  · exact ⟨rfl, rfl, rfl, rfl⟩

/-- SES's changes, and at their end the QUIETs and RESUMEs that waited before (R16). -/
theorem sesFrameStart_ends (restart : Bool) (s : State) : ∃ u, sesFrameStart restart s = completeQuiets u ∧ KeepsSes s u :=
  sesFrameStart_rel (fun _ => .of_same rfl) .trans setSession_keepsSes
    (fun st s => ⟨by rw [endStartLink_ses], by rw [endStartLink_ses], by rw [endStartLink_ses], by rw [endStartLink_ses]⟩) (fun _ => .of_same rfl)
    lcPlace_keepsSes (fun _ _ _ _ _ _ => ⟨rfl, rfl, rfl, rfl⟩) restart s

/-- SES after its changes, and what it hands over for the QUIETs and RESUMEs that waited. -/
theorem sessionTaken_ends (term : Bool) (b : State) : (sessionTaken term b).ses.lastTerm = (cadenced term b).ses.lastTerm
    ∧ (sessionTaken term b).ses.quiet.format = (cadenced term b).ses.quiet.format
    ∧ (sessionTaken term b).ses.pendingQuiet = []
    ∧ (sessionTaken term b).ses.formatDrop = (cadenced term b).ses.formatDrop
    ∧ ∀ p ∈ (cadenced term b).ses.pendingQuiet, ⟨.ses, .completion p.handle .ok (sessionTaken term b).fmon.fsn
      (word (sessionTaken term b).ses.quiet.code)⟩ ∈ (sessionTaken term b).handed := by
  obtain ⟨u, e, kept⟩ := sesFrameStart_ends (cadenceWork term b).restart (cadenced term b)
  have ends : ∀ p ∈ u.ses.pendingQuiet, quietItem u p ∈ (completeQuiets u).handed := fun p mem => by
    rw [completeQuiets_eq]
    exact List.mem_append_right _ (List.mem_map_of_mem mem)
  have ses := completeQuiets_ses u
  have fmon : (completeQuiets u).fmon = u.fmon := (completeQuiets_touches u).fmon.resolve_left (by decide)
  rw [sessionTaken_eq, e, ← kept.waiting]
  split
  · have same := issueLinkCheck_ses (completeQuiets u)
    have fmon' : (issueLinkCheck (completeQuiets u)).fmon = u.fmon :=
      ((issueLinkCheck_touches _).fmon.resolve_left (by decide)).trans fmon
    rw [fmon', same, ses]
    exact ⟨kept.lastTerm, kept.format, rfl, kept.drops, fun p mem => (issueLinkCheck_spends _).mem (ends p mem)⟩
  · rw [fmon, ses]
    exact ⟨kept.lastTerm, kept.format, rfl, kept.drops, ends⟩

/-- What a frame start leaves of SES besides the session. -/
theorem frameBody_sesKept (term : Bool) (b : State) : (frameBody term b).ses.lastTerm = term
    ∧ (frameBody term b).ses.quiet.format = b.ses.quiet.format ∧ (frameBody term b).ses.pendingQuiet = []
    ∧ (frameBody term b).ses.formatDrop = b.ses.formatDrop := by
  obtain ⟨lastTerm, format, none_, drops, -⟩ := sessionTaken_ends term b
  have ses := cadenced_ses term b
  rw [frameBody_ses]
  exact ⟨lastTerm.trans (by rw [ses] : (cadenced term b).ses.lastTerm = term),
    format.trans (by rw [ses] : (cadenced term b).ses.quiet.format = b.ses.quiet.format), none_,
    drops.trans (by rw [ses] : (cadenced term b).ses.formatDrop = b.ses.formatDrop)⟩

theorem frameBody_pins (term : Bool) (b : State) : (frameBody term b).pins = { b.pins with term := term } :=
  (((buildPlan_touches _ _).pins.resolve_left (by decide)).trans ((planBase_touches term b).pins.resolve_left (by decide))).trans
    (((sessionPart_touches _).pins.resolve_left (by decide)).trans
      (((applyAudio_touches _).pins.resolve_left (by decide)).trans ((replaceEntries_touches _).pins.resolve_left (by decide))))

/-! ### The pending records -/

theorem cadenceStep_pending (s : State) : (cadenceStep s).1.bss.pending = s.bss.pending := by
  unfold cadenceStep
  dsimp only
  split
  · split <;> rfl
  · split
    · rw [cadenceDecision_bss]
    · rfl

/-- The pending cadence record is in force after the frame start (R109). -/
theorem frameBody_cadence {s b : State} (opens : FmonOpens s b) (term : Bool) : (frameBody term b).bss.pending = none
    ∧ ∀ p, s.bss.pending = some p → (frameBody term b).bss.mode = p.mode ∧ (frameBody term b).bss.hostFactor = p.factor
      ∧ (frameBody term b).bss.reserve = p.reserve := by
  have before : (setCadenceReason false (recordsTaken term b)).bss = s.bss :=
    ((recordsTaken_touches term b).bss.resolve_left (by decide)).trans (opens.touches.bss.resolve_left (by decide))
  obtain ⟨mode, host, reserve⟩ := frameBody_mode term b
  refine ⟨?_, fun p pending => ?_⟩
  · have kept : (frameBody term b).bss.pending = (cadenceBase term b).bss.pending := by
      rw [frameBody_bss]
      exact cadenceStep_pending _
    rw [kept]
    unfold cadenceBase applyCadence
    split
    · rfl
    · assumption
  · rw [mode, host, reserve]
    unfold cadenceBase applyCadence
    rw [before, pending]
    exact ⟨rfl, rfl, rfl⟩

/-- The plan and the session leave the format, the pending record and the capture alone, and with an empty FIFO and no flow the
audio state too. -/
theorem frameBody_ainKept {s b : State} (opens : FmonOpens s b) (term : Bool) :
    (frameBody term b).ain.pending = (recordsTaken term b).ain.pending
    ∧ (frameBody term b).ain.format = (recordsTaken term b).ain.format
    ∧ (frameBody term b).ain.capturing = (recordsTaken term b).ain.capturing
    ∧ ((recordsTaken term b).ain.fifo = [] → (recordsTaken term b).ain.audio ≠ .flowing →
      (frameBody term b).ain.audio = (recordsTaken term b).ain.audio) := by
  obtain ⟨base, taken, -, -⟩ := planBase_audio opens term
  have e : (frameBody term b).ain = (audioTaken (planBase term b)).state.ain := buildPlan_ain _ _
  have kept : (frameBody term b).ain.pending = (planBase term b).ain.pending
      ∧ (frameBody term b).ain.format = (planBase term b).ain.format
      ∧ (frameBody term b).ain.capturing = (planBase term b).ain.capturing := by
    rw [e]
    exact ⟨rfl, rfl, rfl⟩
  obtain ⟨pending, format, capturing⟩ := kept
  have audio := (frameBody_ain term b).1
  have short : ∀ a : AudioState, audioFlows a [] = a := fun a => if_neg (fun h => absurd h.2 (by decide))
  rw [pending, format, capturing, audio, base, audioFill_ain, ← taken]
  by_cases carrying : (sessionTaken term b).ses.session = .carrying
  · rw [audioSession_carrying carrying]
    exact ⟨rfl, rfl, rfl, fun empty _ => by rw [empty]; exact short _⟩
  · rw [audioSession_else carrying]
    exact ⟨rfl, rfl, rfl, fun _ still => (short _).trans (if_neg still)⟩

theorem applyAudio_format {s : State} {p : PendingAudio} (pending : s.ain.pending = some p) :
    (applyAudio s).ain = (formatInForce p.format s).ain := by
  unfold applyAudio
  rw [pending]
  dsimp only
  rw [complete_ain]

/-- The pending audio record is in force, with the FIFO filling anew (R148). -/
theorem frameBody_audio {s b : State} (opens : FmonOpens s b) (term : Bool) : (frameBody term b).ain.pending = none
    ∧ ∀ p, s.ain.pending = some p → (frameBody term b).ain.format = p.format
      ∧ (frameBody term b).ain.audio = (if p.format.isSome then .filling else .off) ∧ (frameBody term b).ain.capturing = false := by
  obtain ⟨pending, format, capturing, audio⟩ := frameBody_ainKept opens term
  have before : (replaceEntries (sampleTerm term (pxpNewFrame b))).ain = s.ain :=
    ((replaceEntries_touches _).ain.resolve_left (by decide)).trans (opens.touches.ain.resolve_left (by decide))
  have taken : ∀ p, s.ain.pending = some p → (recordsTaken term b).ain
      = (formatInForce p.format (replaceEntries (sampleTerm term (pxpNewFrame b)))).ain := fun p some_ =>
    applyAudio_format (by rw [before]; exact some_)
  refine ⟨?_, fun p some_ => ?_⟩
  · rw [pending]
    cases here : s.ain.pending with
    | none => rw [(planBase_audio opens term).2.2.1 here, here]
    | some p =>
      rw [taken p here]
      rfl
  · obtain ⟨empty, still⟩ := (planBase_audio opens term).2.2.2 (by rw [some_]; exact fun h => nomatch h)
    rw [format, capturing, audio empty still, taken p some_]
    exact ⟨rfl, rfl, rfl⟩

/-- What PXP's part of a frame start makes of its records (R164 to R166). -/
theorem pxpFrameStart_pxp (s : State) : (pxpFrameStart s).pxp.pendingTransform = none
    ∧ (pxpFrameStart s).pxp.pendingFill = none
    ∧ (∀ p, s.pxp.pendingTransform = some p → (pxpFrameStart s).pxp.transform = p.transform
      ∧ (pxpFrameStart s).pxp.range = p.range)
    ∧ (∀ p, s.pxp.pendingFill = some p → (pxpFrameStart s).pxp.fill = p.fill)
    ∧ (pxpFrameStart s).pxp.source = sourceFor s.ses.session s.fmon.monitor
    ∧ (pxpFrameStart s).pxp.lineCount = s.pxp.lineCount ∧ (pxpFrameStart s).pxp.pixelCount = s.pxp.pixelCount
    ∧ (pxpFrameStart s).pxp.run = s.pxp.run ∧ (pxpFrameStart s).pxp.picture = s.pxp.picture := by
  unfold pxpFrameStart applyFill applyTransform
  cases transform : s.pxp.pendingTransform <;> cases fill : s.pxp.pendingFill <;> simp [complete, hand, transform, fill]

/-- What PXP's part of a frame start finds. -/
theorem planStages_pxp {s b : State} (opens : FmonOpens s b) (term : Bool) :
    (apqFrameStart (audioFill (audioSession (sessionTaken term b)))).pxp = { s.pxp with
      lineCount := 0, pixelCount := 0, run := [], picture := [], lineOpen := false, newFrame := true
      codeErrors := b.pxp.codeErrors, errorReported := b.pxp.errorReported } := by
  have stages : Touches [.ain, .apq, .sbc] (sessionTaken term b) (apqFrameStart (audioFill (audioSession (sessionTaken term b)))) :=
    (((audioSession_touches _).mono (by decide)).trans ((audioFill_touches _).mono (by decide))).trans
      ((apqFrameStart_touches _).mono (by decide))
  have records : (recordsTaken term b).pxp = (pxpNewFrame b).pxp :=
    ((applyAudio_touches _).pxp.resolve_left (by decide)).trans ((replaceEntries_touches _).pxp.resolve_left (by decide))
  have taken : (pxpNewFrame b).pxp = { b.pxp with
      lineCount := 0, pixelCount := 0, run := [], picture := [], lineOpen := false, newFrame := true } := rfl
  rw [stages.pxp.resolve_left (by decide), sessionTaken, (sessionPart_touches _).pxp.resolve_left (by decide), records, taken,
    opens.pxp]

/-- PXP after a frame start (R159, R164 to R166). -/
theorem frameBody_pxpKept {s b : State} (opens : FmonOpens s b) (term : Bool) :
    (frameBody term b).pxp.pendingTransform = none ∧ (frameBody term b).pxp.pendingFill = none
    ∧ (∀ p, s.pxp.pendingTransform = some p → (frameBody term b).pxp.transform = p.transform
      ∧ (frameBody term b).pxp.range = p.range)
    ∧ (∀ p, s.pxp.pendingFill = some p → (frameBody term b).pxp.fill = p.fill)
    ∧ (frameBody term b).pxp.source = sourceFor (frameBody term b).ses.session (frameBody term b).fmon.monitor
    ∧ (frameBody term b).pxp.lineCount = 0 ∧ (frameBody term b).pxp.pixelCount = 0 ∧ (frameBody term b).pxp.run = []
    ∧ (frameBody term b).pxp.picture = [] := by
  have stages : Touches [.ain, .apq, .sbc] (sessionTaken term b) (apqFrameStart (audioFill (audioSession (sessionTaken term b)))) :=
    (((audioSession_touches _).mono (by decide)).trans ((audioFill_touches _).mono (by decide))).trans
      ((apqFrameStart_touches _).mono (by decide))
  have ses : (apqFrameStart (audioFill (audioSession (sessionTaken term b)))).ses = (frameBody term b).ses :=
    (stages.ses.resolve_left (by decide)).trans (frameBody_ses term b).symm
  have fmon : (apqFrameStart (audioFill (audioSession (sessionTaken term b)))).fmon = (frameBody term b).fmon :=
    ((pxpFrameStart_touches _).fmon.resolve_left (by decide)).symm.trans ((buildPlan_touches _ _).fmon.resolve_left (by decide)).symm
  have made := pxpFrameStart_pxp (apqFrameStart (audioFill (audioSession (sessionTaken term b))))
  have e : (frameBody term b).pxp = (pxpFrameStart (apqFrameStart (audioFill (audioSession (sessionTaken term b))))).pxp :=
    frameBody_pxp term b
  rw [← e, ses, fmon, planStages_pxp opens term] at made
  exact made

/-! ### The standing table -/

/-- FORMAT and TALLY get their payloads, and nothing else of the table changes (R117, R118). -/
theorem buildFixed_at (s : State) (i : Nat) : (buildFixed s).stt.entries[i]? = (s.stt.entries[i]?).map
    (fun e => { e with
      payload := if i = 0 then formatPayload s else if i = 1 then tallyPayload s else e.payload }) := by
  unfold buildFixed
  rw [List.getElem?_modify, List.getElem?_modify]
  cases s.stt.entries[i]? with
  | none => rfl
  | some e =>
    by_cases zero : i = 0
    · subst zero
      rfl
    · by_cases one : i = 1
      · subst one
        rfl
      · simp [zero, one, Ne.symm zero, Ne.symm one]

/-- Every entry of the table after a frame start: its pending record is in force, and FORMAT and TALLY are built anew. -/
theorem frameBody_entries {s b : State} (opens : FmonOpens s b) (term : Bool) :
    (frameBody term b).stt.entries.length = s.stt.entries.length
    ∧ ∀ i, ∃ payload : List Byte, (frameBody term b).stt.entries[i]? = (s.stt.entries[i]?).map
        (fun e : StandingEntry => { e.taken with payload := if i < 2 then payload else e.taken.payload }) := by
  have entries : (planBase term b).stt.entries = s.stt.entries.map StandingEntry.taken := by
    rw [planBase_stt, replaceEntries_eq]
    exact congrArg (fun x => x.entries.map StandingEntry.taken) (opens.touches.stt.resolve_left (by decide))
  have e : (frameBody term b).stt = (buildFixed (planBase term b)).stt := buildPlan_stt _ _
  rw [e]
  refine ⟨?_, fun i => ⟨if i = 0 then formatPayload (planBase term b) else tallyPayload (planBase term b), ?_⟩⟩
  · unfold buildFixed
    rw [List.length_modify, List.length_modify, entries, List.length_map]
  · rw [buildFixed_at, entries, List.getElem?_map, Option.map_map]
    refine congrArg (fun f => Option.map f s.stt.entries[i]?) (funext fun x => ?_)
    rw [Function.comp_apply]
    by_cases zero : i = 0
    · subst zero
      rfl
    · by_cases one : i = 1
      · subst one
        rfl
      · have late : ¬ i < 2 := by omega
        rw [if_neg zero, if_neg one, if_neg late]

/-! ### The completions (R16, R109, R122, R148, R164, R165) -/

/-- What is handed over before the plan reaches HIF. -/
theorem frameBody_mem_base {term : Bool} {b : State} {x : Handed} (mem : x ∈ (planBase term b).handed) :
    x ∈ (frameBody term b).handed :=
  frameBody_mem_judged ((judgeSkips_spends _ _ _).mem ((planned_spends _).mem mem))

theorem frameBody_mem_records {term : Bool} {b : State} {x : Handed} (mem : x ∈ (recordsTaken term b).handed) :
    x ∈ (frameBody term b).handed := frameBody_mem ((bssFrameStart_spends _).mem mem)

section
variable {s b : State} (opens : FmonOpens s b) (term : Bool)
include opens

theorem cadence_handed {p : PendingCadence} (pending : s.bss.pending = some p) :
    ⟨.bss, .completion p.handle .ok (frameBody term b).fmon.fsn (cadenceWord (frameBody term b).bss)⟩
      ∈ (frameBody term b).handed := by
  have before : (recordsTaken term b).bss = s.bss :=
    ((recordsTaken_touches term b).bss.resolve_left (by decide)).trans (opens.touches.bss.resolve_left (by decide))
  have fmon : (cadenceStep (cadenceBase term b)).1.fmon = (frameBody term b).fmon :=
    ((cadenceStep_touches _).fmon.resolve_left (by decide)).trans ((cadenceBase_fmon term b).trans (frameBody_fmon term b).symm)
  have word_ : cadenceWord (frameBody term b).bss = cadenceWord (cadenceStep (cadenceBase term b)).1.bss := by
    unfold cadenceWord
    rw [frameBody_bss]
  refine frameBody_mem ?_
  have e : cadenced term b = complete .bss p.handle .ok (cadenceStep (cadenceBase term b)).1.fmon.fsn
      (cadenceWord (cadenceStep (cadenceBase term b)).1.bss) (cadenceStep (cadenceBase term b)).1 := by
    unfold cadenced bssFrameStart
    rw [before, pending]
    rfl
  rw [e, fmon, word_, complete_handed]
  exact List.mem_append_right _ (List.mem_singleton_self _)

theorem audio_handed {p : PendingAudio} (pending : s.ain.pending = some p) :
    ⟨.ain, .completion p.handle .ok (frameBody term b).fmon.fsn (match p.format with
      | some f => word (f.channels + 2 ^ 4 * 1 + 2 ^ 6 * f.wordLength + 2 ^ 12 * f.rate)
      | none => 0)⟩ ∈ (frameBody term b).handed := by
  have stt := replaceEntries_touches (sampleTerm term (pxpNewFrame b))
  have before : (replaceEntries (sampleTerm term (pxpNewFrame b))).ain = s.ain :=
    (stt.ain.resolve_left (by decide)).trans (opens.touches.ain.resolve_left (by decide))
  have fmon : (replaceEntries (sampleTerm term (pxpNewFrame b))).fmon = (frameBody term b).fmon :=
    (stt.fmon.resolve_left (by decide)).trans (frameBody_fmon term b).symm
  refine frameBody_mem_records ?_
  unfold recordsTaken applyAudio
  rw [before, pending]
  dsimp only
  rw [complete_handed, ← fmon]
  refine List.mem_append_right _ (List.mem_singleton.2 ?_)
  cases format : p.format <;> rfl

theorem standing_handed {i : Nat} {e : StandingEntry} (here : s.stt.entries[i]? = some e) {p : PendingStanding}
    (pending : e.pending = some p) :
    ⟨.stt, .completion p.handle .ok (frameBody term b).fmon.fsn (standingWord i (e.replaced p))⟩
      ∈ (frameBody term b).handed := by
  refine frameBody_mem_records ((applyAudio_spends _).mem ?_)
  have stt : (sampleTerm term (pxpNewFrame b)).stt = s.stt := opens.touches.stt.resolve_left (by decide)
  rw [replaceEntries_eq, stt, frameBody_fmon]
  refine List.mem_append_right _ (List.mem_flatMap.2 ⟨(e, i), ?_, ?_⟩)
  · exact List.mk_mem_zipIdx_iff_getElem?.2 here
  · unfold standingItem
    rw [pending]
    exact List.mem_singleton_self _

theorem quiet_handed {p : PendingQuiet} (waits : p ∈ s.ses.pendingQuiet) :
    ⟨.ses, .completion p.handle .ok (frameBody term b).fmon.fsn (word (frameBody term b).ses.quiet.code)⟩
      ∈ (frameBody term b).handed := by
  have same : (cadenced term b).ses.pendingQuiet = s.ses.pendingQuiet := by
    rw [cadenced_ses, opens.ses]
  have fmon : (sessionTaken term b).fmon = (frameBody term b).fmon :=
    ((planBase_touches term b).fmon.resolve_left (by decide)).symm.trans ((buildPlan_touches _ _).fmon.resolve_left (by decide)).symm
  have ends := (sessionTaken_ends term b).2.2.2.2 p (by rw [same]; exact waits)
  rw [fmon, ← frameBody_ses] at ends
  exact frameBody_mem_base ((planBase_spends term b).mem ends)

theorem pxp_handed : (∀ p, s.pxp.pendingTransform = some p →
      ⟨.pxp, .completion p.handle .ok (frameBody term b).fmon.fsn (word p.range.code)⟩ ∈ (frameBody term b).handed)
    ∧ (∀ p, s.pxp.pendingFill = some p →
      ⟨.pxp, .completion p.handle .ok (frameBody term b).fmon.fsn (fillWord p.fill)⟩ ∈ (frameBody term b).handed) := by
  have handed : ∀ u : State, (∀ p, u.pxp.pendingTransform = some p →
      ⟨.pxp, .completion p.handle .ok u.fmon.fsn (word p.range.code)⟩ ∈ (pxpFrameStart u).handed)
    ∧ (∀ p, u.pxp.pendingFill = some p →
      ⟨.pxp, .completion p.handle .ok u.fmon.fsn (fillWord p.fill)⟩ ∈ (pxpFrameStart u).handed) := by
    intro u
    unfold pxpFrameStart applyFill applyTransform
    cases transform : u.pxp.pendingTransform <;> cases fill : u.pxp.pendingFill <;> simp [complete, hand, transform, fill]
  obtain ⟨transform, fill⟩ := handed (apqFrameStart (audioFill (audioSession (sessionTaken term b))))
  have pxp := planStages_pxp opens term
  have fmon : (apqFrameStart (audioFill (audioSession (sessionTaken term b)))).fmon = (frameBody term b).fmon :=
    ((pxpFrameStart_touches _).fmon.resolve_left (by decide)).symm.trans ((buildPlan_touches _ _).fmon.resolve_left (by decide)).symm
  rw [fmon, pxp] at transform fill
  exact ⟨fun p pending => frameBody_mem_base (transform p pending), fun p pending => frameBody_mem_base (fill p pending)⟩

/-- The commands that waited for the frame start have completed. -/
theorem frameCompletes (settled : s.handed = []) (once : s.frameHandles.Nodup) {t : State}
    (e : t = finishAnyOrder (frameBody term b)) (fmon : t.fmon = (frameBody term b).fmon)
    (ses : t.ses = (frameBody term b).ses) (bss : t.bss = (frameBody term b).bss) : s.FrameCompletes t := by
  have ended : ∀ {o : Owner} {h : Handle} {st : Status} {w v : Word}, s.canComplete h →
      ⟨o, .completion h st w v⟩ ∈ (frameBody term b).handed → s.completes t h st w v = true := fun can there => by
    rw [e]
    exact frame_completes opens term settled once can there
  obtain ⟨transform, fill⟩ := pxp_handed opens term
  refine ⟨fun p pending can => ?_, fun p pending can => ?_, fun p pending can => ?_, fun p pending can => ?_,
    fun p waits can => ?_, fun i _ x here p pending can => ?_⟩
  · rw [fmon, bss]
    exact ended can (cadence_handed opens term pending)
  · rw [fmon]
    exact ended can (audio_handed opens term pending)
  · rw [fmon]
    have there := ended can (transform p pending)
    cases range : p.range <;> rw [range] at there <;> exact there
  · rw [fmon]
    exact ended can (fill p pending)
  · rw [fmon, ses]
    exact ended can (quiet_handed opens term waits)
  · rw [fmon]
    exact ended can (standing_handed opens term here pending)

end

/-! ### Every frame start -/

/-- The plan of a frame start, within the slots of its frame (R110 to R113). -/
theorem frameBody_planned (term : Bool) (b : State) : ∃ p, (frameBody term b).bss.plan = some p ∧ p.fsn = (frameBody term b).fmon.fsn
    ∧ p.factor = (frameBody term b).bss.factor
    ∧ p.slots = capacity (frameBody term b).fmon.geometry (frameBody term b).bss.factor ∧ p.used ≤ p.slots
    ∧ p.quiet = decide ((frameBody term b).ses.session = .quiet) := by
  have fmon : (planBase term b).fmon = (frameBody term b).fmon := ((buildPlan_touches _ _).fmon.resolve_left (by decide)).symm
  have ses : (planBase term b).ses = (frameBody term b).ses := ((buildPlan_touches _ _).ses.resolve_left (by decide)).symm
  have factor : (planBase term b).bss.factor = (frameBody term b).bss.factor := by rw [frameBody, buildPlan_bss]
  refine ⟨planOf (planBase term b), frameBody_plan term b, ?_⟩
  rw [← fmon, ← ses, ← factor]
  exact ⟨rfl, rfl, rfl, stages_fit (buildFixed (planBase term b)), rfl⟩

/-- What is left of the table's entries by a frame start, entry by entry (R122). -/
theorem frameBody_standing {s b : State} (opens : FmonOpens s b) (term : Bool) :
    (∀ e ∈ (frameBody term b).stt.entries, e.pending = none)
    ∧ ∀ i e, s.stt.entries[i]? = some e →
      (2 ≤ i → (frameBody term b).stt.entries[i]? = some e.taken)
      ∧ (i < 2 → ((frameBody term b).stt.entries[i]?).map (fun x => { x with payload := e.taken.payload }) = some e.taken) := by
  have entries := (frameBody_entries opens term).2
  refine ⟨fun e mem => ?_, fun i e here => ?_⟩
  · obtain ⟨i, at_⟩ := List.mem_iff_getElem?.1 mem
    obtain ⟨payload, after⟩ := entries i
    rw [at_] at after
    obtain ⟨x, -, taken⟩ := Option.map_eq_some_iff.1 after.symm
    rw [← taken]
    exact taken_pending x
  · obtain ⟨payload, after⟩ := entries i
    rw [after, here]
    refine ⟨fun late => ?_, fun _ => rfl⟩
    rw [Option.map_some, if_neg (Nat.not_lt.2 late)]

/-- Every frame start does what FrameOpened says. -/
theorem frameOpened {s b : State} (opens : FmonOpens s b) (term : Bool) (settled : s.handed = []) :
    s.FrameOpened (finishAnyOrder (frameBody term b)) term := by
  obtain ⟨t, e⟩ : ∃ t, t = finishAnyOrder (frameBody term b) := ⟨_, rfl⟩
  have fields : t.bss = (frameBody term b).bss ∧ t.ses = (frameBody term b).ses ∧ t.fmon = (frameBody term b).fmon
      ∧ t.ain = (frameBody term b).ain ∧ t.stt = (frameBody term b).stt ∧ t.pxp = (frameBody term b).pxp
      ∧ t.pins = (frameBody term b).pins := by
    obtain ⟨hif, out, choices, finish⟩ := finishAnyOrder_spec (frameBody term b)
    rw [e, finish]
    generalize frameBody term b = u
    exact ⟨rfl, rfl, rfl, rfl, rfl, rfl, rfl⟩
  obtain ⟨tBss, tSes, tFmon, tAin, tStt, tPxp, tPins⟩ := fields
  obtain ⟨before, frames, packets⟩ := frame_sent opens term
  obtain ⟨lastTerm, format, quiets, -⟩ := frameBody_sesKept term b
  obtain ⟨noTransform, noFill, transform, fill, source, picture⟩ := frameBody_pxpKept opens term
  have cadence := frameBody_cadence opens term
  have audio := frameBody_audio opens term
  have completions := fun once => frameCompletes opens term settled once e tFmon tSes tBss
  have length := (frameBody_entries opens term).1
  obtain ⟨entries, entry⟩ := frameBody_standing opens term
  have plan := frameBody_planned term b
  have pins := frameBody_pins term b
  have fmon := frameBody_fmon term b
  have reported : ∀ {o : Owner} {event : Event}, s.listens event.kind = true →
      ⟨o, .event event⟩ ∈ (frameBody term b).handed → s.reports t event = true := fun listens there => by
    rw [e]
    exact frame_reports opens term settled listens there
  have content : linkContent (frameBody term b) = linkContent t := by
    unfold linkContent
    rw [tSes, tPxp]
  unfold frameOutput at frames
  rw [content] at frames
  rw [← e, ← tSes] at packets
  rw [← e, ← tSes, ← tFmon, ← tBss] at frames
  rw [← tSes] at lastTerm format quiets
  rw [← tPxp] at noTransform noFill transform fill source picture
  rw [← tSes, ← tFmon] at source
  rw [← tBss] at cadence
  rw [← tAin] at audio
  rw [← tStt] at length entries entry
  rw [← tBss, ← tFmon, ← tSes] at plan
  rw [← tPins, opens.touches.pins.resolve_left (by decide)] at pins
  rw [← tFmon] at fmon
  rw [← e] at before ⊢
  refine ⟨by rw [fmon]; exact opens.counted, ⟨by rw [fmon]; exact opens.lossReport, fun waits => ?_⟩, ⟨lastTerm, pins⟩, quiets,
    cadence, audio, ⟨noTransform, transform⟩, ⟨noFill, fill⟩, ⟨length, entries, fun i _ x here => ?_⟩, completions, source,
    picture, plan, ⟨before, ?_, fun training => ?_⟩⟩
  · obtain ⟨reason, posted⟩ := opens.lost waits
    exact ⟨fun auto => format.trans (reason auto), fun listens =>
      reported listens (frameBody_mem_records ((recordsTaken_spends term b).mem posted))⟩
  · have taken : x.taken = match x.pending with
        | some p => ⟨p.enabled, p.period, p.phase, p.kind, p.payload, x.version + 1, none⟩
        | none => x := by
      unfold StandingEntry.taken
      cases x.pending <;> rfl
    have both := entry i x here
    rw [taken] at both
    exact both
  · rw [frames, packets]
    cases t.ses.lanes <;> rfl
  · have base : (planBase term b).ses = t.ses := ((buildPlan_touches _ _).ses.resolve_left (by decide)).symm.trans tSes.symm
    rw [packets, framePackets, base, training]
    cases t.ses.lanes <;> rfl

end Sys2Proof.Machine
end

section
/-!
PROOFS. What issues a frame start, and FMON's own part of it (R23 to R30): settles FlywheelFrames and InputBoundaries.
-/

namespace Sys2Proof.Machine

set_option Elab.async false

/-! ### FMON's part and what the rest leaves of it -/

theorem postLost_fmon (c : LossCause) (s : State) : (postLost c s).fmon = s.fmon := by
  unfold postLost
  dsimp only
  split <;> rfl

theorem postLost_now (c : LossCause) (s : State) : (postLost c s).now = s.now := by
  unfold postLost
  dsimp only
  split <;> rfl

/-- FORMAT_LOST is posted, and with AUTO_QUIET the FORMAT reason stands (R17). -/
theorem postLost_posts (c : LossCause) (s : State) : (s.ses.autoQuiet = true → (postLost c s).ses.quiet.format = true)
    ∧ ⟨.fmon, .event (.formatLost s.fmon.geometry.code c)⟩ ∈ (postLost c s).handed := by
  refine ⟨fun auto => ?_, List.mem_append_right _ (List.mem_singleton_self _)⟩
  unfold postLost
  rw [if_pos auto]
  rfl

theorem countFrame_autoQuiet (s : State) : (countFrame s).ses.autoQuiet = s.ses.autoQuiet := by
  unfold countFrame reportInputMode postLost
  split
  · dsimp only
    split <;> rfl
  · rfl

theorem dropFormat_autoQuiet (s : State) : (dropFormat s).ses.autoQuiet = s.ses.autoQuiet := by
  unfold dropFormat
  split <;> rfl

theorem countFrame_fmon (s : State) :
    (countFrame s).fmon = { s.fmon with fsn := s.fmon.fsn + 1, lossReport := false } := by
  unfold countFrame reportInputMode
  split
  · rw [postLost_fmon]
  · rename_i silent
    have none_ : s.fmon.lossReport = false := Bool.eq_false_iff.2 silent
    simp [none_]

theorem countFrame_now (s : State) : (countFrame s).now = s.now := by
  unfold countFrame reportInputMode
  split
  · rw [postLost_now]
  · rfl

theorem dropFormat_fmon (s : State) : (dropFormat s).fmon = s.fmon := by
  unfold dropFormat
  split <;> rfl

theorem dropFormat_now (s : State) : (dropFormat s).now = s.now := by
  unfold dropFormat
  split <;> rfl

theorem pxpFrameStart_codeErrors (s : State) : (pxpFrameStart s).pxp.codeErrors = s.pxp.codeErrors := by
  unfold pxpFrameStart applyFill applyTransform
  cases transform : s.pxp.pendingTransform <;> cases fill : s.pxp.pendingFill <;> simp [complete, hand, transform, fill]

/-- What a frame start leaves as FMON's part of it has left it. -/
theorem frame_leaves {s b t : State} (opens : FmonOpens s b) {term : Bool} (e : t = finishAnyOrder (frameBody term b)) :
    t.fmon = b.fmon ∧ t.now = b.now ∧ t.pxp.codeErrors = b.pxp.codeErrors ∧ t.ses.quiet.format = b.ses.quiet.format
    ∧ t.ses.formatDrop = b.ses.formatDrop := by
  have fields : t.fmon = (frameBody term b).fmon ∧ t.now = (frameBody term b).now ∧ t.pxp = (frameBody term b).pxp
      ∧ t.ses = (frameBody term b).ses := by
    obtain ⟨hif, out, choices, finish⟩ := finishAnyOrder_spec (frameBody term b)
    rw [e, finish]
    generalize frameBody term b = u
    exact ⟨rfl, rfl, rfl, rfl⟩
  obtain ⟨fmon, now, pxp, ses⟩ := fields
  have stages : (frameBody term b).now = b.now :=
    (((buildPlan_touches _ _).now.resolve_left (by decide)).trans ((planBase_touches term b).now.resolve_left (by decide))).trans
      (((sessionPart_touches _).now.resolve_left (by decide)).trans ((recordsTaken_touches term b).now.resolve_left (by decide)))
  refine ⟨fmon.trans (frameBody_fmon term b), now.trans stages, ?_, by rw [ses]; exact (frameBody_sesKept term b).2.1,
    by rw [ses]; exact (frameBody_sesKept term b).2.2.2⟩
  have made : (frameBody term b).pxp = (pxpFrameStart (apqFrameStart (audioFill (audioSession (sessionTaken term b))))).pxp :=
    frameBody_pxp term b
  rw [pxp, made, pxpFrameStart_codeErrors, planStages_pxp opens term]

/-! ### The flywheel (R25, R27) -/

theorem flywheelElapsed_frame (s : State) (term : Bool) (none_ : s.fmon.monitor = .noSignal) : ∃ b, FmonOpens s b
    ∧ flywheelElapsed term s = frameBody term b
    ∧ b.fmon = { s.fmon with
      fsn := s.fmon.fsn + 1, lossReport := false, lastFly := max s.now (s.fmon.lastFly + s.fmon.flyPeriod) }
    ∧ b.now = max s.now (s.fmon.lastFly + s.fmon.flyPeriod) := by
  refine ⟨fmonFlywheel (dropFormat (advanceTo (s.fmon.lastFly + s.fmon.flyPeriod) s)),
    (fmonOpens_flywheel _).after (advanceTo_fmonStep _ s), ?_, ?_, ?_⟩
  · rw [flywheelElapsed, none_]
    rfl
  · rw [fmonFlywheel, countFrame_fmon, dropFormat_fmon, dropFormat_now]
    rfl
  · rw [fmonFlywheel, countFrame_now]
    exact dropFormat_now _

theorem activityTimeout_opens (s : State) (term : Bool) {a : Nat} (some_ : s.fmon.monitor ≠ .noSignal)
    (activity : s.fmon.activity = some a) : ∃ b, FmonOpens s b
    ∧ exec (.activityTimeout term) s = .next (finishAnyOrder (frameBody term b))
    ∧ b.fmon = { s.fmon with
      fsn := s.fmon.fsn + 1, lossReport := false, lastFly := max s.now (a + 2700000), flyRunning := true
      monitor := .noSignal, measuring := none, reference := none, equalCount := 0, prevAlign := none, activity := none }
    ∧ b.now = max s.now (a + 2700000)
    ∧ (s.fmon.monitor = .locked → (s.ses.autoQuiet = true → b.ses.quiet.format = true)
      ∧ ⟨.fmon, .event (.formatLost s.fmon.geometry.code .noSignal)⟩ ∈ b.handed) := by
  have fly : ∀ d : State, d.fmon = s.fmon → d.now = max s.now (a + 2700000) →
      (fmonFlywheel { d with fmon := { d.fmon with
        monitor := .noSignal, measuring := none, reference := none, equalCount := 0, prevAlign := none
        activity := none, flyRunning := true } }).fmon = { s.fmon with
      fsn := s.fmon.fsn + 1, lossReport := false, lastFly := max s.now (a + 2700000), flyRunning := true
      monitor := .noSignal, measuring := none, reference := none, equalCount := 0, prevAlign := none, activity := none } := by
    intro d fmon now
    rw [fmonFlywheel, countFrame_fmon, fmon, now]
  have dropped : (dropFormat (advanceTo (a + activityTicks) s)).fmon = s.fmon := dropFormat_fmon _
  have clock : (dropFormat (advanceTo (a + activityTicks) s)).now = max s.now (a + 2700000) := dropFormat_now _
  have auto : (dropFormat (advanceTo (a + activityTicks) s)).ses.autoQuiet = s.ses.autoQuiet := dropFormat_autoQuiet _
  refine ⟨fmonNoSignal (dropFormat (advanceTo (a + activityTicks) s)),
    (fmonOpens_noSignal _).after (advanceTo_fmonStep _ s), ?_, ?_, ?_, fun locked => ?_⟩
  · have e : exec (.activityTimeout term) s = doneAny (activityElapsed term s) := rfl
    rw [e, activityElapsed]
    split
    · rename_i none_
      exact absurd none_ some_
    · rename_i b t here _
      rw [activity] at here
      obtain rfl := Option.some.inj here
      rfl
    · rename_i here _
      rw [activity] at here
      cases here
  · unfold fmonNoSignal
    dsimp only
    split
    · rw [postLost_fmon, fly _ dropped clock]
    · exact fly _ dropped clock
  · unfold fmonNoSignal
    dsimp only
    split
    · rw [postLost_now, fmonFlywheel, countFrame_now]
      exact clock
    · rw [fmonFlywheel, countFrame_now]
      exact clock
  · have e : ∀ d : State, d.fmon = s.fmon → d.ses.autoQuiet = s.ses.autoQuiet →
        (s.ses.autoQuiet = true → (fmonNoSignal d).ses.quiet.format = true)
        ∧ ⟨.fmon, .event (.formatLost s.fmon.geometry.code .noSignal)⟩ ∈ (fmonNoSignal d).handed := by
      intro d fmon quiet
      have was : decide (d.fmon.monitor = .locked) = true := by
        rw [fmon]
        exact decide_eq_true locked
      obtain ⟨x, hx⟩ : ∃ x, x = { d with fmon := { d.fmon with
        monitor := .noSignal, measuring := none, reference := none, equalCount := 0, prevAlign := none
        activity := none, flyRunning := true } } := ⟨_, rfl⟩
      have taken : fmonNoSignal d = postLost .noSignal (fmonFlywheel x) := by
        rw [hx]
        exact if_pos was
      have geometry : (fmonFlywheel x).fmon.geometry = s.fmon.geometry := by
        rw [fmonFlywheel, countFrame_fmon, hx]
        exact (by rw [fmon] : d.fmon.geometry = s.fmon.geometry)
      obtain ⟨format, posted⟩ := postLost_posts .noSignal (fmonFlywheel x)
      rw [geometry] at posted
      rw [taken]
      refine ⟨fun auto => format ?_, posted⟩
      rw [fmonFlywheel, countFrame_autoQuiet, hx]
      exact quiet.trans auto
    exact e _ dropped auto

/-- Settles O28. -/
theorem flywheelFrames : Obligations.FlywheelFrames := by
  refine ⟨fun s term settled none_ => ?_, fun s term a settled some_ activity => ?_⟩
  · obtain ⟨b, opens, frame, fmon, now⟩ := flywheelElapsed_frame s term none_
    have run : exec (.flywheelStart term) s = .next (finishAnyOrder (frameBody term b)) := by
      rw [← frame]
      rfl
    obtain ⟨tFmon, tNow, -, -⟩ := frame_leaves opens (term := term) rfl
    refine ⟨_, run, frameOpened opens term settled, ?_⟩
    generalize finishAnyOrder (frameBody term b) = t at tFmon tNow
    rw [tFmon, tNow, fmon, now]
    exact ⟨rfl, rfl, none_, rfl, rfl, rfl⟩
  · obtain ⟨b, opens, run, fmon, now, lost⟩ := activityTimeout_opens s term some_ activity
    obtain ⟨tFmon, tNow, -, format, -⟩ := frame_leaves opens (term := term) rfl
    have reported : s.fmon.monitor = .locked → s.listens 5 = true →
        s.reports (finishAnyOrder (frameBody term b)) (.formatLost s.fmon.geometry.code .noSignal) = true :=
      fun locked listens => frame_reports opens term settled listens
        (frameBody_mem_records ((recordsTaken_spends term b).mem (lost locked).2))
    refine ⟨_, run, frameOpened opens term settled, ?_⟩
    generalize finishAnyOrder (frameBody term b) = t at tFmon tNow format reported
    rw [tFmon, tNow, fmon, now]
    exact ⟨rfl, rfl, rfl, rfl, rfl, rfl, rfl, rfl, rfl, fun locked auto => format.trans ((lost locked).1 auto), reported⟩

end Sys2Proof.Machine
end

section
/-!
PROOFS. What is an input boundary and what it does (R23, R24, R26, R28, R30): settles InputBoundaries.
-/

namespace Sys2Proof.Machine

set_option Elab.async false

/-! ### The recognition of a boundary (R23) -/

/-- What the recognition of a boundary leaves. -/
structure Recognised (s t : State) : Prop where
  fmon : t.fmon = { s.fmon with
    vLevel := t.fmon.vLevel, vEdges := t.fmon.vEdges, boundaryDue := t.fmon.boundaryDue }
  pxp : t.pxp = s.pxp
  handed : t.handed = s.handed

/-- With the length of the line before known the place of the edge in it decides. -/
theorem alignVertical_known {offset n : Nat} {s : State} (line : s.fmon.prevLine = some n) :
    alignVertical offset s = (syncAlignment n offset, s) := by
  unfold alignVertical
  rw [line]

/-- With no line known the alignment is free (log entry 12). -/
theorem alignVertical_free {offset : Nat} {s : State} (line : s.fmon.prevLine = none) : alignVertical offset s
    = (if Config.firstAlignment s.choices then .line else .mid, { s with choices := s.choices + 1 }) := by
  unfold alignVertical
  rw [line]

theorem alignVertical_recognised (offset : Nat) (s : State) : Recognised s (alignVertical offset s).2 := by
  unfold alignVertical
  split <;> exact ⟨rfl, rfl, rfl⟩

theorem Recognised.trans {a b c : State} (h : Recognised a b) (k : Recognised b c) : Recognised a c :=
  ⟨by rw [k.fmon, h.fmon], k.pxp.trans h.pxp, k.handed.trans h.handed⟩

theorem learnVertical_recognised (edge : Level) (high low offset : Nat) (s : State) :
    Recognised s (learnVertical edge high low offset s).2 := by
  unfold learnVertical
  split
  · exact ⟨rfl, rfl, rfl⟩
  · dsimp only
    split
    · exact Recognised.trans (b := { s with fmon := { s.fmon with vLevel := some (activeLevel high low) } }) ⟨rfl, rfl, rfl⟩
        (alignVertical_recognised _ _)
    · exact ⟨rfl, rfl, rfl⟩

theorem boundaryOf_recognised (i : BoundaryInput) (s : State) : Recognised s (boundaryOf i s).2 := by
  unfold boundaryOf
  split
  · split
    · exact ⟨rfl, rfl, rfl⟩
    · exact Recognised.trans (b := advanceTo _ s) ⟨rfl, rfl, rfl⟩ (learnVertical_recognised ..)
  · split
    · exact ⟨rfl, rfl, rfl⟩
    · exact ⟨rfl, rfl, rfl⟩

/-- A row that is no boundary leaves what the recognition leaves (R23). -/
theorem boundaryRow_none {i : BoundaryInput} {s s1 : State} (term : Bool) (settled : s.handed = [])
    (none_ : boundaryOf i s = (none, s1)) : exec (.inputBoundary i term) s = .next s1 := by
  have kept := (boundaryOf_recognised i s).handed
  rw [none_] at kept
  have e : exec (.inputBoundary i term) s = doneAny (seeBoundary i term s) := rfl
  rw [e, seeBoundary, none_]
  exact doneAny_settled (kept.trans settled) rfl

theorem boundaryRow_some {i : BoundaryInput} {s s0 : State} {a : Machine.Alignment} (term : Bool)
    (some_ : boundaryOf i s = (some a, s0)) : exec (.inputBoundary i term) s = doneAny (takeBoundary a term s0) := by
  have e : exec (.inputBoundary i term) s = doneAny (seeBoundary i term s) := rfl
  rw [e, seeBoundary, some_]

section
variable {s : State} {elapsed high low offset : Nat} {edge : Level} (sync : s.pxp.mode.embedded = false)
include sync

theorem boundaryOf_sync : boundaryOf (.sync elapsed edge high low offset) s
    = learnVertical edge high low offset { s with now := s.now + elapsed } := by
  have later : max s.now (s.now + elapsed) = s.now + elapsed := Nat.max_eq_right (Nat.le_add_right _ _)
  unfold boundaryOf
  dsimp only
  rw [sync, if_neg Bool.false_ne_true, advanceTo, later]

/-- The first two edges of PX_VS complete no cycle (log entry 21). -/
theorem boundaryOf_early (few : s.fmon.vEdges < 2) : boundaryOf (.sync elapsed edge high low offset) s
    = (none, { s with now := s.now + elapsed, fmon := { s.fmon with vEdges := s.fmon.vEdges + 1 } }) := by
  rw [boundaryOf_sync sync, learnVertical]
  exact if_pos few

/-- An edge that ends a cycle, after the first, in the active level that it teaches is a boundary. -/
theorem boundaryOf_edge (more : 2 ≤ s.fmon.vEdges) : boundaryOf (.sync elapsed edge high low offset) s
    = if s.fmon.vLevel.isSome && decide (edge = activeLevel high low) then
        (some (alignVertical offset { s with
            now := s.now + elapsed, fmon := { s.fmon with vLevel := some (activeLevel high low) } }).1,
          (alignVertical offset { s with
            now := s.now + elapsed, fmon := { s.fmon with vLevel := some (activeLevel high low) } }).2)
      else (none, { s with now := s.now + elapsed, fmon := { s.fmon with vLevel := some (activeLevel high low) } }) := by
  rw [boundaryOf_sync sync, learnVertical]
  exact if_neg (Nat.not_lt.2 more)

end

/-- The code that set the vertical-blank flag is a boundary of the embedded-code modes. -/
theorem boundaryOf_code {s : State} {elapsed : Nat} {field : Bool} (embedded : s.pxp.mode.embedded = true)
    (due : s.fmon.boundaryDue = some field) : boundaryOf (.code elapsed field) s = (some (if field then .mid else .line),
      { s with now := s.now + elapsed, fmon := { s.fmon with boundaryDue := none } }) := by
  have later : max s.now (s.now + elapsed) = s.now + elapsed := Nat.max_eq_right (Nat.le_add_right _ _)
  have both : (s.pxp.mode.embedded && decide (s.fmon.boundaryDue = some field)) = true := by
    rw [embedded, decide_eq_true due]
    rfl
  unfold boundaryOf
  dsimp only
  rw [if_pos both, advanceTo, later]

/-! ### What a boundary does (R24, R26, R28) -/

/-- Judging a measurement leaves the boundary's alignment and time, and the monitor out of NO_SIGNAL. -/
structure Judges (s t : State) : Prop where
  prevAlign : t.fmon.prevAlign = s.fmon.prevAlign
  activity : t.fmon.activity = s.fmon.activity
  now : t.now = s.now
  monitor : s.fmon.monitor ≠ .noSignal → t.fmon.monitor ≠ .noSignal

theorem Judges.refl (s : State) : Judges s s := ⟨rfl, rfl, rfl, id⟩

theorem Judges.trans {a b c : State} (h : Judges a b) (k : Judges b c) : Judges a c :=
  ⟨k.prevAlign.trans h.prevAlign, k.activity.trans h.activity, k.now.trans h.now, fun on => k.monitor (h.monitor on)⟩

theorem postLost_judges (c : LossCause) (s : State) : Judges s (postLost c s) := by
  have fmon := postLost_fmon c s
  exact ⟨by rw [fmon], by rw [fmon], postLost_now c s, fun on => by rw [fmon]; exact on⟩

theorem judgeMeasurement_judges (m : Measurement) (valid : Bool) (s : State) : Judges s (judgeMeasurement m valid s) := by
  have run : Judges s (newRun m s) := ⟨rfl, rfl, rfl, fun _ h => nomatch h⟩
  have ended : Judges s (noRun s) := ⟨rfl, rfl, rfl, fun _ h => nomatch h⟩
  have locked : ∀ r, Judges s (lockOn r s) := fun r => ⟨rfl, rfl, rfl, fun _ h => nomatch h⟩
  have acquiring : Judges s (judgeAcquiring m valid s) := by
    unfold judgeAcquiring countEqual
    split
    · split
      · split
        · split
          · exact ⟨rfl, rfl, rfl, id⟩
          · exact locked _
        · exact run
      · exact run
    · exact ended
  have held : Judges s (judgeLocked m valid s) := by
    unfold judgeLocked
    split
    · split
      · split
        · exact .refl s
        · exact run.trans (postLost_judges ..)
      · exact run.trans (postLost_judges ..)
    · exact ended.trans (postLost_judges ..)
  unfold judgeMeasurement
  split
  · exact acquiring
  · exact held
  · exact .refl s

theorem closeMeasurement_judges (s : State) : Judges s (closeMeasurement s) := by
  unfold closeMeasurement
  split
  · exact Judges.trans (b := { s with fmon := { s.fmon with measuring := none } }) ⟨rfl, rfl, rfl, id⟩
      (judgeMeasurement_judges ..)
  · exact .refl s

/-- FMON after a first-field boundary in ACQUIRING or LOCKED (R26). -/
theorem fmonBoundary_fmon (a : Machine.Alignment) {s : State} (on : s.fmon.monitor ≠ .noSignal) :
    (fmonBoundary (noteBoundary a (dropFormat s))).fmon.monitor ≠ .noSignal
    ∧ (fmonBoundary (noteBoundary a (dropFormat s))).fmon.prevAlign = some a
    ∧ (fmonBoundary (noteBoundary a (dropFormat s))).fmon.activity = some s.now
    ∧ (fmonBoundary (noteBoundary a (dropFormat s))).fmon.measuring = some (openAt s.now)
    ∧ (fmonBoundary (noteBoundary a (dropFormat s))).pxp.codeErrors = 0
    ∧ (fmonBoundary (noteBoundary a (dropFormat s))).now = s.now := by
  have judged := closeMeasurement_judges (countFrame (noteBoundary a (dropFormat s)))
  have fmon : (countFrame (noteBoundary a (dropFormat s))).fmon = { s.fmon with
      prevAlign := some a, activity := some s.now, fsn := s.fmon.fsn + 1, lossReport := false } := by
    rw [countFrame_fmon]
    unfold noteBoundary
    rw [dropFormat_fmon, dropFormat_now]
  have now : (countFrame (noteBoundary a (dropFormat s))).now = s.now := (countFrame_now _).trans (dropFormat_now s)
  obtain ⟨align, activity, clock, monitor⟩ := judged
  rw [fmon] at align activity monitor
  have later : (closeMeasurement (countFrame (noteBoundary a (dropFormat s)))).now = s.now := clock.trans now
  unfold fmonBoundary openMeasurement
  rw [later]
  exact ⟨monitor on, align, activity, rfl, rfl, rfl⟩

/-- FMON after the first boundary after NO_SIGNAL, where it is a frame start (R28). -/
theorem fmonLeave_fmon (a : Machine.Alignment) (s : State) :
    (countFrame (leaveNoSignal (noteBoundary a (dropFormat s)))).fmon = { s.fmon with
      prevAlign := some a, activity := some s.now, monitor := .acquiring, flyRunning := false
      measuring := some (openAt s.now), fsn := s.fmon.fsn + 1, lossReport := false }
    ∧ (countFrame (leaveNoSignal (noteBoundary a (dropFormat s)))).now = s.now := by
  refine ⟨?_, (countFrame_now _).trans (dropFormat_now s)⟩
  rw [countFrame_fmon]
  unfold leaveNoSignal openMeasurement noteBoundary
  rw [dropFormat_fmon, dropFormat_now]

section
variable {s : State} (a : Machine.Alignment) (term : Bool)

theorem takeBoundary_on (on : s.fmon.monitor ≠ .noSignal) : takeBoundary a term s =
    if isSecondField s.fmon.prevAlign a then noteSecondField (noteBoundary a s)
    else frameBody term (fmonBoundary (noteBoundary a (dropFormat s))) := by
  unfold takeBoundary
  split
  · rename_i off
    exact absurd off on
  · rfl

theorem takeBoundary_off (off : s.fmon.monitor = .noSignal) : takeBoundary a term s =
    if quarterPassed s then frameBody term (countFrame (leaveNoSignal (noteBoundary a (dropFormat s))))
    else leaveNoSignal (noteBoundary a s) := by
  unfold takeBoundary
  rw [off]
  rfl

end

theorem isSecondField_iff (prev : Option Machine.Alignment) (a : Machine.Alignment) :
    isSecondField prev a = true ↔ a = .mid ∧ prev = some .line := by
  simp [isSecondField]

/-- Settles O29. -/
theorem inputBoundaries : Obligations.InputBoundaries := by
  refine ⟨fun s term elapsed high low offset edge field settled => ?_, fun s i term a s0 settled seen => ?_⟩
  · intro l s0
    refine ⟨fun sync few => boundaryRow_none term settled (boundaryOf_early sync few), fun sync more => ?_,
      fun embedded due => boundaryOf_code embedded due⟩
    have edges := boundaryOf_edge (elapsed := elapsed) (high := high) (low := low) (offset := offset) (edge := edge) sync more
    refine ⟨fun known taught n line => ?_, fun known taught line => ?_, fun other => ?_⟩
    · have active : (s.fmon.vLevel.isSome && decide (edge = activeLevel high low)) = true := by
        rw [Option.isSome_iff_ne_none.2 known]
        exact decide_eq_true taught
      rw [if_pos active] at edges
      rw [edges, alignVertical_known (n := n) (by exact line)]
      rfl
    · have active : (s.fmon.vLevel.isSome && decide (edge = activeLevel high low)) = true := by
        rw [Option.isSome_iff_ne_none.2 known]
        exact decide_eq_true taught
      rw [if_pos active] at edges
      rw [alignVertical_free (by exact line)] at edges
      exact ⟨_, edges⟩
    · refine boundaryRow_none term settled ?_
      rw [edges, if_neg]
      · rfl
      · rw [Bool.and_eq_true, decide_eq_true_eq, Option.isSome_iff_ne_none]
        exact fun ⟨known, taught⟩ => other.elim known (fun ne => ne taught)
  · have row := boundaryRow_some term seen
    have kept := boundaryOf_recognised i s
    have step := boundaryOf_fmonStep i s
    rw [seen] at kept step
    obtain ⟨fmon, pxp, handed⟩ := kept
    have monitor : s0.fmon.monitor = s.fmon.monitor := by rw [fmon]
    have prev : s0.fmon.prevAlign = s.fmon.prevAlign := by rw [fmon]
    intro second
    refine ⟨fun on first => ?_, fun on late => ?_, fun off passed => ?_, fun off early => ?_⟩
    · have opens := (fmonOpens_boundary a s0).after step
      have taken := fmonBoundary_fmon a (s := s0) (by rw [monitor]; exact on)
      rw [takeBoundary_on a term (by rw [monitor]; exact on), if_neg (fun h => first (by rw [isSecondField_iff, prev] at h; exact h))] at row
      obtain ⟨tFmon, tNow, codes, -⟩ := frame_leaves opens (term := term) rfl
      refine ⟨_, row, frameOpened opens term settled, ?_⟩
      generalize finishAnyOrder (frameBody term (fmonBoundary (noteBoundary a (dropFormat s0)))) = t at tFmon tNow codes
      obtain ⟨still, align, activity, measuring, none_, now⟩ := taken
      rw [tFmon, tNow, codes]
      exact ⟨now, still, align, activity, measuring, none_⟩
    · rw [takeBoundary_on a term (by rw [monitor]; exact on), if_pos (by rw [isSecondField_iff, prev]; exact late)] at row
      rw [row]
      refine doneAny_settled (handed.trans settled) ?_
      have measuring : s0.fmon.measuring = s.fmon.measuring := by rw [fmon]
      rw [← measuring]
      rfl
    · have opens := (fmonOpens_leave a s0).after step
      have quarter : quarterPassed s0 = true := by
        unfold quarterPassed
        have fly : s0.fmon.flyPeriod = s.fmon.flyPeriod := by rw [fmon]
        have last : s0.fmon.lastFly = s.fmon.lastFly := by rw [fmon]
        rw [fly, last]
        exact decide_eq_true passed
      obtain ⟨left, now⟩ := fmonLeave_fmon a s0
      have geometry : s0.fmon.geometry = s.fmon.geometry := by rw [fmon]
      rw [takeBoundary_off a term (monitor.trans off), if_pos quarter] at row
      obtain ⟨tFmon, tNow, -, -⟩ := frame_leaves opens (term := term) rfl
      refine ⟨_, row, frameOpened opens term settled, ?_⟩
      generalize finishAnyOrder (frameBody term (countFrame (leaveNoSignal (noteBoundary a (dropFormat s0))))) = t at tFmon tNow
      rw [tFmon, tNow, left, now]
      exact ⟨rfl, rfl, rfl, rfl, rfl, geometry⟩
    · have quarter : ¬ quarterPassed s0 = true := by
        unfold quarterPassed
        have fly : s0.fmon.flyPeriod = s.fmon.flyPeriod := by rw [fmon]
        have last : s0.fmon.lastFly = s.fmon.lastFly := by rw [fmon]
        rw [fly, last, decide_eq_true_eq]
        exact Nat.not_le.2 early
      rw [takeBoundary_off a term (monitor.trans off), if_neg quarter] at row
      rw [row]
      refine doneAny_settled (handed.trans settled) ?_
      rw [← pxp]
      rfl

end Sys2Proof.Machine
end

section
/-!
PROOFS. The limits as rows of their own (log entry 5): termination loss, the end of training, the lower-fits count, the third equal
measurement and the code error count. Settles LimitRows.
-/

namespace Sys2Proof.Machine

set_option Elab.async false

/-! ### Completions that no command waits for -/

theorem writeCompletion_absent {h : Handle} {s : State} (absent : h ∉ s.hif.inFlight) (st : Status) (a b : Word) :
    writeCompletion h st a b s = s := by
  unfold writeCompletion
  split
  · rw [if_neg]
    simp [absent]
  · rfl

/-- A row that completes a command which is not in flight and then posts an event. -/
theorem done_absent_post {s : State} {h : Handle} (absent : h ∉ s.hif.inFlight) (settled : s.handed = []) (o o' : Owner)
    (st : Status) (a b : Word) (e : Event) :
    done (post o' e (complete o h st a b s)) = .next (writeEvent e s) := by
  have same : { s with handed := [] } = s := by rw [← settled]
  rw [done, finishInOrder_eq, post_handed, complete_handed, settled]
  simp only [List.nil_append, List.cons_append, List.foldl_cons, List.foldl_nil, deliver]
  refine congrArg (fun t => Host.Outcome.next (writeEvent e t)) ?_
  exact (congrArg (writeCompletion h st a b) same).trans (writeCompletion_absent absent st a b)

/-! ### The session falls (R9, R12) -/

/-- The lanes go off with a change of the session to a state without them. -/
theorem setSession_off {new : SessionState} {cause : SessionCause} {s : State} (up : s.ses.lanes = true)
    (down : new.lanesOn = false) (ends : endsChecks s.ses.session new = true) : setSession new cause s =
      post .ses (.sessionChanged new s.ses.session cause (quietOnEntry new s.ses.quiet)) { s with
        ses := { s.ses with
          session := new, lanes := false, quiet := quietOnEntry new s.ses.quiet
          linkCheck := s.ses.linkCheck.map (fun c => { c with stale := true }), termLoss := 0 }
        out := s.out ++ [.lanes false] } := by
  rw [setSession_eq, up, down, ends]
  rfl

section
variable {s : State} (settled : s.handed = []) (agrees : s.lanesAgree)
include settled agrees

theorem termination_carrying (carries : s.ses.session = .carrying ∨ s.ses.session = .quiet) (low : 1 ≤ s.ses.termLoss) :
    exec .termination s =
      .next (writeEvent (.sessionChanged .faulted s.ses.session .termination s.ses.quiet) { s with
        ses := { s.ses with
          session := .faulted, lanes := false, termLoss := 0
          linkCheck := s.ses.linkCheck.map (fun k => { k with stale := true }) }
        out := s.out ++ [.lanes false] }) := by
  have up : s.ses.session.lanesOn = true := by rcases carries with h | h <;> rw [h] <;> rfl
  have limit : terminationLimit s = setSession .faulted .termination { s with ses := { s.ses with termLoss := 2 } } := by
    unfold terminationLimit terminationLoss
    rw [up, decide_eq_true low]
    rcases carries with h | h <;> simp only [h] <;> rfl
  have ends : endsChecks s.ses.session .faulted = true := by rcases carries with h | h <;> rw [h] <;> rfl
  have e : exec .termination s = done (terminationLimit s) := rfl
  rw [e, limit, setSession_off (s := { s with ses := { s.ses with termLoss := 2 } }) (agrees.trans up) rfl ends]
  exact done_post _ _ settled

end

/-- SES after training has ended in READY. -/
def trainingOff (u : State) : State := { u with
  ses := { u.ses with
    session := .ready, lanes := false, quiet := ⟨false, u.ses.quiet.format, false⟩
    linkCheck := u.ses.linkCheck.map (fun k => { k with stale := true }), termLoss := 0, startLink := none }
  out := u.out ++ [Output.lanes false] }

/-- Training ends in READY: the START-LINK completes, then the change is reported (R9, R12). -/
theorem trainingOff_row {u : State} (settled : u.handed = []) (training : u.ses.session = .training) (up : u.ses.lanes = true)
    (st : Status) (cause : SessionCause) :
    (∀ k c, u.ses.startLink = some k → u.Pending k c → done (setSession .ready cause (endStartLink st u)) =
      .next (writeEvent (.sessionChanged .ready .training cause ⟨false, u.ses.quiet.format, false⟩)
        ((trainingOff u).completed c k st u.fmon.fsn (word u.ses.trainCount))))
    ∧ ((∀ k ∈ u.ses.startLink, k ∉ u.hif.inFlight) → done (setSession .ready cause (endStartLink st u)) =
      .next (writeEvent (.sessionChanged .ready .training cause ⟨false, u.ses.quiet.format, false⟩) (trainingOff u))) := by
  have ended : endStartLink st u = completeOpt .ses u.ses.startLink st u.fmon.fsn (word u.ses.trainCount)
      { u with ses := { u.ses with startLink := none } } := rfl
  have off : ∀ x : List Handed, setSession .ready cause { u with ses := { u.ses with startLink := none }, handed := x } =
      post .ses (.sessionChanged .ready .training cause ⟨false, u.ses.quiet.format, false⟩)
        { trainingOff u with handed := x } := by
    intro x
    rw [setSession_off (s := { u with ses := { u.ses with startLink := none }, handed := x }) up rfl
      ((congrArg (endsChecks · .ready) training).trans rfl), ← training]
    rfl
  refine ⟨fun k c held pending => ?_, fun absent => ?_⟩
  · obtain ⟨-, writes, comp, flies⟩ := pending
    rw [ended, held]
    have row := done_complete_post (s := trainingOff u) (h := k) (c := c) ⟨settled, writes, comp, flies⟩ .ses .ses st
      u.fmon.fsn (word u.ses.trainCount) (.sessionChanged .ready .training cause ⟨false, u.ses.quiet.format, false⟩)
    rw [← row]
    exact congrArg done (off (u.handed ++ [(⟨.ses, .completion k st u.fmon.fsn (word u.ses.trainCount)⟩ : Handed)]))
  · rw [ended]
    cases held : u.ses.startLink with
    | none =>
      rw [← done_post (s := trainingOff u) .ses _ settled]
      exact congrArg done (off u.handed)
    | some k =>
      have row := done_absent_post (s := trainingOff u) (absent k held) settled .ses .ses st
        u.fmon.fsn (word u.ses.trainCount) (.sessionChanged .ready .training cause ⟨false, u.ses.quiet.format, false⟩)
      rw [← row]
      exact congrArg done (off (u.handed ++ [(⟨.ses, .completion k st u.fmon.fsn (word u.ses.trainCount)⟩ : Handed)]))

/-- A lock keeps the lanes on and the reasons as they are. -/
theorem setSession_locks {u : State} (up : u.ses.lanes = true) (training : u.ses.session = .training) :
    setSession (quietOr u.ses.quiet) .linkLocked u =
      post .ses (.sessionChanged (quietOr u.ses.quiet) .training .linkLocked u.ses.quiet) { u with ses := { u.ses with
        session := quietOr u.ses.quiet
        linkCheck := u.ses.linkCheck.map (fun c => { c with stale := true }) } } := by
  have on : (quietOr u.ses.quiet).lanesOn = true ∧ quietOnEntry (quietOr u.ses.quiet) u.ses.quiet = u.ses.quiet
      ∧ endsChecks .training (quietOr u.ses.quiet) = true := by
    unfold quietOr
    split <;> exact ⟨rfl, rfl, rfl⟩
  rw [setSession_eq, on.1, on.2.1, training, on.2.2]
  simp [up]

/-- The roster with the root's misses cleared (R9). -/
def rootCleared (s : State) : List Entry :=
  if (entryAt s 0).isActive then s.rwk.roster.modify 0 (fun e => { e with miss := 0 }) else s.rwk.roster

/-- The state after training has ended with a lock (R9). -/
def trainingOn (s : State) : State := { s with
  ses := { s.ses with
    session := quietOr s.ses.quiet, startLink := none, linkFrames := 0, cursor := 63
    linkCheck := s.ses.linkCheck.map (fun k => { k with stale := true }) }
  rwk := { s.rwk with roster := rootCleared s } }

section
variable {s : State} (training : s.ses.session = .training)
include training

theorem terminationLimit_training (low : 1 ≤ s.ses.termLoss) : exec .termination s =
    done (setSession .ready .termination (endStartLink .noTermination { s with ses := { s.ses with termLoss := 2 } })) := by
  have limit : terminationLimit s
      = setSession .ready .termination (endStartLink .noTermination { s with ses := { s.ses with termLoss := 2 } }) := by
    unfold terminationLimit terminationLoss
    rw [training, decide_eq_true low]
    simp only [training]
    rfl
  rw [← limit]
  rfl

theorem trainingLimit_fails (long : 59 ≤ s.ses.trainCount) (unseen : s.ses.lockSeen = false) : exec .trainingTimeout s =
    done (setSession .ready .trainingTimeout (endStartLink .trainingFailed { s with ses := { s.ses with trainCount := 60 } })) := by
  have limit : trainingLimit s
      = setSession .ready .trainingTimeout (endStartLink .trainingFailed { s with ses := { s.ses with trainCount := 60 } }) := by
    have reached : trainingFrames ≤ s.ses.trainCount + 1 := Nat.succ_le_succ long
    unfold trainingLimit
    rw [training]
    dsimp only
    rw [if_pos reached, unseen]
    rfl
  rw [← limit]
  rfl

theorem trainingLimit_locks (agrees : s.lanesAgree) (long : 59 ≤ s.ses.trainCount) (seen : s.ses.lockSeen = true) {k : Handle} {c : RecordRing}
    (held : s.ses.startLink = some k) (pending : s.Pending k c) : exec .trainingTimeout s =
      .next (writeEvent (.sessionChanged (quietOr s.ses.quiet) .training .linkLocked s.ses.quiet) ((trainingOn s).completed c k .ok s.fmon.fsn (word s.ses.trainCount))) := by
  have limit : trainingLimit s = linkLocked s := by
    have reached : trainingFrames ≤ s.ses.trainCount + 1 := Nat.succ_le_succ long
    unfold trainingLimit
    rw [training]
    dsimp only
    rw [if_pos reached, seen]
    rfl
  obtain ⟨settled, writes, comp, flies⟩ := pending
  have ended : endStartLink .ok s = { s with
      ses := { s.ses with startLink := none }
      handed := s.handed ++ [(⟨.ses, .completion k .ok s.fmon.fsn (word s.ses.trainCount)⟩ : Handed)] } := by
    unfold endStartLink
    rw [held]
    rfl
  have lanes : s.ses.lanes = true := agrees.trans (by rw [training]; rfl)
  have locked : linkLocked s = post .ses (.sessionChanged (quietOr s.ses.quiet) .training .linkLocked s.ses.quiet)
      (complete .ses k .ok s.fmon.fsn (word s.ses.trainCount) (trainingOn s)) := by
    have state : (if s.ses.quiet.isEmpty then SessionState.carrying else .quiet) = quietOr s.ses.quiet :=
      if_congr (isEmpty_iff _) rfl rfl
    unfold linkLocked
    dsimp only
    rw [state, ended]
    by_cases active : (entryAt s 0).isActive = true
    · have cleared : rootCleared s = s.rwk.roster.modify 0 (fun e => { e with miss := 0 }) := if_pos active
      rw [if_pos active]
      refine (setSession_locks ?_ ?_).trans ?_
      · exact lanes
      · exact training
      · unfold trainingOn
        rw [cleared]
        rfl
    · have same : rootCleared s = s.rwk.roster := if_neg active
      rw [if_neg active]
      refine (setSession_locks ?_ ?_).trans ?_
      · exact lanes
      · exact training
      · unfold trainingOn
        rw [same]
        rfl
  have e : exec .trainingTimeout s = done (trainingLimit s) := rfl
  rw [e, limit, locked]
  exact done_complete_post (s := trainingOn s) ⟨settled, writes, comp, flies⟩ ..

end

/-! ### The frame start that comes next (log entry 5) -/

theorem frameNow_opens (s : State) : OpensOrNot s.pins.term s (frameNow s) := by
  unfold frameNow
  split
  · exact flywheelElapsed_opens ..
  · exact seeBoundary_opens ..
  · exact takeBoundary_opens ..

theorem frameNow_fly {s : State} (off : s.fmon.monitor = .noSignal) : frameNow s = flywheelElapsed s.pins.term s := by
  unfold frameNow
  rw [off]

theorem frameNow_code {s : State} (on : s.fmon.monitor ≠ .noSignal) {f : Bool} (due : s.fmon.boundaryDue = some f) :
    frameNow s = seeBoundary (.code 0 f) s.pins.term s := by
  unfold frameNow
  rw [due]
  cases monitor : s.fmon.monitor with
  | noSignal => exact absurd monitor on
  | _ => rfl

theorem frameNow_line {s : State} (on : s.fmon.monitor ≠ .noSignal) (due : s.fmon.boundaryDue = none) :
    frameNow s = takeBoundary .line s.pins.term s := by
  unfold frameNow
  rw [due]
  cases monitor : s.fmon.monitor with
  | noSignal => exact absurd monitor on
  | _ => rfl

/-- A limit's row is the whole frame start where it reaches the limit, and nothing where it does not. -/
theorem limitFrame_row {s : State} (settled : s.handed = []) (reaches : State → State → Bool) :
    (reaches s (frameNow s) = true → doneAny (limitFrame reaches s) = .next (finishAnyOrder (frameNow s)))
    ∧ (reaches s (frameNow s) = false → doneAny (limitFrame reaches s) = .next s) := by
  have limit : limitFrame reaches s = if reaches s (frameNow s) then frameNow s else s := rfl
  rw [limit]
  refine ⟨fun yes => ?_, fun no => ?_⟩
  · rw [yes]
    rfl
  · rw [no]
    exact doneAny_settled settled rfl

/-- What a fall of the factor at a frame start is (R105). -/
theorem fallDecided_iff {s u t : State} (opens : OpensOrNot s.pins.term s u) (fmon : t.fmon = u.fmon) (bss : t.bss = u.bss) :
    fallDecided s u = true ↔ s.bss.mode ≠ .fixed ∧ s.bss.pending = none ∧ s.bss.announced = none
      ∧ 15 ≤ s.bss.lowerFits ∧ t.fmon.fsn = s.fmon.fsn + 1 ∧ isCandidate t.fmon.geometry s.bss.factor = true
      ∧ t.bss.announced.getD t.bss.factor < s.bss.factor := by
  have counted : t.fmon.fsn ≠ s.fmon.fsn ↔ t.fmon.fsn = s.fmon.fsn + 1 := by
    rw [fmon]
    rcases opens with same | ⟨b, opens, e⟩
    · rw [same]
      exact ⟨fun ne => absurd rfl ne, fun h _ => absurd h (by bv_omega)⟩
    · rw [e, frameBody_fmon, opens.counted]
      exact ⟨fun _ => rfl, fun _ h => absurd h (by bv_omega)⟩
  unfold fallDecided
  rw [← fmon, ← bss]
  simp only [Bool.and_eq_true, decide_eq_true_eq, Option.isNone_iff_eq_none, counted]
  exact ⟨fun ⟨⟨⟨⟨⟨⟨fsn, mode⟩, pending⟩, announced⟩, fits⟩, candidate⟩, less⟩ =>
      ⟨mode, pending, announced, fits, fsn, candidate, less⟩,
    fun ⟨mode, pending, announced, fits, fsn, candidate, less⟩ =>
      ⟨⟨⟨⟨⟨⟨fsn, mode⟩, pending⟩, announced⟩, fits⟩, candidate⟩, less⟩⟩

theorem lockTaken_iff {s u t : State} (fmon : t.fmon = u.fmon) :
    lockTaken s u = true ↔ s.fmon.monitor = .acquiring ∧ t.fmon.monitor = .locked := by
  unfold lockTaken
  rw [fmon, Bool.and_eq_true, decide_eq_true_eq, decide_eq_true_eq]

/-- The rows of the two limits agree with the row of the frame start that comes next. -/
theorem limitRows_agree {s : State} (settled : s.handed = []) {row : Instr} (run : exec row s = doneAny (frameNow s)) {t : State}
    (e : exec row s = .next t) :
    let falls := s.bss.mode ≠ .fixed ∧ s.bss.pending = none ∧ s.bss.announced = none
      ∧ 15 ≤ s.bss.lowerFits ∧ t.fmon.fsn = s.fmon.fsn + 1 ∧ isCandidate t.fmon.geometry s.bss.factor = true
      ∧ t.bss.announced.getD t.bss.factor < s.bss.factor
    let locks := s.fmon.monitor = .acquiring ∧ t.fmon.monitor = .locked
    (falls → exec .lowerFitsExpiry s = .next t) ∧ (¬ falls → exec .lowerFitsExpiry s = .next s)
    ∧ (locks → exec .formatLocked s = .next t) ∧ (¬ locks → exec .formatLocked s = .next s) := by
  intro falls locks
  have same : t = finishAnyOrder (frameNow s) := (Host.Outcome.next.inj (run.symm.trans e)).symm
  have fields : t.fmon = (frameNow s).fmon ∧ t.bss = (frameNow s).bss := by
    obtain ⟨hif, out, choices, finish⟩ := finishAnyOrder_spec (frameNow s)
    rw [same, finish]
    exact ⟨rfl, rfl⟩
  obtain ⟨fmon, bss⟩ := fields
  have fallRow : exec .lowerFitsExpiry s = doneAny (limitFrame fallDecided s) := rfl
  have lockRow : exec .formatLocked s = doneAny (limitFrame lockTaken s) := rfl
  have fall := fallDecided_iff (frameNow_opens s) fmon bss
  have lock := lockTaken_iff (s := s) fmon
  obtain ⟨fallYes, fallNo⟩ := limitFrame_row settled fallDecided
  obtain ⟨lockYes, lockNo⟩ := limitFrame_row settled lockTaken
  rw [fallRow, lockRow, same]
  exact ⟨fun h => fallYes (fall.2 h), fun h => fallNo (Bool.eq_false_iff.2 fun g => h (fall.1 g)),
    fun h => lockYes (lock.2 h), fun h => lockNo (Bool.eq_false_iff.2 fun g => h (lock.1 g))⟩

/-! ### The lower-fits count reaches 16 (R105) -/

/-- A fall at a frame start sets the lower-fits count to 0. -/
theorem fall_counts {s b : State} (opens : FmonOpens s b) {term : Bool} (silent : s.bss.announced = none)
    (candidate : isCandidate (frameBody term b).fmon.geometry s.bss.factor = true)
    (less : (frameBody term b).bss.announced.getD (frameBody term b).bss.factor < s.bss.factor) :
    (frameBody term b).bss.lowerFits = 0 := by
  have sees := cadenceBase_sees opens term
  have geometry : (frameBody term b).fmon.geometry = (cadenceBase term b).fmon.geometry := by
    rw [frameBody_fmon, cadenceBase_fmon]
  have step := cadenceStep_decides (s := cadenceBase term b) (sees.announced.trans silent)
    (by rw [sees.factor, ← geometry]; exact candidate)
  by_cases changes : (cadenceBase term b).bss.changesTo
      (neededFactor (cadenceBase term b).bss (cadenceBase term b).fmon.geometry (demand (cadenceBase term b)))
  · exact (decision_changes opens step changes).1
  · obtain ⟨factor, none_, -⟩ := decision_stays opens step changes
    rw [factor, none_] at less
    exact absurd less (Nat.lt_irrefl _)

/-- A boundary with the alignment LINE is no second field. -/
theorem takeBoundary_line {s : State} (term : Bool) (on : s.fmon.monitor ≠ .noSignal) : takeBoundary .line term s =
    frameBody term (fmonBoundary (noteBoundary .line (dropFormat s))) := by
  rw [takeBoundary_on _ _ on, if_neg]
  rw [isSecondField_iff]
  exact fun h => nomatch h.1

theorem lowerFits_row {s : State} (settled : s.handed = []) (on : s.fmon.monitor ≠ .noSignal)
    (due : s.fmon.boundaryDue = none) : ∃ t, exec .lowerFitsExpiry s = .next t ∧ (t = s ∨
      (s.FrameOpened t s.pins.term ∧ s.bss.mode ≠ .fixed ∧ 15 ≤ s.bss.lowerFits ∧ t.bss.lowerFits = 0
        ∧ t.fmon.activity = some s.now ∧ t.fmon.prevAlign = some .line
        ∧ t.bss.announced.getD t.bss.factor < s.bss.factor)) := by
  have frame := (frameNow_line on due).trans (takeBoundary_line _ on)
  obtain ⟨yes, no⟩ := limitFrame_row settled fallDecided
  have e : exec .lowerFitsExpiry s = doneAny (limitFrame fallDecided s) := rfl
  cases falls : fallDecided s (frameNow s)
  · exact ⟨s, e.trans (no falls), .inl rfl⟩
  · have opens := fmonOpens_boundary .line s
    obtain ⟨-, align, activity, -, -, -⟩ := fmonBoundary_fmon .line on
    refine ⟨_, e.trans (yes falls), .inr ?_⟩
    have fall := (fallDecided_iff (t := frameNow s) (frameNow_opens s) rfl rfl).1 falls
    rw [frame] at fall ⊢
    obtain ⟨mode, -, silent, fits, -, candidate, less⟩ := fall
    have zero := fall_counts opens silent candidate less
    have opened := frameOpened opens s.pins.term settled
    obtain ⟨tFmon, -⟩ := frame_leaves opens (term := s.pins.term) rfl
    have tBss : (finishAnyOrder (frameBody s.pins.term (fmonBoundary (noteBoundary .line (dropFormat s))))).bss
        = (frameBody s.pins.term (fmonBoundary (noteBoundary .line (dropFormat s)))).bss := by
      obtain ⟨hif, out, choices, finish⟩ := finishAnyOrder_spec
        (frameBody s.pins.term (fmonBoundary (noteBoundary .line (dropFormat s))))
      rw [finish]
    rw [tFmon, tBss]
    exact ⟨opened, mode, fits, zero, activity, align, less⟩

/-! ### A frame start in the geometry of the one before -/

theorem judgeMeasurement_geometry (m : Measurement) (valid : Bool) {s : State}
    (keeps : s.fmon.monitor = .locked ∨ s.fmon.equalCount < 2) :
    (judgeMeasurement m valid s).fmon.geometry = s.fmon.geometry := by
  unfold judgeMeasurement
  split
  · rename_i acquiring
    have few : s.fmon.equalCount < 2 := keeps.resolve_left (fun locked => by rw [acquiring] at locked; cases locked)
    unfold judgeAcquiring
    split
    · split
      · split
        · unfold countEqual
          rw [if_pos few]
        · rfl
      · rfl
    · rfl
  · unfold judgeLocked
    split
    · split
      · split
        · rfl
        · rw [postLost_fmon]
          rfl
      · rw [postLost_fmon]
        rfl
    · rw [postLost_fmon]
      rfl
  · rfl

/-- FMON's part of a first-field boundary that cannot lock keeps the geometry. -/
theorem fmonBoundary_geometry (a : Machine.Alignment) {s : State}
    (keeps : s.fmon.monitor = .locked ∨ s.fmon.equalCount < 2 ∨ s.fmon.measuring = none) :
    (fmonBoundary (noteBoundary a (dropFormat s))).fmon.geometry = s.fmon.geometry := by
  have fmon : (countFrame (noteBoundary a (dropFormat s))).fmon = { s.fmon with
      prevAlign := some a, activity := some s.now, fsn := s.fmon.fsn + 1, lossReport := false } := by
    rw [countFrame_fmon]
    unfold noteBoundary
    rw [dropFormat_fmon, dropFormat_now]
  have closed : (closeMeasurement (countFrame (noteBoundary a (dropFormat s)))).fmon.geometry = s.fmon.geometry := by
    unfold closeMeasurement
    split
    · rename_i o measuring
      rw [fmon] at measuring
      have open_ : s.fmon.measuring = some o := measuring
      rw [judgeMeasurement_geometry _ _ ?_]
      · exact (by rw [fmon] : (countFrame (noteBoundary a (dropFormat s))).fmon.geometry = s.fmon.geometry)
      · rw [fmon]
        rcases keeps with locked | few | none_
        · exact .inl locked
        · exact .inr few
        · rw [none_] at open_
          cases open_
    · rw [fmon]
  exact closed

/-- The first-field boundary that comes next out of NO_SIGNAL: on a line start now, or the one that a code has made. -/
theorem frameNow_boundary {s : State} (on : s.fmon.monitor ≠ .noSignal) (comes : s.fmon.boundaryDue = none
      ∨ (s.pxp.mode.embedded = true ∧ s.fmon.boundaryDue = some false)) :
    ∃ s0, FmonStep 0 s s0 ∧ s0.fmon = { s.fmon with boundaryDue := none } ∧ s0.now = s.now ∧ s0.pxp = s.pxp
      ∧ frameNow s = frameBody s.pins.term (fmonBoundary (noteBoundary .line (dropFormat s0))) := by
  rcases comes with due | ⟨embedded, due⟩
  · refine ⟨s, { touches := .refl _ s }, by rw [← due], rfl, rfl, ?_⟩
    rw [frameNow_line on due, takeBoundary_line _ on]
  · have step := boundaryOf_fmonStep (.code 0 false) s
    have seen := boundaryOf_code (elapsed := 0) embedded due
    rw [seen] at step
    refine ⟨_, step, rfl, rfl, rfl, ?_⟩
    rw [frameNow_code on due, seeBoundary, seen]
    exact takeBoundary_line _ on

/-- The frame start that comes next keeps the geometry where it cannot lock. -/
theorem frameNow_sameGeometry {s : State} (comes : s.fmon.monitor = .noSignal
    ∨ ((s.fmon.monitor = .locked ∨ s.fmon.equalCount < 2 ∨ s.fmon.measuring = none)
      ∧ (s.fmon.boundaryDue = none ∨ (s.pxp.mode.embedded = true ∧ s.fmon.boundaryDue = some false)))) :
    ∃ b, FmonOpens s b ∧ frameNow s = frameBody s.pins.term b ∧ b.fmon.geometry = s.fmon.geometry := by
  by_cases off : s.fmon.monitor = .noSignal
  · obtain ⟨b, opens, frame, fmon, -⟩ := flywheelElapsed_frame s s.pins.term off
    exact ⟨b, opens, (frameNow_fly off).trans frame, by rw [fmon]⟩
  · obtain ⟨keeps, due⟩ := comes.resolve_left off
    obtain ⟨s0, step, fmon, -, -, frame⟩ := frameNow_boundary off due
    refine ⟨_, (fmonOpens_boundary .line s0).after step, frame, ?_⟩
    rw [fmonBoundary_geometry]
    · rw [fmon]
    · rw [fmon]
      exact keeps

/-! ### A fall decided from the demand after the pending records (R102, R105) -/

section
variable {s b : State} (opens : FmonOpens s b) (term : Bool)
include opens

/-- Without a pending cadence record the cadence work sees BSS as it was. -/
theorem cadenceBase_bss (pending : s.bss.pending = none) : (cadenceBase term b).bss = s.bss := by
  have bss : (recordsTaken term b).bss = s.bss :=
    ((recordsTaken_touches term b).bss.resolve_left (by decide)).trans (opens.touches.bss.resolve_left (by decide))
  have here : (setCadenceReason false (recordsTaken term b)).bss = s.bss := bss
  unfold cadenceBase applyCadence
  rw [here, pending]
  exact here

theorem cadenceBase_entries :
    (cadenceBase term b).stt.entries = s.stt.entries.map StandingEntry.taken := by
  have stt : (cadenceBase term b).stt = (replaceEntries (sampleTerm term (pxpNewFrame b))).stt :=
    ((applyCadence_touches _).stt.resolve_left (by decide)).trans ((applyAudio_touches _).stt.resolve_left (by decide))
  rw [stt, replaceEntries_eq]
  exact congrArg (fun x => x.entries.map StandingEntry.taken) (opens.touches.stt.resolve_left (by decide))

/-- The audio format that the cadence work sees: the pending one, if there is one. -/
theorem cadenceBase_format : (∀ p, s.ain.pending = some p → (cadenceBase term b).ain.format = p.format)
    ∧ (s.ain.pending = none → (cadenceBase term b).ain.format = s.ain.format) := by
  have same : (cadenceBase term b).ain = (recordsTaken term b).ain := (applyCadence_touches _).ain.resolve_left (by decide)
  have before : (replaceEntries (sampleTerm term (pxpNewFrame b))).ain = s.ain :=
    ((replaceEntries_touches _).ain.resolve_left (by decide)).trans (opens.touches.ain.resolve_left (by decide))
  rw [same]
  unfold recordsTaken applyAudio
  rw [before]
  refine ⟨fun p pending => ?_, fun pending => ?_⟩
  · rw [pending]
    rfl
  · rw [pending]
    exact congrArg Ain.format before

end

/-- A fall that the demand decides comes with the frame start that comes next (R105, R107, R108). -/
theorem lowerFits_falls {s : State} {d : Nat} (settled : s.handed = []) (mode : s.bss.mode ≠ .fixed)
    (pending : s.bss.pending = none) (silent : s.bss.announced = none) (counted : 15 ≤ s.bss.lowerFits)
    (candidate : isCandidate s.fmon.geometry s.bss.factor = true)
    (less : neededFactor s.bss s.fmon.geometry d < s.bss.factor)
    (demanded : ∀ b, FmonOpens s b → b.fmon.geometry = s.fmon.geometry → demand (cadenceBase s.pins.term b) = d)
    (comes : s.fmon.monitor = .noSignal
      ∨ ((s.fmon.monitor = .locked ∨ s.fmon.equalCount < 2 ∨ s.fmon.measuring = none)
        ∧ (s.fmon.boundaryDue = none ∨ (s.pxp.mode.embedded = true ∧ s.fmon.boundaryDue = some false)))) :
    ∃ t, exec .lowerFitsExpiry s = .next t ∧ s.FrameOpened t s.pins.term ∧ t.bss.lowerFits = 0
      ∧ (s.ses.session.lanesOn = true → t.bss.factor = s.bss.factor
        ∧ t.bss.announced = some (neededFactor s.bss s.fmon.geometry d))
      ∧ (s.ses.session.lanesOn = false → t.bss.factor = neededFactor s.bss s.fmon.geometry d ∧ t.bss.announced = none) := by
  obtain ⟨b, opens, frame, geometry⟩ := frameNow_sameGeometry comes
  have bss := cadenceBase_bss opens s.pins.term pending
  have seen : (cadenceBase s.pins.term b).fmon.geometry = s.fmon.geometry := by rw [cadenceBase_fmon, geometry]
  have step := cadenceStep_decides (s := cadenceBase s.pins.term b) (by rw [bss]; exact silent)
    (by rw [seen, bss]; exact candidate)
  rw [demanded b opens geometry, seen, bss] at step
  have changes : (cadenceBase s.pins.term b).bss.changesTo (neededFactor s.bss s.fmon.geometry d) := by
    rw [bss, Bss.changesTo, if_neg mode]
    exact .inr ⟨less, counted⟩
  obtain ⟨zero, on, off⟩ := decision_changes opens step changes
  have after : (frameBody s.pins.term b).bss.announced.getD (frameBody s.pins.term b).bss.factor < s.bss.factor := by
    by_cases up : s.ses.session.lanesOn = true
    · rw [(on up).2]
      exact less
    · rw [(off up).1, (off up).2]
      exact less
  have fsn : (frameBody s.pins.term b).fmon.fsn = s.fmon.fsn + 1 := by rw [frameBody_fmon, opens.counted]
  have kept : (frameBody s.pins.term b).fmon.geometry = s.fmon.geometry := by rw [frameBody_fmon, geometry]
  have falls : fallDecided s (frameNow s) = true := by
    refine (fallDecided_iff (frameNow_opens s) rfl rfl).2 ?_
    rw [frame, kept]
    exact ⟨mode, pending, silent, counted, fsn, candidate, after⟩
  have e : exec .lowerFitsExpiry s = .next (finishAnyOrder (frameNow s)) := (limitFrame_row settled fallDecided).1 falls
  rw [frame] at e
  have opened := frameOpened opens s.pins.term settled
  have tBss : (finishAnyOrder (frameBody s.pins.term b)).bss = (frameBody s.pins.term b).bss := by
    obtain ⟨hif, out, choices, finish⟩ := finishAnyOrder_spec (frameBody s.pins.term b)
    rw [finish]
  refine ⟨_, e, opened, ?_⟩
  rw [tBss]
  exact ⟨zero, on, fun down => off (by rw [down]; exact Bool.false_ne_true)⟩

/-! ### The third equal measurement (R33) -/

/-- The record of a closed measurement rests on the levels in force alone. -/
theorem record_congr (o : OpenMeasurement) {f g : Fmon} (mode : InputMode) (now : Nat) (h : g.hLevel = f.hLevel)
    (v : g.vLevel = f.vLevel) : o.record g mode now = o.record f mode now := by
  unfold OpenMeasurement.record
  rw [h, v]

theorem classify_congr {f g : Fmon} (m : Measurement) (loadable : g.loadable = f.loadable) : classify g m = classify f m := by
  unfold classify formatTable
  rw [loadable]

/-- The third equal measurement locks. -/
theorem closeMeasurement_locks {u : State} {r : Measurement} {o : OpenMeasurement} (acquiring : u.fmon.monitor = .acquiring)
    (reference : u.fmon.reference = some r) (counted : 2 ≤ u.fmon.equalCount) (measuring : u.fmon.measuring = some o)
    (valid : measurementValid o.endLine (o.endLine.record u.fmon u.pxp.mode u.now) = true)
    (equal : (o.endLine.record u.fmon u.pxp.mode u.now).equals r = true) :
    closeMeasurement u = lockOn r { u with fmon := { u.fmon with measuring := none } } := by
  unfold closeMeasurement judgeMeasurement
  rw [measuring]
  dsimp only
  rw [acquiring]
  dsimp only
  unfold judgeAcquiring countEqual
  rw [valid, if_pos rfl]
  dsimp only
  rw [reference]
  dsimp only
  rw [equal, if_pos rfl, if_neg (Nat.not_lt.2 counted)]

theorem countFrame_pxp (s : State) : (countFrame s).pxp = s.pxp := by
  unfold countFrame reportInputMode
  split
  · unfold postLost
    split <;> rfl
  · rfl

/-- FMON's part of the boundary that closes the third equal measurement. -/
theorem fmonBoundary_locks {s : State} {r : Measurement} {o : OpenMeasurement} (acquiring : s.fmon.monitor = .acquiring)
    (reference : s.fmon.reference = some r) (counted : 2 ≤ s.fmon.equalCount) (measuring : s.fmon.measuring = some o)
    (valid : measurementValid o.endLine (o.endLine.record s.fmon s.pxp.mode s.now) = true)
    (equal : (o.endLine.record s.fmon s.pxp.mode s.now).equals r = true) :
    let b := fmonBoundary (noteBoundary .line (dropFormat s))
    b.fmon.monitor = .locked ∧ b.fmon.equalCount = 3 ∧ b.fmon.reference = some r
    ∧ b.fmon.geometry = classify s.fmon r ∧ b.fmon.flyPeriod = r.period ∧ b.fmon.measuring = some (openAt s.now)
    ∧ b.ses.formatDrop = true ∧ ⟨.fmon, .event (.formatLocked (classify s.fmon r))⟩ ∈ b.handed := by
  intro b
  have body : b = openMeasurement (closeMeasurement (countFrame (noteBoundary .line (dropFormat s)))) := rfl
  have fmon : (countFrame (noteBoundary .line (dropFormat s))).fmon = { s.fmon with
      prevAlign := some .line, activity := some s.now, fsn := s.fmon.fsn + 1, lossReport := false } := by
    rw [countFrame_fmon]
    unfold noteBoundary
    rw [dropFormat_fmon, dropFormat_now]
  have pxp : (countFrame (noteBoundary .line (dropFormat s))).pxp = s.pxp := by
    rw [countFrame_pxp]
    unfold noteBoundary dropFormat
    split <;> rfl
  have now : (countFrame (noteBoundary .line (dropFormat s))).now = s.now := by
    rw [countFrame_now]
    exact dropFormat_now s
  generalize countFrame (noteBoundary .line (dropFormat s)) = u at body fmon pxp now
  have record : o.endLine.record u.fmon u.pxp.mode u.now = o.endLine.record s.fmon s.pxp.mode s.now := by
    rw [pxp, now]
    exact record_congr _ _ _ (by rw [fmon]) (by rw [fmon])
  have locks := closeMeasurement_locks (u := u) (r := r) (o := o) (by rw [fmon]; exact acquiring) (by rw [fmon]; exact reference)
    (by rw [fmon]; exact counted) (by rw [fmon]; exact measuring) (by rw [record]; exact valid) (by rw [record]; exact equal)
  have classified : classify { u.fmon with measuring := none } r = classify s.fmon r := classify_congr _ (by rw [fmon])
  have refs : u.fmon.reference = some r := by rw [fmon]; exact reference
  rw [body, locks, ← classified, ← now]
  exact ⟨rfl, rfl, refs, rfl, rfl, rfl, rfl, List.mem_append_right _ (List.mem_singleton_self _)⟩

/-- The third equal measurement in a row as a row of its own (R33, log entry 5). -/
theorem formatLocked_row {s : State} {r : Measurement} {o : OpenMeasurement} (settled : s.handed = [])
    (acquiring : s.fmon.monitor = .acquiring) (reference : s.fmon.reference = some r) (counted : 2 ≤ s.fmon.equalCount)
    (measuring : s.fmon.measuring = some o)
    (valid : measurementValid o.endLine (o.endLine.record s.fmon s.pxp.mode s.now) = true)
    (equal : (o.endLine.record s.fmon s.pxp.mode s.now).equals r = true)
    (comes : s.fmon.boundaryDue = none ∨ (s.pxp.mode.embedded = true ∧ s.fmon.boundaryDue = some false)) :
    ∃ t, exec .formatLocked s = .next t ∧ s.FrameOpened t s.pins.term
      ∧ t.fmon.monitor = .locked ∧ t.fmon.equalCount = 3 ∧ t.fmon.reference = some r
      ∧ t.fmon.geometry = classify s.fmon r ∧ t.fmon.flyPeriod = r.period ∧ t.fmon.measuring = some (openAt s.now)
      ∧ t.ses.formatDrop = true
      ∧ (s.listens 4 = true → s.reports t (.formatLocked (classify s.fmon r)) = true) := by
  have on : s.fmon.monitor ≠ .noSignal := by rw [acquiring]; decide
  obtain ⟨s0, step, fmon, now, pxp, frame⟩ := frameNow_boundary on comes
  have record : o.endLine.record s0.fmon s0.pxp.mode s0.now = o.endLine.record s.fmon s.pxp.mode s.now := by
    rw [pxp, now]
    exact record_congr _ _ _ (by rw [fmon]) (by rw [fmon])
  have classified : classify s0.fmon r = classify s.fmon r := classify_congr _ (by rw [fmon])
  have locks := fmonBoundary_locks (s := s0) (r := r) (o := o) (by rw [fmon]; exact acquiring) (by rw [fmon]; exact reference)
    (by rw [fmon]; exact counted) (by rw [fmon]; exact measuring) (by rw [record]; exact valid) (by rw [record]; exact equal)
  rw [classified, now] at locks
  have opens := (fmonOpens_boundary .line s0).after step
  generalize fmonBoundary (noteBoundary .line (dropFormat s0)) = b at locks opens frame
  obtain ⟨monitor, equals, refs, geometry, period, opened, dropped, handed⟩ := locks
  have taken : lockTaken s (frameNow s) = true := by
    rw [frame]
    exact (lockTaken_iff (t := frameBody s.pins.term b) rfl).2 ⟨acquiring, by rw [frameBody_fmon]; exact monitor⟩
  have e : exec .formatLocked s = .next (finishAnyOrder (frameNow s)) := (limitFrame_row settled lockTaken).1 taken
  rw [frame] at e
  obtain ⟨tFmon, -, -, -, tDrop⟩ := frame_leaves opens (term := s.pins.term) rfl
  refine ⟨_, e, frameOpened opens s.pins.term settled, ?_⟩
  rw [tFmon, tDrop]
  exact ⟨monitor, equals, refs, geometry, period, opened, dropped, fun listens =>
    frame_reports opens s.pins.term settled listens (frameBody_mem_records ((recordsTaken_spends _ b).mem handed))⟩

/-! ### The code error count reaches 4 (R31, R161) -/

theorem codeErrorLimit_row {s : State} {o : OpenMeasurement} (settled : s.handed = []) (measuring : s.fmon.measuring = some o)
    (many : 3 ≤ s.pxp.codeErrors) (unreported : s.pxp.errorReported = false) :
    exec .codeErrorLimit s = .next { s with
      pxp := { s.pxp with codeErrors := max 4 s.pxp.codeErrors, errorReported := true }
      fmon := { s.fmon with measuring := some { o with invalid := true } } } := by
  have limit : codeErrorLimit s = { s with
      pxp := { s.pxp with codeErrors := max 4 s.pxp.codeErrors, errorReported := true }
      fmon := { s.fmon with measuring := some { o with invalid := true } } } := by
    have four : 4 ≤ max 4 s.pxp.codeErrors := Nat.le_max_left ..
    unfold codeErrorLimit codeErrorReport markInvalid
    simp [measuring, many, unreported]
  have e : exec .codeErrorLimit s = done (codeErrorLimit s) := rfl
  rw [e, limit]
  exact done_settled settled rfl

/-! ### The rows of termination loss and of the end of training -/

theorem lossRows {s : State} (settled : s.handed = []) (agrees : s.lanesAgree) (training : s.ses.session = .training)
    (low : 1 ≤ s.ses.termLoss) :
    (∀ k c, s.ses.startLink = some k → s.Pending k c → exec .termination s =
      .next (writeEvent (.sessionChanged .ready .training .termination ⟨false, s.ses.quiet.format, false⟩)
        ((trainingOff s).completed c k .noTermination s.fmon.fsn (word s.ses.trainCount))))
    ∧ ((∀ k ∈ s.ses.startLink, k ∉ s.hif.inFlight) → exec .termination s =
      .next (writeEvent (.sessionChanged .ready .training .termination ⟨false, s.ses.quiet.format, false⟩) (trainingOff s))) := by
  rw [terminationLimit_training training low]
  obtain ⟨completes, absent⟩ := trainingOff_row (u := { s with ses := { s.ses with termLoss := 2 } }) settled training
    (agrees.trans (by rw [training]; rfl)) .noTermination .termination
  exact ⟨fun k c held ⟨_, writes, comp, flies⟩ => completes k c held ⟨settled, writes, comp, flies⟩, absent⟩

theorem trainingEnds {s : State} (settled : s.handed = []) (agrees : s.lanesAgree) (training : s.ses.session = .training)
    (long : 59 ≤ s.ses.trainCount) (unseen : s.ses.lockSeen = false) {k : Handle} {c : RecordRing}
    (held : s.ses.startLink = some k) (pending : s.Pending k c) : exec .trainingTimeout s =
      .next (writeEvent (.sessionChanged .ready .training .trainingTimeout ⟨false, s.ses.quiet.format, false⟩)
        ((trainingOff { s with ses := { s.ses with trainCount := 60 } }).completed c k .trainingFailed s.fmon.fsn (word 60))) := by
  obtain ⟨-, writes, comp, flies⟩ := pending
  rw [trainingLimit_fails training long unseen]
  exact (trainingOff_row (u := { s with ses := { s.ses with trainCount := 60 } }) settled training
    (agrees.trans (by rw [training]; rfl)) .trainingFailed .trainingTimeout).1 k c held ⟨settled, writes, comp, flies⟩

/-! ### What the demand of a frame start is made of -/

theorem cadenceBase_demands {s b : State} (opens : FmonOpens s b) (term : Bool) (geometry : b.fmon.geometry = s.fmon.geometry)
    (pending : s.bss.pending = none) {entries : List (Bool × Nat)} {format : Option AudioFormat}
    (entered : entries = s.stt.entries.map (fun e => (e.taken.enabled, e.taken.payload.length)))
    (formatted : (cadenceBase term b).ain.format = format) : demand (cadenceBase term b)
      = ((entries.filter (·.1)).map (fun e => slotsFor e.2)).sum + audioPart format s.fmon.geometry.rate + s.bss.reserve := by
  have standing : ∀ l : List StandingEntry,
      ((l.map StandingEntry.taken).filter (·.enabled)).map StandingEntry.slots
      = ((l.map (fun e => (e.taken.enabled, e.taken.payload.length))).filter (·.1)).map (fun e => slotsFor e.2) := by
    intro l
    rw [List.filter_map, List.filter_map, List.map_map, List.map_map]
    rfl
  unfold demand standingPart
  rw [cadenceBase_entries opens, standing, cadenceBase_bss opens term pending, formatted, cadenceBase_fmon, geometry, entered]

/-- Settles O27. -/
theorem limitRows : Obligations.LimitRows := by
  refine ⟨fun s settled agrees => ?_, fun s settled => ?_, fun s => lowerFits_row, fun s settled => ?_,
    fun s r o settled acquiring reference counted measuring => ?_, fun s o => codeErrorLimit_row⟩
  · intro stale
    exact ⟨termination_carrying settled agrees, lossRows settled agrees,
      fun k c training long seen held pending => trainingLimit_locks training agrees long seen held pending,
      fun k c training long unseen held pending => trainingEnds settled agrees training long unseen held pending⟩
  · intro falls locks agrees
    refine ⟨fun off t => ?_, fun f on due t => ?_, fun i on due line t => ?_⟩
    · refine limitRows_agree settled ?_
      rw [frameNow_fly off]
      rfl
    · refine limitRows_agree settled ?_
      rw [frameNow_code on due]
      rfl
    · refine limitRows_agree settled ?_
      rw [frameNow_line on due]
      have seen : seeBoundary i s.pins.term s = takeBoundary .line s.pins.term s := by
        rw [seeBoundary, line]
      exact congrArg doneAny seen
  · intro g entries format d needed keepsGeometry comes mode pending silent counted candidate less when
    have entered : entries = s.stt.entries.map (fun e => (e.taken.enabled, e.taken.payload.length)) :=
      List.map_congr_left fun e _ => by
        unfold StandingEntry.taken
        cases e.pending <;> rfl
    refine lowerFits_falls (d := d) settled mode pending silent counted candidate less (fun b opens geometry => ?_) when
    refine cadenceBase_demands opens _ geometry pending entered ?_
    obtain ⟨some_, none_⟩ := cadenceBase_format opens s.pins.term
    simp only [format]
    cases audio : s.ain.pending with
    | some p => exact some_ p audio
    | none => exact none_ audio
  · intro m valid equal comes
    exact formatLocked_row settled acquiring reference counted measuring valid equal comes

end Sys2Proof.Machine
end

section
/-!
PROOFS. The packets held at the end of a walk: a state in which the end of a walk leaves a held outcome. Refutes PacketSweeps.
-/

namespace Sys2Proof.Machine

set_option Elab.async false

/-! ### A GET-RECEIPT granted as the walk ends (R53, R78, R138) -/

/-- A SEND to a tile that is not in the roster, awaiting its acknowledgement. -/
def goneSend : Packet where
  handle := ⟨0, 0, dispatchRing, 0⟩
  target := .tile 5 1
  cls := .normal
  ack := true
  deadline := none
  addr := 0
  len := 0
  payload := []
  tag := some 0
  attempts := 1
  placed := some 0
  due := true
  cancel := none

/-- A full walk that waits for the answer of the root to the third attempt of PROBE. The outcome of a GET-RECEIPT is held for
the SEND, and another GET-RECEIPT waits for the channel. -/
def grantingState : State := { State.reset with
  ses := { Ses.reset with session := .walking, presence := true }
  rwk := { Rwk.reset with walking := true, kind := .full, starter := .autoEnum, wait := some .rootProbe }
  sbc := { Sbc.reset with
    channel := .attempt, inFlight := some ⟨.wk, ⟨unassigned, .probe, []⟩, 0, 3, none, false⟩, respTimer := some 0
    acReq := some ⟨addressOf 5, .getReceipt, [0]⟩ }
  apq := { Apq.reset with awaiting := [goneSend], acPacket := some goneSend.handle.id, held := some .noResponse } }

/-- Steps 2 and 3 of R78 grant the GET-RECEIPT that waits, so that step 4 finds it in flight and keeps the held outcome. -/
theorem responseTimeout_granting : (responseTimeout false grantingState).apq.held = some .noResponse := by decide +kernel

theorem responseTimeout_granting_presence : (responseTimeout false grantingState).rwk.walking = false
    ∧ (responseTimeout false grantingState).ses.presence = true := by decide +kernel

/-- Refutes O58: its last clause asks for no transaction of the ack collector in flight before the step alone, and the end of
the walk grants one that waits before the sweep looks. -/
theorem not_packetSweeps : ¬ Obligations.PacketSweeps := by
  intro claim
  obtain ⟨hif, out, e⟩ := finishInOrder_spec (responseTimeout false grantingState)
  have fields : (finishInOrder (responseTimeout false grantingState)).apq = (responseTimeout false grantingState).apq
      ∧ (finishInOrder (responseTimeout false grantingState)).rwk = (responseTimeout false grantingState).rwk
      ∧ (finishInOrder (responseTimeout false grantingState)).ses = (responseTimeout false grantingState).ses := by
    rw [e]
    exact ⟨rfl, rfl, rfl⟩
  obtain ⟨apq, rwk, ses⟩ := fields
  obtain ⟨walked, present⟩ := responseTimeout_granting_presence
  obtain ⟨-, rows⟩ := claim.2 (.attemptTimeout false) grantingState _ rfl rfl rfl (by rw [rwk]; exact walked) rfl
    (by rw [ses]; exact present)
  obtain ⟨-, settles⟩ := rows (.inr ⟨false, rfl⟩)
  obtain ⟨-, -, clear⟩ := settles goneSend .noResponse rfl rfl rfl (fun q mem => nomatch mem)
  have held := (clear rfl).1
  rw [apq, responseTimeout_granting] at held
  cases held

end Sys2Proof.Machine
end
